-- ==== Sys2Proof/Word.lean ====
section
/-! DEFINITION. The words of the device: bytes of the links, 16-bit and 32-bit fields, exposure codes. -/

namespace Sys2Proof

/-- One byte of a link or of the raster link (R182, R205). -/
abbrev Byte := BitVec 8

/-- A two-byte field (R199). -/
abbrev Word16 := BitVec 16

/-- A four-byte field, an odometer value or a time base value (Conventions of 00_scope.md). -/
abbrev Word32 := BitVec 32

/-- An exposure code, 0 to 1023; code 0 is no light (Units and ranges of 00_scope.md). -/
abbrev Code := BitVec 10

end Sys2Proof
end

