-- ==== Sys2Proof/Syntax.lean ====
section
/-! DEFINITION. The commands of the device: one constructor for each row of spec/opcode_table.json, with the operands the
chapters give it. A request carries the link it arrives on and its field bytes as the fields of R200, at their full width,
so that a value outside its range is a command like any other. -/

namespace Sys2Proof

/-- The three links (R187). -/
inductive Link where
  | order
  | engine
  | till
  deriving DecidableEq, Repr

/-- One pixel of a source row: three components of 8 bits (R55, R205). -/
structure Pixel where
  c0 : Byte
  c1 : Byte
  c2 : Byte
  deriving DecidableEq, Repr

/-- The requests of the device, by name; their codes and lengths stand in R200. -/
inductive RequestCode where
  | openOrder | addItem | submit | hold | release | cancel | readItem | writeSize | readSize | setWindows | setRemakeLimit
  | loadRoll | unloadRoll | magazineSwitched | transport | cut | patchReading | headFault | headReady | binEmptied
  | trayEmptied | webCleared | densityReset | setWeb | setDensity | setBin | readWeb | readMagazine
  | readPrice | amendOpen | amendSet | amendCommit | amendDrop | collect | collectPartial | writeTariff | lockTariff
  | closeDay | readClosedDay | readTotals | setUncollectedTime | readBin
  | readOrder | readAttention | setMask
  deriving DecidableEq, Repr

/-- The commands. -/
inductive Instr where
  -- resets
  | powerOnReset
  | warmReset
  -- the link ports
  | selectAsserted (link : Link)
  | selectReleased (link : Link)
  | unknownRequest (link : Link) (code len : Byte) (fields : List Byte)
  -- requests of the order link
  | openOrder (link : Link) (cls : Byte)
  | addItem (link : Link) (ticket : Word16) (handle : Word32) (ws hs : Word16) (sizeIndex surface mode copies : Byte)
  | submit (link : Link) (ticket : Word16)
  | hold (link : Link) (ticket : Word16)
  | release (link : Link) (ticket : Word16)
  | cancel (link : Link) (ticket : Word16)
  | readItem (link : Link) (ticket : Word16) (item : Byte)
  | writeSize (link : Link) (index enabled : Byte) (wp lp paperWidth : Word16) (binGroup : Byte)
  | readSize (link : Link) (index : Byte)
  | setWindows (link : Link) (express standard bulk : Word16)
  | setRemakeLimit (link : Link) (limit : Byte)
  -- requests of the engine link
  | loadRoll (link : Link) (magazine : Byte) (width : Word16) (surface : Byte) (length : Word32)
  | unloadRoll (link : Link) (magazine : Byte)
  | magazineSwitched (link : Link) (magazine : Byte)
  | transport (link : Link) (state : Byte)
  | cut (link : Link)
  | patchReading (link : Link) (m0 m1 m2 : Word16)
  | headFault (link : Link) (channel : Byte)
  | headReady (link : Link) (channel : Byte)
  | binEmptied (link : Link) (bin : Byte)
  | trayEmptied (link : Link)
  | webCleared (link : Link)
  | densityReset (link : Link)
  | setWeb (link : Link) (lpath : Word32) (leaderLength endReserve stallTime : Word16)
  | setDensity (link : Link) (k t0 t1 t2 : Word16) (a : Byte) (q : Word16) (tolerance : Byte) (g0 g1 g2 : Word16)
  | setBin (link : Link) (bin group capacity : Byte)
  | readWeb (link : Link) (position part : Byte)
  | readMagazine (link : Link)
  -- requests of the till link
  | readPrice (link : Link) (ticket : Word16) (item : Byte)
  | amendOpen (link : Link) (ticket : Word16)
  | amendSet (link : Link) (ticket : Word16) (kind : Byte) (value : Word32)
  | amendCommit (link : Link) (ticket : Word16)
  | amendDrop (link : Link) (ticket : Word16)
  | collect (link : Link) (ticket : Word16)
  | collectPartial (link : Link) (ticket : Word16)
  | writeTariff (link : Link) (target index : Byte) (f0 f1 f2 f3 f4 : Word16)
  | lockTariff (link : Link)
  | closeDay (link : Link)
  | readClosedDay (link : Link)
  | readTotals (link : Link)
  | setUncollectedTime (link : Link) (minutes : Word16)
  | readBin (link : Link) (bin : Byte)
  -- requests of all three links
  | readOrder (link : Link) (ticket : Word16)
  | readAttention (link : Link)
  | setMask (link : Link) (entries : List Byte)
  -- strobes, timers and the raster link
  | lineStrobe
  | windowExpiry (slot : Fin 64)
  | fetchTimeout
  | stallFirstExpiry
  | stallSecondExpiry
  | uncollectedExpiry (bin : Fin 20)
  | rowFetch
  | rowData (tag : Byte) (pixels : List Pixel)
  | rowFault (tag : Byte) (reason : Word16)
  | rasterFrameUnreadable (code : Byte) (count : Word16)
  -- the device's own work
  | selectionAttempt
  | lineProduced
  | linkByteComplete (link : Link) (byte : Byte)
  | timeBaseTick
  deriving DecidableEq, Repr

end Sys2Proof
end

