-- ==== Sys2Proof/Decode.lean ====
section
/-! DEFINITION. The frames of the links: request codes, lengths and field layouts (R187, R199, R200), the field bytes of a
request command and the command that field bytes spell; and the reply frames of the raster link (R205). The opcode table gives no row any bits, so `decodeTableWord`
reads none. -/

namespace Sys2Proof

/-- R199: a two-byte field, most significant byte first. -/
def be16 (w : Word16) : List Byte := [w.extractLsb' 8 8, w.extractLsb' 0 8]

/-- R199: a four-byte field, most significant byte first. -/
def be32 (w : Word32) : List Byte :=
  [w.extractLsb' 24 8, w.extractLsb' 16 8, w.extractLsb' 8 8, w.extractLsb' 0 8]

/-- R199: the two-byte value whose bytes arrive in this order. -/
def word16 (b1 b0 : Byte) : Word16 := b1 ++ b0

/-- R199: the four-byte value whose bytes arrive in this order. -/
def word32 (b3 b2 b1 b0 : Byte) : Word32 := (b3 ++ b2 : BitVec 16) ++ (b1 ++ b0 : BitVec 16)

/-- Every request, in the order of R200. -/
def RequestCode.all : List RequestCode :=
  [.openOrder, .addItem, .submit, .hold, .release, .cancel, .readItem, .writeSize, .readSize, .setWindows,
   .setRemakeLimit, .loadRoll, .unloadRoll, .magazineSwitched, .transport, .cut, .patchReading, .headFault, .headReady,
   .binEmptied, .trayEmptied, .webCleared, .densityReset, .setWeb, .setDensity, .setBin, .readWeb, .readMagazine,
   .readPrice, .amendOpen, .amendSet, .amendCommit, .amendDrop, .collect, .collectPartial, .writeTariff, .lockTariff,
   .closeDay, .readClosedDay, .readTotals, .setUncollectedTime, .readBin, .readOrder, .readAttention, .setMask]

/-- The request codes of R200. -/
def RequestCode.toByte : RequestCode → Byte
  | .openOrder => 0x11#8 | .addItem => 0x12#8 | .submit => 0x13#8 | .hold => 0x14#8 | .release => 0x15#8
  | .cancel => 0x16#8 | .readItem => 0x17#8 | .writeSize => 0x18#8 | .readSize => 0x19#8 | .setWindows => 0x1A#8
  | .setRemakeLimit => 0x1B#8
  | .loadRoll => 0x21#8 | .unloadRoll => 0x22#8 | .magazineSwitched => 0x23#8 | .transport => 0x24#8 | .cut => 0x25#8
  | .patchReading => 0x26#8 | .headFault => 0x27#8 | .headReady => 0x28#8 | .binEmptied => 0x29#8
  | .trayEmptied => 0x2A#8 | .webCleared => 0x2B#8 | .densityReset => 0x2C#8 | .setWeb => 0x2D#8
  | .setDensity => 0x2E#8 | .setBin => 0x2F#8 | .readWeb => 0x30#8 | .readMagazine => 0x31#8
  | .readPrice => 0x41#8 | .amendOpen => 0x42#8 | .amendSet => 0x43#8 | .amendCommit => 0x44#8 | .amendDrop => 0x45#8
  | .collect => 0x46#8 | .collectPartial => 0x47#8 | .writeTariff => 0x48#8 | .lockTariff => 0x49#8
  | .closeDay => 0x4A#8 | .readClosedDay => 0x4B#8 | .readTotals => 0x4C#8 | .setUncollectedTime => 0x4D#8
  | .readBin => 0x4E#8
  | .readOrder => 0x61#8 | .readAttention => 0x62#8 | .setMask => 0x63#8

/-- The request a code byte names, if it names one (R184, test 2). -/
def RequestCode.ofByte? (b : Byte) : Option RequestCode := RequestCode.all.find? fun c => c.toByte == b

/-- R187: the links a request belongs to. -/
def RequestCode.belongs (link : Link) : RequestCode → Bool
  | .openOrder | .addItem | .submit | .hold | .release | .readItem | .writeSize | .readSize | .setWindows
  | .setRemakeLimit => link == .order
  | .cancel => link == .order || link == .till
  | .loadRoll | .unloadRoll | .magazineSwitched | .transport | .cut | .patchReading | .headFault | .headReady
  | .binEmptied | .trayEmptied | .webCleared | .densityReset | .setWeb | .setDensity | .setBin | .readWeb
  | .readMagazine => link == .engine
  | .readPrice | .amendOpen | .amendSet | .amendCommit | .amendDrop | .collect | .collectPartial | .writeTariff
  | .lockTariff | .closeDay | .readClosedDay | .readTotals | .setUncollectedTime | .readBin => link == .till
  | .readOrder | .readAttention | .setMask => true

/-- R200: the field length L the port requires of a request; SET MASK's differs from link to link. -/
def RequestCode.fieldLength (link : Link) : RequestCode → Nat
  | .openOrder => 1 | .addItem => 14 | .submit => 2 | .hold => 2 | .release => 2 | .cancel => 2 | .readItem => 3
  | .writeSize => 9 | .readSize => 1 | .setWindows => 6 | .setRemakeLimit => 1
  | .loadRoll => 8 | .unloadRoll => 1 | .magazineSwitched => 1 | .transport => 1 | .cut => 0 | .patchReading => 6
  | .headFault => 1 | .headReady => 1 | .binEmptied => 1 | .trayEmptied => 0 | .webCleared => 0 | .densityReset => 0
  | .setWeb => 10 | .setDensity => 18 | .setBin => 3 | .readWeb => 2 | .readMagazine => 0
  | .readPrice => 3 | .amendOpen => 2 | .amendSet => 7 | .amendCommit => 2 | .amendDrop => 2 | .collect => 2
  | .collectPartial => 2 | .writeTariff => 12 | .lockTariff => 0 | .closeDay => 0 | .readClosedDay => 0
  | .readTotals => 0 | .setUncollectedTime => 2 | .readBin => 1
  | .readOrder => 2 | .readAttention => 0
  | .setMask => match link with | .order => 3 | .engine => 7 | .till => 4

/-- R200: the link, the name and the field bytes of a request command; no other command is a request. -/
def Instr.request : Instr → Option (Link × RequestCode × List Byte)
  | .openOrder l cls => some (l, .openOrder, [cls])
  | .addItem l t h ws hs z u m c => some (l, .addItem, be16 t ++ be32 h ++ be16 ws ++ be16 hs ++ [z, u, m, c])
  | .submit l t => some (l, .submit, be16 t)
  | .hold l t => some (l, .hold, be16 t)
  | .release l t => some (l, .release, be16 t)
  | .cancel l t => some (l, .cancel, be16 t)
  | .readItem l t n => some (l, .readItem, be16 t ++ [n])
  | .writeSize l i e wp lp w g => some (l, .writeSize, [i, e] ++ be16 wp ++ be16 lp ++ be16 w ++ [g])
  | .readSize l i => some (l, .readSize, [i])
  | .setWindows l e m b => some (l, .setWindows, be16 e ++ be16 m ++ be16 b)
  | .setRemakeLimit l v => some (l, .setRemakeLimit, [v])
  | .loadRoll l m w u n => some (l, .loadRoll, [m] ++ be16 w ++ [u] ++ be32 n)
  | .unloadRoll l m => some (l, .unloadRoll, [m])
  | .magazineSwitched l m => some (l, .magazineSwitched, [m])
  | .transport l v => some (l, .transport, [v])
  | .cut l => some (l, .cut, [])
  | .patchReading l a b c => some (l, .patchReading, be16 a ++ be16 b ++ be16 c)
  | .headFault l c => some (l, .headFault, [c])
  | .headReady l c => some (l, .headReady, [c])
  | .binEmptied l b => some (l, .binEmptied, [b])
  | .trayEmptied l => some (l, .trayEmptied, [])
  | .webCleared l => some (l, .webCleared, [])
  | .densityReset l => some (l, .densityReset, [])
  | .setWeb l p d e t => some (l, .setWeb, be32 p ++ be16 d ++ be16 e ++ be16 t)
  | .setDensity l k t0 t1 t2 a q r g0 g1 g2 =>
    some (l, .setDensity,
      be16 k ++ be16 t0 ++ be16 t1 ++ be16 t2 ++ [a] ++ be16 q ++ [r] ++ be16 g0 ++ be16 g1 ++ be16 g2)
  | .setBin l b g c => some (l, .setBin, [b, g, c])
  | .readWeb l p q => some (l, .readWeb, [p, q])
  | .readMagazine l => some (l, .readMagazine, [])
  | .readPrice l t n => some (l, .readPrice, be16 t ++ [n])
  | .amendOpen l t => some (l, .amendOpen, be16 t)
  | .amendSet l t k v => some (l, .amendSet, be16 t ++ [k] ++ be32 v)
  | .amendCommit l t => some (l, .amendCommit, be16 t)
  | .amendDrop l t => some (l, .amendDrop, be16 t)
  | .collect l t => some (l, .collect, be16 t)
  | .collectPartial l t => some (l, .collectPartial, be16 t)
  | .writeTariff l t i f0 f1 f2 f3 f4 =>
    some (l, .writeTariff, [t, i] ++ be16 f0 ++ be16 f1 ++ be16 f2 ++ be16 f3 ++ be16 f4)
  | .lockTariff l => some (l, .lockTariff, [])
  | .closeDay l => some (l, .closeDay, [])
  | .readClosedDay l => some (l, .readClosedDay, [])
  | .readTotals l => some (l, .readTotals, [])
  | .setUncollectedTime l m => some (l, .setUncollectedTime, be16 m)
  | .readBin l b => some (l, .readBin, [b])
  | .readOrder l t => some (l, .readOrder, be16 t)
  | .readAttention l => some (l, .readAttention, [])
  | .setMask l es => some (l, .setMask, es)
  | .powerOnReset | .warmReset | .selectAsserted _ | .selectReleased _ | .unknownRequest _ _ _ _ | .lineStrobe
  | .windowExpiry _ | .fetchTimeout | .stallFirstExpiry | .stallSecondExpiry | .uncollectedExpiry _ | .rowFetch
  | .rowData _ _ | .rowFault _ _ | .rasterFrameUnreadable _ _ | .selectionAttempt | .lineProduced
  | .linkByteComplete _ _ | .timeBaseTick => none

/-- R200: the request command that field bytes of a named request spell on a link; none where their number is not the one
the request has. -/
def decodeFields (l : Link) : RequestCode → List Byte → Option Instr
  | .openOrder, [c] => some (.openOrder l c)
  | .addItem, [t1, t0, h3, h2, h1, h0, w1, w0, s1, s0, z, u, m, c] =>
    some (.addItem l (word16 t1 t0) (word32 h3 h2 h1 h0) (word16 w1 w0) (word16 s1 s0) z u m c)
  | .submit, [t1, t0] => some (.submit l (word16 t1 t0))
  | .hold, [t1, t0] => some (.hold l (word16 t1 t0))
  | .release, [t1, t0] => some (.release l (word16 t1 t0))
  | .cancel, [t1, t0] => some (.cancel l (word16 t1 t0))
  | .readItem, [t1, t0, n] => some (.readItem l (word16 t1 t0) n)
  | .writeSize, [i, e, p1, p0, q1, q0, w1, w0, g] =>
    some (.writeSize l i e (word16 p1 p0) (word16 q1 q0) (word16 w1 w0) g)
  | .readSize, [i] => some (.readSize l i)
  | .setWindows, [e1, e0, m1, m0, b1, b0] => some (.setWindows l (word16 e1 e0) (word16 m1 m0) (word16 b1 b0))
  | .setRemakeLimit, [v] => some (.setRemakeLimit l v)
  | .loadRoll, [m, w1, w0, u, n3, n2, n1, n0] => some (.loadRoll l m (word16 w1 w0) u (word32 n3 n2 n1 n0))
  | .unloadRoll, [m] => some (.unloadRoll l m)
  | .magazineSwitched, [m] => some (.magazineSwitched l m)
  | .transport, [v] => some (.transport l v)
  | .cut, [] => some (.cut l)
  | .patchReading, [a1, a0, b1, b0, c1, c0] => some (.patchReading l (word16 a1 a0) (word16 b1 b0) (word16 c1 c0))
  | .headFault, [c] => some (.headFault l c)
  | .headReady, [c] => some (.headReady l c)
  | .binEmptied, [b] => some (.binEmptied l b)
  | .trayEmptied, [] => some (.trayEmptied l)
  | .webCleared, [] => some (.webCleared l)
  | .densityReset, [] => some (.densityReset l)
  | .setWeb, [p3, p2, p1, p0, d1, d0, e1, e0, t1, t0] =>
    some (.setWeb l (word32 p3 p2 p1 p0) (word16 d1 d0) (word16 e1 e0) (word16 t1 t0))
  | .setDensity, [k1, k0, x1, x0, y1, y0, z1, z0, a, q1, q0, r, u1, u0, v1, v0, w1, w0] =>
    some (.setDensity l (word16 k1 k0) (word16 x1 x0) (word16 y1 y0) (word16 z1 z0) a (word16 q1 q0) r
      (word16 u1 u0) (word16 v1 v0) (word16 w1 w0))
  | .setBin, [b, g, c] => some (.setBin l b g c)
  | .readWeb, [p, q] => some (.readWeb l p q)
  | .readMagazine, [] => some (.readMagazine l)
  | .readPrice, [t1, t0, n] => some (.readPrice l (word16 t1 t0) n)
  | .amendOpen, [t1, t0] => some (.amendOpen l (word16 t1 t0))
  | .amendSet, [t1, t0, k, v3, v2, v1, v0] => some (.amendSet l (word16 t1 t0) k (word32 v3 v2 v1 v0))
  | .amendCommit, [t1, t0] => some (.amendCommit l (word16 t1 t0))
  | .amendDrop, [t1, t0] => some (.amendDrop l (word16 t1 t0))
  | .collect, [t1, t0] => some (.collect l (word16 t1 t0))
  | .collectPartial, [t1, t0] => some (.collectPartial l (word16 t1 t0))
  | .writeTariff, [t, i, a1, a0, b1, b0, c1, c0, d1, d0, e1, e0] =>
    some (.writeTariff l t i (word16 a1 a0) (word16 b1 b0) (word16 c1 c0) (word16 d1 d0) (word16 e1 e0))
  | .lockTariff, [] => some (.lockTariff l)
  | .closeDay, [] => some (.closeDay l)
  | .readClosedDay, [] => some (.readClosedDay l)
  | .readTotals, [] => some (.readTotals l)
  | .setUncollectedTime, [m1, m0] => some (.setUncollectedTime l (word16 m1 m0))
  | .readBin, [b] => some (.readBin l b)
  | .readOrder, [t1, t0] => some (.readOrder l (word16 t1 t0))
  | .readAttention, [] => some (.readAttention l)
  | .setMask, es => some (.setMask l es)
  | _, _ => none

/-- R182, R183: the bytes of a request frame; a field length above 62 ends the frame at its second byte. -/
def frameBytes (code : Byte) (fields : List Byte) : List Byte :=
  code :: BitVec.ofNat 8 fields.length :: (if fields.length ≤ 62 then fields else [])

/-- R183: whether received bytes make a complete request. -/
def frameComplete : List Byte → Bool
  | _ :: len :: fields => decide (len.toNat > 62 ∨ len.toNat ≤ fields.length)
  | _ => false

/-! ## Reply frames of the raster link (R205) -/

/-- R205: a header that cannot be read as ROW DATA or ROW FAULT. -/
def unreadableHeader (code : Byte) (count : Word16) : Bool :=
  (code != 0x81#8 && code != 0x82#8) || (code == 0x81#8 && (count.toNat == 0 || decide (count.toNat > 16384)))

/-- R205: the component bytes of a pixel. -/
def Pixel.bytes (p : Pixel) : List Byte := [p.c0, p.c1, p.c2]

/-- R205: the pixels that component bytes carry, three bytes each. -/
def pixelsOf : List Byte → Option (List Pixel)
  | [] => some []
  | a :: b :: c :: rest => (pixelsOf rest).map fun ps => { c0 := a, c1 := b, c2 := c } :: ps
  | _ => none

/-- R205: the command that a reply frame spells: its header decides whether it is ROW DATA, ROW FAULT or a frame that cannot
be read, and ROW DATA has three bytes for each pixel of its count. -/
def decodeReplyFrame : List Byte → Option Instr
  | code :: tag :: n1 :: n0 :: body =>
    if unreadableHeader code (word16 n1 n0) then
      if body = [] then some (.rasterFrameUnreadable code (word16 n1 n0)) else none
    else if code = 0x82#8 then if body = [] then some (.rowFault tag (word16 n1 n0)) else none
    else
      match pixelsOf body with
      | some pixels => if pixels.length = (word16 n1 n0).toNat then some (.rowData tag pixels) else none
      | none => none
  | _ => none

/-- The command a word spells by the opcode table's bits. The table gives no row any bits, so no word spells one. -/
def decodeTableWord (_nbits _w : Nat) : Option Instr := none

end Sys2Proof
end

