-- ==== Sys2Proof/Config.lean ====
section
/-! DEFINITION. The values the manual leaves open, as constants without a body (log entries 3 and 27). -/

namespace Sys2Proof.Config

/-- DESIGN CHOICE (log entry 3). The content of a reply field to which the manual gives no value: one free word for
each place of the model's counter of free values. Nothing is known about it. -/
opaque freeWord : Nat → Word32

/-- DESIGN CHOICE (log entry 27). The level of the raster source's ready input when the device looks at it: one free value for
each place of the model's counter of free values. -/
opaque readyInput : Nat → Bool

end Sys2Proof.Config
end

