-- ==== Sys2Proof/Machine/State.lean ====
section
/-! DEFINITION. The state of the device, block by block as the block diagram of 00_scope.md divides it, and its value after
power-on. -/

namespace Sys2Proof.Machine

/-! ## Names of the enumerated values (R206) -/

/-- The class of an order (R1). -/
inductive OrderClass where
  | express
  | standard
  | bulk
  deriving DecidableEq, Repr

/-- The state of an order (R1). -/
inductive OrderState where
  | opened
  | ready
  | inPrint
  | held
  | complete
  | withdrawn
  deriving DecidableEq, Repr

/-- The link whose CANCEL withdrew an order (R1). -/
inductive Requester where
  | nobody
  | orderLink
  | tillLink
  deriving DecidableEq, Repr

/-- Paper surface (R2, R46). -/
inductive Surface where
  | gloss
  | matt
  | lustre
  deriving DecidableEq, Repr

/-- Print mode (R2). -/
inductive Mode where
  | fill
  | fit
  deriving DecidableEq, Repr

/-- The bin group of a size entry (R26). -/
inductive PrintGroup where
  | small
  | large
  deriving DecidableEq, Repr

/-- The group of a bin (R137). -/
inductive BinGroup where
  | small
  | large
  | any
  deriving DecidableEq, Repr

/-- The state of a bin (R137). -/
inductive BinState where
  | free
  | filling
  | full
  | waiting
  | clearance
  deriving DecidableEq, Repr

/-- A paper magazine (R46). -/
inductive Magazine where
  | a
  | b
  deriving DecidableEq, Repr

/-- The status of a reply (R186). -/
inductive Status where
  | ok
  | clamped
  | unknown
  | notOnThisLink
  | malformed
  | noOrder
  | wrongState
  | full
  | locked
  | unread
  deriving DecidableEq, Repr

/-- A quantity held once for each of the channels 0, 1 and 2. -/
structure PerChannel (α : Type) where
  c0 : α
  c1 : α
  c2 : α
  deriving DecidableEq, Repr

/-- Records held by number: the numbers in use with their records, in rising order of number. -/
abbrev Table (α : Type) := List (Nat × α)

/-! ## Order Table (chapter 1) -/

/-- The paper a marked order waits for, recorded with its paper-wait mark (R40). -/
structure PaperNeed where
  width : Nat
  surface : Surface
  deriving DecidableEq, Repr

/-- R1: an order record in use. Its slot is its number in the order table. -/
structure Order where
  ticket : Nat
  cls : OrderClass
  state : OrderState
  /-- Absent until SUBMIT. -/
  eligibleAt : Option Word32
  windowEnded : Bool
  started : Bool
  /-- Item record numbers, in the order the items were added. -/
  items : List Nat
  /-- Bin numbers 1 to 20, in order of allocation. -/
  bins : List Nat
  overflow : Nat
  faulted : Bool
  /-- The paper-wait flag; the mark carries the paper it was set for (R40). -/
  paperWait : Option PaperNeed
  earlyPickup : Bool
  pickedUp : Bool
  faultUnreported : Bool
  completeUnreported : Bool
  shortageUnreported : Bool
  requester : Requester
  cancelNotice : Bool
  collectedPartial : Bool
  gross : Nat
  discount : Nat
  adjustment : Int
  final : Nat
  deriving DecidableEq, Repr

/-- R2: an item record in use. -/
structure Item where
  handle : Word32
  ws : Nat
  hs : Nat
  sizeIndex : Nat
  surface : Surface
  mode : Mode
  ordered : Nat
  waiting : Nat
  onWeb : Nat
  delivered : Nat
  writtenOff : Nat
  remakesUsed : Nat
  charged : Nat
  waived : Bool
  faulted : Bool
  deriving DecidableEq, Repr

/-- R26: an entry of the size table. -/
structure SizeEntry where
  enabled : Bool
  wp : Nat
  lp : Nat
  paperWidth : Nat
  group : PrintGroup
  deriving DecidableEq, Repr

/-- R28: the window length of each class, in seconds. -/
structure Windows where
  express : Nat
  standard : Nat
  bulk : Nat
  deriving DecidableEq, Repr

/-- The state of the Order Table (R1, R2, R3, R26, R28, R29). A number that a table does not list is a free record. -/
structure OrderTable where
  /-- Records in use, by slot 0 to 63. -/
  orders : Table Order
  /-- Item records in use, by number 0 to 511. -/
  items : Table Item
  nextTicket : Nat
  /-- Entries 0 to 15. -/
  sizes : Table SizeEntry
  windows : Windows
  remakeLimit : Nat
  deriving DecidableEq, Repr

/-! ## Exposure Scheduler (chapter 2) -/

/-- R33: the standing selection. -/
inductive Selection where
  | print (slot item copy : Nat)
  | patch
  deriving DecidableEq, Repr

/-- R46: a magazine record. -/
structure MagazineRecord where
  present : Bool
  width : Nat
  surface : Surface
  remaining : Nat
  low : Bool
  deriving DecidableEq, Repr

/-- The state of the Exposure Scheduler (R31, R33, R45, R46, R50, R52, R53). -/
structure Scheduler where
  /-- The class lists: slots, head first (R31). -/
  express : List Nat
  standard : List Nat
  bulk : List Nat
  selection : Option Selection
  patchCounter : Nat
  switchPatch : Bool
  resetPatch : Bool
  magA : MagazineRecord
  magB : MagazineRecord
  active : Option Magazine
  /-- SWITCH REQUESTED and its target (R50). -/
  switchRequested : Option Magazine
  leaderPending : Bool
  leaderLength : Nat
  endReserve : Nat
  /-- R35: whether one of the events that call for a new attempt has come about since the last attempt. -/
  attemptCause : Bool
  deriving DecidableEq, Repr

/-! ## Resampler (chapter 3) -/

/-- R58, R59, R60: the geometry of a PRINT work. -/
structure Geometry where
  level : Nat
  wsN : Nat
  hsN : Nat
  step : Nat
  ox : Int
  oy : Int
  deriving DecidableEq, Repr

/-- R55: what a PRINT work carries, and the copy it prints (R80 asks for its ticket and item). -/
structure PrintJob where
  slot : Nat
  item : Nat
  copy : Nat
  handle : Word32
  ws : Nat
  hs : Nat
  mode : Mode
  wp : Nat
  lp : Nat
  geometry : Geometry
  deriving DecidableEq, Repr

/-- R55: the kind of a work, with the fields of that kind. -/
inductive Job where
  | print (job : PrintJob)
  | patch (width : Nat)
  deriving DecidableEq, Repr

/-- Whose work the Resampler does: the standing selection's, that of the print or patch being exposed, or that of a
print already closed (R84), known by its segment's start odometer (log entry 15). -/
inductive WorkOwner where
  | selection
  | exposed
  | trailing (start : Word32)
  deriving DecidableEq, Repr

/-- R55: the work record. -/
structure Work where
  owner : WorkOwner
  job : Job
  nextLine : Nat
  deriving DecidableEq, Repr

/-- R55: a source row held in a row slot. -/
structure Row where
  index : Nat
  pixels : List Pixel
  deriving DecidableEq, Repr

/-- The state of the Resampler (R55). -/
structure Resampler where
  work : Option Work
  rowA : Option Row
  rowB : Option Row
  gains : PerChannel Nat
  deriving DecidableEq, Repr

/-! ## Raster Fetch (chapter 4) -/

/-- R75: the fetch in flight. The work it serves is the Resampler's present work (R76). -/
structure Fetch where
  tag : Byte
  handle : Word32
  level : Nat
  row : Nat
  expected : Nat
  deriving DecidableEq, Repr

/-- R75: the cause of a raster fault. -/
inductive FaultCause where
  | rowFault (reason : Nat)
  | timeout
  | wrongLength
  deriving DecidableEq, Repr

/-- R80: the phase of a raster fault. -/
inductive FaultPhase where
  | beforeStart
  | during
  deriving DecidableEq, Repr

/-- R75: the last fault record. -/
structure RasterFault where
  cause : FaultCause
  ticket : Nat
  item : Nat
  level : Nat
  row : Nat
  phase : FaultPhase
  deriving DecidableEq, Repr

/-- R205: what the raster link is doing: nothing, sending a ROW FETCH frame in a select period of its own, or clocking in a
reply frame. -/
inductive RasterPhase where
  | idle
  | sending (frame : List Byte)
  | receiving
  deriving DecidableEq, Repr

/-- R205: the raster link, with the source's ready input as the device last saw it. -/
structure RasterLink where
  phase : RasterPhase
  ready : Bool
  deriving DecidableEq, Repr

/-- The state of Raster Fetch (R75). A fetch in flight whose timer is stopped is waiting to be sent (R205). -/
structure RasterFetch where
  inFlight : Option Fetch
  nextTag : Byte
  timer : Option Word32
  lastFault : Option RasterFault
  faultCount : Nat
  /-- The ROW FETCH frame last sent on the raster link, kept as the record of that output (log entry 16). -/
  frameSent : Option (List Byte)
  /-- R205; its ready input is seen low at power-on (log entry 27). -/
  link : RasterLink
  deriving DecidableEq, Repr

/-! ## Channel Output (chapter 4) -/

/-- What is exposed or queued: a print or a patch. -/
inductive ExposureKind where
  | print
  | patch
  deriving DecidableEq, Repr

/-- R84: the owner of a queued line. -/
inductive LineOwner where
  | selection
  | exposed
  deriving DecidableEq, Repr

/-- R74: the 4,096 code positions of a line on each channel, given up to the last column of the print or patch; every
position after those carries 0 (log entry 14). -/
abbrev Codes := PerChannel (List Code)

/-- R84: a line of the line queue. -/
structure Line where
  owner : LineOwner
  number : Nat
  kind : ExposureKind
  codes : Codes
  deriving DecidableEq, Repr

/-- R84: the exposure record. -/
structure Exposure where
  kind : ExposureKind
  lineCount : Nat
  linesExposed : Nat
  blanked : Bool
  repeatCount : Nat
  previous : Codes
  deriving DecidableEq, Repr

/-- The state of Channel Output (R84). -/
structure ChannelOutput where
  queue : List Line
  exposure : Option Exposure
  enabled : PerChannel Bool
  repeatTolerance : Nat
  /-- R86: whether the last strobe carried the last line of a print, patch or leader. -/
  lastStrobeEnded : Bool
  /-- What the three heads received at the last strobe (R87, R93), kept as the record of those outputs (log entry 16). -/
  heads : Codes
  deriving DecidableEq, Repr

/-! ## Density Tracker (chapter 5) -/

/-- R97: the class of a reading. -/
inductive ReadingClass where
  | good
  | outOfTolerance
  | implausible
  deriving DecidableEq, Repr

/-- R107: the record of a reading. -/
structure Reading where
  start : Word32
  cls : ReadingClass
  suspect : Bool
  spoiled : Bool
  preReset : Bool
  errors : PerChannel Int
  offsets : PerChannel Int
  implausible : Nat
  fault : Bool
  marked : Nat
  deriving DecidableEq, Repr

/-- The state of the Density Tracker (R95). -/
structure Density where
  offsets : PerChannel Int
  targets : PerChannel Nat
  a : Nat
  q : Nat
  k : Nat
  implausible : Nat
  fault : Bool
  patchUnread : Bool
  lastReading : Option Reading
  deriving DecidableEq, Repr

/-! ## Web Tracker (chapter 6) -/

/-- R111: the kind of a segment; a PRINT carries its copy. -/
inductive SegmentKind where
  | print (slot item copy : Nat)
  | patch
  | leader
  | blank
  deriving DecidableEq, Repr

/-- R111: a segment of the web map. -/
structure Segment where
  kind : SegmentKind
  start : Word32
  length : Nat
  closed : Bool
  suspect : Bool
  split : Bool
  merged : Bool
  spoiled : Bool
  read : Bool
  preReset : Bool
  deriving DecidableEq, Repr

/-- R112: the transport state. -/
inductive Transport where
  | run
  | stop
  deriving DecidableEq, Repr

/-- R128: the stage of the stall monitor, with its expiry time. -/
inductive StallStage where
  | off
  | first (expiry : Word32)
  | second (expiry : Word32)
  | expired
  deriving DecidableEq, Repr

/-- R112: the cause of WEB FAULT. -/
inductive WebFaultCause where
  | stall
  | syncLost
  deriving DecidableEq, Repr

/-- R117: the unlisted stretch. -/
structure Stretch where
  start : Word32
  length : Nat
  deriving DecidableEq, Repr

/-- R127: the outcome of a cut. -/
inductive CutOutcome where
  | matched
  | early
  | duringFault
  deriving DecidableEq, Repr

/-- R127: the piece a cut took from the map. -/
inductive Piece where
  | nothing
  | single (kind : SegmentKind)
  | group (segments : Nat)
  deriving DecidableEq, Repr

/-- R127: the fate of a single PRINT's copy. -/
inductive Fate where
  | nothing
  | delivered
  | remade
  | writtenOff
  deriving DecidableEq, Repr

/-- R127: the reply record of a cut. -/
structure CutRecord where
  outcome : CutOutcome
  destination : Nat
  piece : Piece
  odometer : Word32
  /-- d, when a reference end existed at judging. -/
  deviation : Option Int
  /-- The ticket of a single PRINT, 0 otherwise. -/
  ticket : Nat
  fate : Fate
  remade : Nat
  writtenOff : Nat
  deriving DecidableEq, Repr

/-- The state of the Web Tracker (R111, R112). -/
structure Web where
  /-- Oldest segment first. -/
  map : List Segment
  odometer : Word32
  lpath : Nat
  transport : Transport
  stallTime : Nat
  stage : StallStage
  /-- STALL holds. -/
  stall : Bool
  /-- WEB FAULT and its cause. -/
  fault : Option WebFaultCause
  unlisted : Option Stretch
  cutsTaken : Nat
  lastCut : Option CutRecord
  /-- The leader length the newest LEADER opened with (R116). -/
  leaderTarget : Nat
  /-- Whether the last strobe gave a pulse on the mark output (R115), kept as the record of that output (log entry 16). -/
  mark : Bool
  deriving DecidableEq, Repr

/-! ## Sort Control (chapter 7) -/

/-- R137: a bin record. -/
structure Bin where
  state : BinState
  group : BinGroup
  capacity : Nat
  count : Nat
  ticket : Option Nat
  owner : Option Nat
  timer : Option Word32
  uncollected : Bool
  deriving DecidableEq, Repr

/-- The state of Sort Control (R137, R138). -/
structure SortControl where
  /-- Bins 1 to 20. -/
  bins : Table Bin
  trayCount : Nat
  rejectCount : Nat
  /-- Minutes. -/
  uncollectedTime : Nat
  deriving DecidableEq, Repr

/-! ## Price Unit (chapter 8) -/

/-- R158: a size entry of the tariff. -/
structure TariffEntry where
  n1 : Nat
  n2 : Nat
  p1 : Nat
  p2 : Nat
  p3 : Nat
  deriving DecidableEq, Repr

/-- R158: the surface surcharges. -/
structure Surcharges where
  gloss : Nat
  matt : Nat
  lustre : Nat
  deriving DecidableEq, Repr

/-- R165: a present amendment. The waive set is one bit for each item number, as R202 sends it. -/
structure Amendment where
  ticket : Nat
  slot : Nat
  discount : Nat
  adjustment : Int
  waive : BitVec 24
  deriving DecidableEq, Repr

/-- R177: the running totals. -/
structure Totals where
  ordersCollected : Nat
  printsCharged : Nat
  printsRejected : Nat
  remakesMade : Nat
  partialCollections : Nat
  takings : Nat
  deriving DecidableEq, Repr

/-- R180: the closed-day record. -/
structure ClosedDay where
  totals : Totals
  number : Nat
  read : Bool
  deriving DecidableEq, Repr

/-- The state of the Price Unit (R157). -/
structure PriceUnit where
  /-- Entries 0 to 15. -/
  tariff : Table TariffEntry
  surcharges : Surcharges
  lock : Bool
  amendment : Option Amendment
  totals : Totals
  closedDay : ClosedDay
  deriving DecidableEq, Repr

/-! ## Link Interfaces (chapter 9) -/

/-- R182: a link port, in its phase. -/
inductive Port where
  | idle
  | request (received : List Byte)
  | reply (bytes : List Byte) (sent : Nat)
  | spent
  deriving DecidableEq, Repr

/-- One link's port and the mask of its attention unit: one entry per cause in priority order, set when MASKED (R189). -/
structure LinkUnit where
  port : Port
  mask : List Bool
  deriving DecidableEq, Repr

/-- The state of the Link Interfaces (R182, R189). -/
structure LinkInterfaces where
  order : LinkUnit
  engine : LinkUnit
  till : LinkUnit
  deriving DecidableEq, Repr

/-! ## The machine -/

/-- The whole state. `pending` is the queue of waiting commands, first in, first out; `freeCount` numbers the free values
taken so far (log entry 3). -/
structure State where
  orderTable : OrderTable
  scheduler : Scheduler
  resampler : Resampler
  fetch : RasterFetch
  channel : ChannelOutput
  density : Density
  web : Web
  sort : SortControl
  price : PriceUnit
  links : LinkInterfaces
  /-- The internal time base, milliseconds (Conventions of 00_scope.md). -/
  timeBase : Word32
  freeCount : Nat
  pending : List Instr
  deriving DecidableEq, Repr

/-- The device stops on no command: every case has a next state in the chapters (log entry 26), so there is no fault. -/
inductive Fault where
  deriving DecidableEq, Repr

/-- Why a command is refused by the model. -/
inductive Refusal where
  /-- Raised by the dispatch of a command that has no meaning yet; safe, since nothing can be proved of its effect. -/
  | notModelled (mnemonic : String)
  deriving DecidableEq, Repr

/-! ## Power-on (R30, R54, R55, R75, R84, R110, R112, R156, R181, R182, R197) -/

/-- R26: a size entry at power-on. -/
def SizeEntry.reset : SizeEntry :=
  { enabled := false, wp := 1, lp := 1, paperWidth := 89, group := .small }

/-- R46: a magazine record at power-on. -/
def MagazineRecord.reset : MagazineRecord :=
  { present := false, width := 0, surface := .gloss, remaining := 0, low := false }

/-- R156: a bin at power-on. -/
def Bin.reset : Bin :=
  { state := .free, group := .any, capacity := 50, count := 0, ticket := none, owner := none, timer := none,
    uncollected := false }

/-- R158: a tariff entry at power-on. -/
def TariffEntry.reset : TariffEntry := { n1 := 0, n2 := 0, p1 := 0, p2 := 0, p3 := 0 }

/-- R177: the totals at power-on and after CLOSE DAY. -/
def Totals.zero : Totals :=
  { ordersCollected := 0, printsCharged := 0, printsRejected := 0, remakesMade := 0, partialCollections := 0,
    takings := 0 }

/-- A line of code 0 at every position of every channel (R73, R74). -/
def Codes.blank : Codes := { c0 := [], c1 := [], c2 := [] }

/-- R30. -/
def OrderTable.reset : OrderTable :=
  { orders := [], items := [], nextTicket := 1
    sizes := (List.range 16).map fun i => (i, SizeEntry.reset)
    windows := { express := 0, standard := 20, bulk := 60 }
    remakeLimit := 2 }

/-- R54; the attempt cause is the model's own (log entry 16). -/
def Scheduler.reset : Scheduler :=
  { express := [], standard := [], bulk := [], selection := none, patchCounter := 0, switchPatch := false
    resetPatch := false, magA := MagazineRecord.reset, magB := MagazineRecord.reset, active := none
    switchRequested := none, leaderPending := false, leaderLength := 250, endReserve := 500, attemptCause := false }

/-- R55. -/
def Resampler.reset : Resampler :=
  { work := none, rowA := none, rowB := none, gains := { c0 := 512, c1 := 512, c2 := 512 } }

/-- R75, R205; the frame sent is the model's own (log entry 16). -/
def RasterFetch.reset : RasterFetch :=
  { inFlight := none, nextTag := 0, timer := none, lastFault := none, faultCount := 0, frameSent := none
    link := { phase := .idle, ready := false } }

/-- R84; the record of the heads and of the last strobe is the model's own (log entry 16). -/
def ChannelOutput.reset : ChannelOutput :=
  { queue := [], exposure := none, enabled := { c0 := true, c1 := true, c2 := true }, repeatTolerance := 2
    lastStrobeEnded := false, heads := Codes.blank }

/-- R110. -/
def Density.reset : Density :=
  { offsets := { c0 := 0, c1 := 0, c2 := 0 }, targets := { c0 := 512, c1 := 512, c2 := 512 }, a := 4, q := 24, k := 25
    implausible := 0, fault := false, patchUnread := false, lastReading := none }

/-- R111, R112; the leader target and the record of the mark output are the model's own (log entry 16). -/
def Web.reset : Web :=
  { map := [], odometer := 0, lpath := 0, transport := .stop, stallTime := 2000, stage := .off, stall := false
    fault := none, unlisted := none, cutsTaken := 0, lastCut := none, leaderTarget := 0, mark := false }

/-- R156. -/
def SortControl.reset : SortControl :=
  { bins := (List.range 20).map fun i => (i + 1, Bin.reset), trayCount := 0, rejectCount := 0, uncollectedTime := 120 }

/-- R181. -/
def PriceUnit.reset : PriceUnit :=
  { tariff := (List.range 16).map fun i => (i, TariffEntry.reset), surcharges := { gloss := 0, matt := 0, lustre := 0 }
    lock := false, amendment := none, totals := Totals.zero
    closedDay := { totals := Totals.zero, number := 0, read := true } }

/-- R182, R197: ports idle, every mask entry ENABLED. -/
def LinkInterfaces.reset : LinkInterfaces :=
  { order := { port := .idle, mask := List.replicate 3 false }
    engine := { port := .idle, mask := List.replicate 7 false }
    till := { port := .idle, mask := List.replicate 4 false } }

/-- The machine right after power-on reset. -/
def State.reset : State :=
  { orderTable := OrderTable.reset, scheduler := Scheduler.reset, resampler := Resampler.reset, fetch := RasterFetch.reset
    channel := ChannelOutput.reset, density := Density.reset, web := Web.reset, sort := SortControl.reset
    price := PriceUnit.reset, links := LinkInterfaces.reset, timeBase := 0, freeCount := 0, pending := [] }

end Sys2Proof.Machine
end

