-- ==== Sys2Proof/Machine/Operands.lean ====
section
/-! DEFINITION. Operand forms: the encodings of enumerated fields (R206), numbers in and out of field bytes (R199), and the
form of a reply. -/

namespace Sys2Proof.Machine

/-! ## Enumerated fields received in requests (R206) -/

/-- Class: 1 EXPRESS, 2 STANDARD, 3 BULK. -/
def OrderClass.ofByte? (b : Byte) : Option OrderClass :=
  if b = 1#8 then some .express else if b = 2#8 then some .standard else if b = 3#8 then some .bulk else none

/-- Surface: 1 GLOSS, 2 MATT, 3 LUSTRE. -/
def Surface.ofByte? (b : Byte) : Option Surface :=
  if b = 1#8 then some .gloss else if b = 2#8 then some .matt else if b = 3#8 then some .lustre else none

/-- Mode: 1 FILL, 2 FIT. -/
def Mode.ofByte? (b : Byte) : Option Mode :=
  if b = 1#8 then some .fill else if b = 2#8 then some .fit else none

/-- Bin group of a size entry: 1 SMALL, 2 LARGE; ANY is MALFORMED in WRITE SIZE. -/
def PrintGroup.ofByte? (b : Byte) : Option PrintGroup :=
  if b = 1#8 then some .small else if b = 2#8 then some .large else none

/-- Bin group of a bin: 1 SMALL, 2 LARGE, 3 ANY. -/
def BinGroup.ofByte? (b : Byte) : Option BinGroup :=
  if b = 1#8 then some .small else if b = 2#8 then some .large else if b = 3#8 then some .any else none

/-- Magazine: 1 A, 2 B; 0 is received in no request. -/
def Magazine.ofByte? (b : Byte) : Option Magazine :=
  if b = 1#8 then some .a else if b = 2#8 then some .b else none

/-- Transport: 1 RUN, 2 STOP. -/
def Transport.ofByte? (b : Byte) : Option Transport :=
  if b = 1#8 then some .run else if b = 2#8 then some .stop else none

/-- A bin number, 1 to 20. -/
def binNumber? (b : Byte) : Option Nat := if 1 ≤ b.toNat ∧ b.toNat ≤ 20 then some b.toNat else none

/-- Mask entry: 0 ENABLED, 1 MASKED. -/
def maskEntry? (b : Byte) : Option Bool := if b = 0#8 then some false else if b = 1#8 then some true else none

/-! ## Enumerated fields sent in replies (R206) -/

/-- Status. -/
def Status.toByte : Status → Byte
  | .ok => 0 | .clamped => 1 | .unknown => 2 | .notOnThisLink => 3 | .malformed => 4 | .noOrder => 5 | .wrongState => 6
  | .full => 7 | .locked => 8 | .unread => 9

/-- Class. -/
def OrderClass.toByte : OrderClass → Byte
  | .express => 1 | .standard => 2 | .bulk => 3

/-- Order state. -/
def OrderState.toByte : OrderState → Byte
  | .opened => 1 | .ready => 2 | .inPrint => 3 | .held => 4 | .complete => 5 | .withdrawn => 6

/-- Cancel-requester. -/
def Requester.toByte : Requester → Byte
  | .nobody => 0 | .orderLink => 1 | .tillLink => 2

/-- CANCEL and COLLECT PARTIAL outcome: 1 FINISHED, 2 WITHDRAWING. -/
def outcomeByte (finished : Bool) : Byte := if finished then 1 else 2

/-- Surface. -/
def Surface.toByte : Surface → Byte
  | .gloss => 1 | .matt => 2 | .lustre => 3

/-- Mode. -/
def Mode.toByte : Mode → Byte
  | .fill => 1 | .fit => 2

/-- Bin group of a size entry. -/
def PrintGroup.toByte : PrintGroup → Byte
  | .small => 1 | .large => 2

/-- Bin group of a bin. -/
def BinGroup.toByte : BinGroup → Byte
  | .small => 1 | .large => 2 | .any => 3

/-- Bin state. -/
def BinState.toByte : BinState → Byte
  | .free => 1 | .filling => 2 | .full => 3 | .waiting => 4 | .clearance => 5

/-- Magazine. -/
def Magazine.toByte : Magazine → Byte
  | .a => 1 | .b => 2

/-- A magazine that may be absent: 0 for none. -/
def magazineByte : Option Magazine → Byte
  | none => 0
  | some m => m.toByte

/-- Transport. -/
def Transport.toByte : Transport → Byte
  | .run => 1 | .stop => 2

/-- Segment kind. -/
def SegmentKind.toByte : SegmentKind → Byte
  | .print _ _ _ => 1 | .patch => 2 | .leader => 3 | .blank => 4

/-- The kind of the exposure record, as a segment kind (R204). -/
def ExposureKind.toByte : ExposureKind → Byte
  | .print => 1 | .patch => 2

/-- Stall monitor stage. -/
def StallStage.toByte : StallStage → Byte
  | .off => 0 | .first _ => 1 | .second _ => 2 | .expired => 3

/-- WEB FAULT cause; 0 while it does not hold. -/
def webFaultByte : Option WebFaultCause → Byte
  | none => 0 | some .stall => 1 | some .syncLost => 2

/-- Cut outcome. -/
def CutOutcome.toByte : CutOutcome → Byte
  | .matched => 1 | .early => 2 | .duringFault => 3

/-- Copy fate. -/
def Fate.toByte : Fate → Byte
  | .nothing => 0 | .delivered => 1 | .remade => 2 | .writtenOff => 3

/-- Reading class. -/
def ReadingClass.toByte : ReadingClass → Byte
  | .good => 1 | .outOfTolerance => 2 | .implausible => 3

/-- Raster fault cause: 1 to 15 a ROW FAULT with that reason, 16 TIMEOUT, 17 WRONG LENGTH. -/
def FaultCause.toByte : FaultCause → Byte
  | .rowFault r => BitVec.ofNat 8 r | .timeout => 16 | .wrongLength => 17

/-- Raster fault phase. -/
def FaultPhase.toByte : FaultPhase → Byte
  | .beforeStart => 1 | .during => 2

/-! ## Numbers as field bytes (R199) -/

/-- One byte. -/
def n8 (n : Nat) : List Byte := [BitVec.ofNat 8 n]

/-- Two bytes. -/
def n16 (n : Nat) : List Byte := be16 (BitVec.ofNat 16 n)

/-- Four bytes. -/
def n32 (n : Nat) : List Byte := be32 (BitVec.ofNat 32 n)

/-- Two bytes, signed. -/
def i16 (i : Int) : List Byte := be16 (BitVec.ofInt 16 i)

/-- Four bytes, signed. -/
def i32 (i : Int) : List Byte := be32 (BitVec.ofInt 32 i)

/-- A flag as a byte 0 or 1. -/
def flagByte (b : Bool) : List Byte := [if b then 1 else 0]

/-! ## Ranges -/

/-- Clamped to lo..hi (Arithmetic of 00_scope.md). -/
def clampNat (lo hi n : Nat) : Nat := max lo (min hi n)

/-- Clamped to lo..hi, for a signed quantity. -/
def clampInt (lo hi i : Int) : Int := max lo (min hi i)

/-- A counter or sum that saturates at its range; adding nothing leaves it as it is. -/
def satAdd (limit n k : Nat) : Nat := if k = 0 then n else min limit (n + k)

/-! ## Three channels -/

/-- The quantity of each channel changed alike. -/
def PerChannel.map {α β : Type} (f : α → β) (p : PerChannel α) : PerChannel β :=
  { c0 := f p.c0, c1 := f p.c1, c2 := f p.c2 }

/-- Two quantities of each channel joined. -/
def PerChannel.zip {α β γ : Type} (f : α → β → γ) (p : PerChannel α) (q : PerChannel β) : PerChannel γ :=
  { c0 := f p.c0 q.c0, c1 := f p.c1 q.c1, c2 := f p.c2 q.c2 }

/-- The quantities of channels 0, 1 and 2, in that order. -/
def PerChannel.toList {α : Type} (p : PerChannel α) : List α := [p.c0, p.c1, p.c2]

/-- A channel byte: 0, 1 or 2 (R206). -/
def channel? (b : Byte) : Option (Fin 3) :=
  if b = 0#8 then some 0 else if b = 1#8 then some 1 else if b = 2#8 then some 2 else none

/-- The quantity of one channel. -/
def PerChannel.get {α : Type} (p : PerChannel α) : Fin 3 → α
  | 0 => p.c0
  | 1 => p.c1
  | 2 => p.c2

/-- The quantity of one channel replaced. -/
def PerChannel.set {α : Type} (p : PerChannel α) (c : Fin 3) (x : α) : PerChannel α :=
  match c with
  | 0 => { p with c0 := x }
  | 1 => { p with c1 := x }
  | 2 => { p with c2 := x }

/-- R74: the code a line carries at a position, 0 to 4,095, of one channel. -/
def codeAt (codes : List Code) (position : Nat) : Code := codes.getD position 0

/-! ## Replies (R182, R184, R186) -/

/-- The status and the reply fields a request is answered with. -/
structure Reply where
  status : Status
  fields : List Byte
  deriving DecidableEq, Repr

/-- The bytes of a reply: status, reply length, reply fields. -/
def Reply.bytes (r : Reply) : List Byte := r.status.toByte :: BitVec.ofNat 8 r.fields.length :: r.fields

/-- R184: the reply of a refused request carries no fields. -/
def Reply.refused (status : Status) : Reply := { status := status, fields := [] }

/-- R186: OK, or CLAMPED when a configuration value was clamped. -/
def Reply.taken (clamped : Bool) (fields : List Byte) : Reply :=
  { status := if clamped then .clamped else .ok, fields := fields }

end Sys2Proof.Machine
end

