-- ==== Sys2Proof/Machine/Flags.lean ====
section
/-! DEFINITION. Flag bytes and words, bit 0 first, each bit that names no flag sent as 0 (R199). -/

namespace Sys2Proof.Machine

/-- R199: named flags in the low-order bits of a number, bit 0 first. -/
def packFlags : List Bool → Nat
  | [] => 0
  | b :: bs => (if b then 1 else 0) + 2 * packFlags bs

/-- R201: the order flags; bit 11 says whether an amendment is open on the order. -/
def orderFlags (o : Order) (amended : Bool) : Nat :=
  packFlags [o.started, o.windowEnded, o.faulted, o.paperWait.isSome, o.earlyPickup, o.pickedUp, o.faultUnreported,
    o.completeUnreported, o.cancelNotice, o.collectedPartial, o.shortageUnreported, amended]

/-- R201: the item flags. -/
def itemFlags (i : Item) : Nat := packFlags [i.waived, i.faulted]

/-- R204: the flag byte of a segment record. -/
def segmentFlags (g : Segment) : Nat :=
  packFlags [g.closed, g.suspect, g.split, g.merged, g.spoiled, g.read, g.preReset]

/-- R204: the flag byte of a magazine record. -/
def magazineFlags (m : MagazineRecord) : Nat := packFlags [m.present, m.low]

/-- R202: the flag byte of a bin record. -/
def binFlags (b : Bin) : Nat := packFlags [b.timer.isSome, b.uncollected]

/-- R202: the flag byte of READ TOTALS. -/
def totalsFlags (p : PriceUnit) : Nat := packFlags [p.lock, p.amendment.isSome, p.closedDay.read]

/-- R202: the flag byte of READ PRICE. -/
def priceFlags (o : Order) (amended : Bool) : Nat := packFlags [o.collectedPartial, amended]

/-- R204, part 0: STALL and WEB FAULT. -/
def webFlags (w : Web) : Nat := packFlags [w.stall, w.fault.isSome]

/-- R204, part 2: DENSITY FAULT and PATCH UNREAD. -/
def densityFlags (d : Density) : Nat := packFlags [d.fault, d.patchUnread]

/-- R204: the unfitness byte of a reading record. -/
def unfitness (r : Reading) : Nat := packFlags [r.suspect, r.spoiled, r.preReset]

/-- R204, part 4: bit c set when channel c is enabled. -/
def enableFlags (e : PerChannel Bool) : Nat := packFlags e.toList

/-- R203: bit p - 1 for the cause of priority p. -/
def maskFlags (mask : List Bool) : Nat := packFlags mask

end Sys2Proof.Machine
end

