-- ==== Sys2Proof/Machine/Ops.lean ====
section
/-! DEFINITION. The operations the commands share: tables, the time base, order and item records, class lists, the standing
selection and the Resampler's work, blanking and flushing, bins, completion, draining and withdrawal, WEB FAULT, and the
taking of a request at its port. -/

namespace Sys2Proof.Machine

/-! ## Tables -/

/-- The record with a number, if that number is listed. -/
def Table.get? {α : Type} : Table α → Nat → Option α
  | [], _ => none
  | (j, a) :: rest, k => if j = k then some a else Table.get? rest k

/-- The record of a number written, the numbers kept in rising order. -/
def Table.put {α : Type} : Table α → Nat → α → Table α
  | [], k, a => [(k, a)]
  | (j, b) :: rest, k, a =>
    if k < j then (k, a) :: (j, b) :: rest
    else if k = j then (k, a) :: rest
    else (j, b) :: Table.put rest k a

/-- A number no longer listed. -/
def Table.erase {α : Type} (t : Table α) (k : Nat) : Table α := t.filter fun p => p.1 != k

/-- The record of a number changed, where the number is listed. -/
def Table.modify {α : Type} (t : Table α) (k : Nat) (f : α → α) : Table α :=
  t.map fun p => if p.1 = k then (p.1, f p.2) else p

/-- The records of several numbers changed alike. -/
def Table.modifyAll {α : Type} (t : Table α) (ks : List Nat) (f : α → α) : Table α :=
  t.map fun p => if ks.contains p.1 then (p.1, f p.2) else p

/-- The lowest number below a limit that the table does not list. -/
def Table.lowestFree {α : Type} (t : Table α) (limit : Nat) : Option Nat :=
  (List.range limit).find? fun k => (Table.get? t k).isNone

/-- How many numbers below a limit the table does not list. -/
def Table.freeCount {α : Type} (t : Table α) (limit : Nat) : Nat :=
  (List.range limit).countP fun k => (Table.get? t k).isNone

/-- The last entry of a list changed. -/
def mapLast {α : Type} (f : α → α) : List α → List α
  | [] => []
  | [a] => [f a]
  | a :: b :: rest => a :: mapLast f (b :: rest)

/-! ## The time base (Conventions of 00_scope.md) -/

/-- The difference of two odometer or time base values, modulo 2^32 and read as a signed quantity; a difference of exactly
2^31 reads as negative (log entry 25). -/
def signedDiff (x y : Word32) : Int := (x - y).toInt

/-- A time is reached when the time base minus that time is 0 or more. -/
def reached (now t : Word32) : Bool := decide (0 ≤ signedDiff now t)

/-- The milliseconds left to a time; 0 once it is reached (log entry 7). -/
def msLeft (now t : Word32) : Nat := (signedDiff t now).toNat

/-- A time a number of milliseconds ahead. -/
def later (now : Word32) (ms : Nat) : Word32 := now + BitVec.ofNat 32 ms

/-! ## Order and item records -/

/-- The order record in use in a slot (R1). -/
def State.order? (s : State) (slot : Nat) : Option Order := Table.get? s.orderTable.orders slot

/-- The slot of the record in use that holds a ticket (section 1.2). -/
def OrderTable.findTicket (T : OrderTable) (ticket : Nat) : Option Nat :=
  (T.orders.find? fun p => p.2.ticket == ticket).map fun p => p.1

/-- An order record changed. -/
def OrderTable.modifyOrder (T : OrderTable) (slot : Nat) (f : Order → Order) : OrderTable :=
  { T with orders := Table.modify T.orders slot f }

/-- An order record changed. -/
def State.modifyOrder (s : State) (slot : Nat) (f : Order → Order) : State :=
  { s with orderTable := s.orderTable.modifyOrder slot f }

/-- The item record number that an order's item number refers to (R1). -/
def OrderTable.itemRef? (T : OrderTable) (slot n : Nat) : Option Nat :=
  (Table.get? T.orders slot).bind fun o => o.items[n]?

/-- The item record of an order's item number. -/
def OrderTable.item? (T : OrderTable) (slot n : Nat) : Option Item :=
  (T.itemRef? slot n).bind fun r => Table.get? T.items r

/-- The item record of an order's item number changed. -/
def OrderTable.modifyItem (T : OrderTable) (slot n : Nat) (f : Item → Item) : OrderTable :=
  { T with items := match T.itemRef? slot n with
      | some r => Table.modify T.items r f
      | none => T.items }

/-- An order's item records, in the order of its items list. -/
def OrderTable.itemsOf (T : OrderTable) (slot : Nat) : List Item :=
  match Table.get? T.orders slot with
  | some o => o.items.filterMap (Table.get? T.items)
  | none => []

/-- The item record numbers of an order. -/
def OrderTable.refsOf (T : OrderTable) (slot : Nat) : List Nat :=
  match Table.get? T.orders slot with
  | some o => o.items
  | none => []

/-- All item records of an order changed alike. -/
def OrderTable.modifyItems (T : OrderTable) (slot : Nat) (f : Item → Item) : OrderTable :=
  { T with items := Table.modifyAll T.items (T.refsOf slot) f }

/-- The entry of the size table an item names (R26). -/
def OrderTable.sizeOf? (T : OrderTable) (i : Item) : Option SizeEntry := Table.get? T.sizes i.sizeIndex

/-! ### The movements of the copy account (R13)

Each moves copies that are in the place they leave; where none is, nothing moves (log entry 19). -/

/-- waiting to on web, one copy (R12). -/
def Item.expose (i : Item) : Item :=
  if i.waiting = 0 then i else { i with waiting := i.waiting - 1, onWeb := i.onWeb + 1 }

/-- on web to delivered, one copy (R125). -/
def Item.deliver (i : Item) : Item :=
  if i.onWeb = 0 then i else { i with onWeb := i.onWeb - 1, delivered := i.delivered + 1 }

/-- on web to waiting, one copy; remakes used increases (R14). -/
def Item.remake (i : Item) : Item :=
  if i.onWeb = 0 then i
  else { i with onWeb := i.onWeb - 1, waiting := i.waiting + 1, remakesUsed := i.remakesUsed + 1 }

/-- on web to written off, one copy (R14). -/
def Item.writeOff (i : Item) : Item :=
  if i.onWeb = 0 then i else { i with onWeb := i.onWeb - 1, writtenOff := i.writtenOff + 1 }

/-- waiting to written off, all waiting copies (R11, R19). -/
def Item.writeOffWaiting (i : Item) : Item :=
  { i with waiting := 0, writtenOff := i.writtenOff + i.waiting }

/-! ## Class lists (R31, R32) -/

/-- The list of one class. -/
def Scheduler.classList (sch : Scheduler) : OrderClass → List Nat
  | .express => sch.express
  | .standard => sch.standard
  | .bulk => sch.bulk

/-- R32: appended at the tail of its class list; a new attempt may follow (R35). -/
def Scheduler.append (sch : Scheduler) (c : OrderClass) (slot : Nat) : Scheduler :=
  { sch with
    express := if c = .express then sch.express ++ [slot] else sch.express
    standard := if c = .standard then sch.standard ++ [slot] else sch.standard
    bulk := if c = .bulk then sch.bulk ++ [slot] else sch.bulk
    attemptCause := true }

/-- R32: removed from its class list if it stands there; a new attempt may follow (R35). -/
def Scheduler.remove (sch : Scheduler) (c : OrderClass) (slot : Nat) : Scheduler :=
  { sch with
    express := if c = .express then sch.express.filter (· != slot) else sch.express
    standard := if c = .standard then sch.standard.filter (· != slot) else sch.standard
    bulk := if c = .bulk then sch.bulk.filter (· != slot) else sch.bulk
    attemptCause := sch.attemptCause || (sch.classList c).contains slot }

/-- An order appended to the list of its class. -/
def State.enlist (s : State) (slot : Nat) : State :=
  { s with scheduler := match s.order? slot with
      | some o => s.scheduler.append o.cls slot
      | none => s.scheduler }

/-- An order removed from the list of its class; its paper-wait mark goes (R32). -/
def State.delist (s : State) (slot : Nat) : State :=
  { s with
    scheduler := match s.order? slot with
      | some o => s.scheduler.remove o.cls slot
      | none => s.scheduler
    orderTable := s.orderTable.modifyOrder slot fun o => { o with paperWait := none } }

/-! ## The Resampler's work, the fetch and the line queue -/

/-- The Resampler with no work and both row slots empty (R56, R68). -/
def Resampler.idle (r : Resampler) : Resampler := { r with work := none, rowA := none, rowB := none }

/-- R79: the fetch in flight absent and the timer stopped. -/
def RasterFetch.abandon (f : RasterFetch) : RasterFetch := { f with inFlight := none, timer := none }

/-- R68: the Resampler's work ends by abort and its fetch is abandoned. -/
def State.abortWork (s : State) : State :=
  { s with resampler := s.resampler.idle, fetch := s.fetch.abandon }

/-- Whether the work belongs to the standing selection. -/
def Resampler.worksForSelection (r : Resampler) : Bool :=
  match r.work with
  | some w => w.owner == .selection
  | none => false

/-- Whether the work is a trailing work (R84). -/
def Work.isTrailing (w : Work) : Bool :=
  match w.owner with
  | .trailing _ => true
  | _ => false

/-- The order whose print a work produces. -/
def Work.slot? (w : Work) : Option Nat :=
  match w.job with
  | .print p => some p.slot
  | .patch _ => none

/-- R85: the lines of one owner removed from the line queue. -/
def ChannelOutput.drop (c : ChannelOutput) (owner : LineOwner) : ChannelOutput :=
  { c with queue := c.queue.filter fun l => l.owner != owner }

/-- R43: the standing selection voided, if one stands: its lines dropped, its work ended and its fetch abandoned; a new
attempt may follow (R35). -/
def State.voidSelection (s : State) : State :=
  if s.scheduler.selection.isSome then
    { s with
      scheduler := { s.scheduler with selection := none, attemptCause := true }
      channel := s.channel.drop .selection
      resampler := if s.resampler.worksForSelection then s.resampler.idle else s.resampler
      fetch := if s.resampler.worksForSelection then s.fetch.abandon else s.fetch }
  else s

/-- Whether the standing selection is a print of an order. -/
def Scheduler.selects (sch : Scheduler) (slot : Nat) : Bool :=
  match sch.selection with
  | some (.print k _ _) => k == slot
  | _ => false

/-- R43: a PRINT selection of an order voided. -/
def State.voidSelectionOf (s : State) (slot : Nat) : State :=
  if s.scheduler.selects slot then s.voidSelection else s

/-- R68: the work of an order's print that has begun exposure, trailing works included, ended by abort. -/
def State.abortBegunWorkOf (s : State) (slot : Nat) : State :=
  match s.resampler.work with
  | some w => if w.owner ≠ .selection ∧ w.slot? = some slot then s.abortWork else s
  | none => s

/-- R15, R68: an order's trailing work ended by abort. -/
def State.abortTrailingWorkOf (s : State) (slot : Nat) : State :=
  match s.resampler.work with
  | some w => if w.isTrailing = true ∧ w.slot? = some slot then s.abortWork else s
  | none => s

/-! ## What is being exposed -/

/-- A print or patch is being exposed (R84). -/
def State.exposing (s : State) : Bool := s.channel.exposure.isSome

/-- Whether a segment is an open LEADER. -/
def Segment.isOpenLeader (g : Segment) : Bool := g.kind == .leader && !g.closed

/-- A leader is being exposed (R52): the tail of the map is an open LEADER. -/
def Web.leaderExposed (w : Web) : Bool :=
  match w.map.getLast? with
  | some g => g.isOpenLeader
  | none => false

/-- The order whose PRINT segment is the open tail of the map. -/
def Web.exposedSlot? (w : Web) : Option Nat :=
  match w.map.getLast? with
  | some g =>
    match g.kind with
    | .print slot _ _ => if g.closed then none else some slot
    | _ => none
  | none => none

/-- R118: the segment of the print or patch being exposed marked suspect. -/
def State.markExposedSuspect (s : State) : State :=
  { s with web := if s.exposing then { s.web with map := mapLast (fun g => { g with suspect := true }) s.web.map } else s.web }

/-- R88: the exposure record blanked and the print's queued lines removed. -/
def ChannelOutput.blank (c : ChannelOutput) : ChannelOutput :=
  { c.drop .exposed with exposure := c.exposure.map fun e => { e with blanked := true } }

/-- R88: the print being exposed blanked, if it is a print of the order. -/
def State.blankOf (s : State) (slot : Nat) : State :=
  { s with channel := if s.exposing && s.web.exposedSlot? == some slot then s.channel.blank else s.channel }

/-- R116: an abandoned print, patch or leader closes at its present length. An open BLANK stays open. -/
def Segment.abandon (g : Segment) : Segment := if g.kind = .blank then g else { g with closed := true }

/-- R92: the flush of WEB FAULT and warm reset. -/
def State.flush (s : State) : State :=
  { s with
    fetch := s.fetch.abandon
    resampler := s.resampler.idle
    scheduler := { s.scheduler with
      selection := none
      attemptCause := s.scheduler.attemptCause || s.scheduler.selection.isSome }
    channel := { s.channel with queue := [], exposure := none }
    web := { s.web with map := mapLast Segment.abandon s.web.map } }

/-! ## Bins (R137 to R150) -/

/-- R150: a bin released from its order. -/
def Bin.release (b : Bin) : Bin :=
  if b.count > 0 then { b with state := .clearance, owner := none, timer := none, uncollected := false }
  else { b with state := .free, ticket := none, owner := none, timer := none, uncollected := false }

/-- R146: a bin of a completed order; its uncollected timer starts unless the uncollected time is 0. -/
def Bin.toWaiting (now : Word32) (minutes : Nat) (b : Bin) : Bin :=
  if b.state = .filling ∨ b.state = .full then
    { b with state := .waiting, timer := if minutes = 0 then none else some (later now (minutes * 60000)) }
  else b

/-- The bin list of an order (R138). -/
def State.binsOf (s : State) (slot : Nat) : List Nat :=
  match s.order? slot with
  | some o => o.bins
  | none => []

/-- R150: an order's bins released and its bin list emptied. -/
def State.releaseBins (s : State) (slot : Nat) : State :=
  { s with
    sort := { s.sort with bins := Table.modifyAll s.sort.bins (s.binsOf slot) Bin.release }
    orderTable := s.orderTable.modifyOrder slot fun o => { o with bins := [] } }

/-- R146: an order's bins moved to WAITING. -/
def State.binsToWaiting (s : State) (slot : Nat) : State :=
  { s with sort := { s.sort with
      bins := Table.modifyAll s.sort.bins (s.binsOf slot) (Bin.toWaiting s.timeBase s.sort.uncollectedTime) } }

/-! ## Completion, draining, freeing, withdrawal -/

/-- R24: an order record freed, its item records with it. -/
def State.freeRecord (s : State) (slot : Nat) : State :=
  { s with orderTable := { s.orderTable with
      orders := Table.erase s.orderTable.orders slot
      items := s.orderTable.items.filter fun p => !(s.orderTable.refsOf slot).contains p.1 } }

/-- R15: every item of the order has waiting 0 and on web 0. -/
def OrderTable.nothingLeft (T : OrderTable) (slot : Nat) : Bool :=
  (T.itemsOf slot).all fun i => i.waiting == 0 && i.onWeb == 0

/-- R21: every item of the order has on web 0. -/
def OrderTable.drained (T : OrderTable) (slot : Nat) : Bool :=
  (T.itemsOf slot).all fun i => i.onWeb == 0

/-- R15: an order goes to COMPLETE, with all that comes about then. -/
def State.completeOrder (s : State) (slot : Nat) : State :=
  (((s.modifyOrder slot fun o => { o with state := .complete, completeUnreported := true }).delist slot).binsToWaiting
    slot).abortTrailingWorkOf slot

/-- R21: what the device does with a drained order, by its cancel-requester. -/
def State.drainOrder (s : State) (slot : Nat) (o : Order) : State :=
  if o.requester ≠ .nobody then s.modifyOrder slot fun o => { o with cancelNotice := true }
  else if o.collectedPartial then s.freeRecord slot
  else s

/-- R13: the completion check of R15, or the draining check of R21 on a WITHDRAWN order. -/
def State.accountCheck (s : State) (slot : Nat) : State :=
  match s.order? slot with
  | none => s
  | some o =>
    match o.state with
    | .ready | .inPrint | .held => if s.orderTable.nothingLeft slot then s.completeOrder slot else s
    | .withdrawn => if s.orderTable.drained slot then s.drainOrder slot o else s
    | .opened | .complete => s

/-- R171: the amendment dropped if it is open on the order. -/
def PriceUnit.dropAmendmentOf (p : PriceUnit) (slot : Nat) : PriceUnit :=
  { p with amendment := p.amendment.filter fun a => a.slot != slot }

/-- R19 (steps 1 to 5 and 7) and R23: an order withdrawn; the standing selection of the order is voided (R43). -/
def State.withdraw (s : State) (slot : Nat) (requester : Requester) (partially : Bool) : State :=
  let s1 := s.modifyOrder slot fun o =>
    { o with state := .withdrawn, requester := requester, collectedPartial := o.collectedPartial || partially
             completeUnreported := false }
  let s2 := { s1 with orderTable := s1.orderTable.modifyItems slot Item.writeOffWaiting }
  let s3 := (s2.delist slot).voidSelectionOf slot
  let s4 := (s3.abortBegunWorkOf slot).blankOf slot
  (s4.releaseBins slot).accountCheck slot

/-- R14: whether a copy of an item may be remade. -/
def Item.mayRemake (i : Item) (limit : Nat) (state : OrderState) : Bool :=
  decide (i.remakesUsed < limit) && !i.faulted && state != .withdrawn

/-- R14, R13: a copy that is not delivered leaves the web: remade if it qualifies, written off otherwise; then the check of
its order runs. `rejected` says whether the copy lay in a piece sent to the reject chute (R126, R133, R177). Answers
whether the copy was remade. -/
def State.disposeCopy (s : State) (slot n : Nat) (rejected : Bool) : State × Bool :=
  let again := match s.order? slot, s.orderTable.item? slot n with
    | some o, some i => i.mayRemake s.orderTable.remakeLimit o.state
    | _, _ => false
  let t := { s with
    orderTable := s.orderTable.modifyItem slot n (if again then Item.remake else Item.writeOff)
    scheduler := { s.scheduler with attemptCause := s.scheduler.attemptCause || again }
    price := { s.price with totals := { s.price.totals with
      printsRejected := satAdd 65535 s.price.totals.printsRejected (if rejected then 1 else 0)
      remakesMade := satAdd 65535 s.price.totals.remakesMade (if again then 1 else 0) } } }
  (t.accountCheck slot, again)

/-! ## Magazines (R46, R49) -/

/-- A magazine's record. -/
def Scheduler.magazine (sch : Scheduler) : Magazine → MagazineRecord
  | .a => sch.magA
  | .b => sch.magB

/-- A magazine's record replaced. -/
def Scheduler.setMagazine (sch : Scheduler) (m : Magazine) (r : MagazineRecord) : Scheduler :=
  match m with
  | .a => { sch with magA := r }
  | .b => { sch with magB := r }

/-- The other magazine. -/
def Magazine.other : Magazine → Magazine
  | .a => .b
  | .b => .a

/-- R49: the low flag after a change of remaining or of the end reserve. -/
def MagazineRecord.withLow (r : MagazineRecord) (endReserve : Nat) : MagazineRecord :=
  { r with low := r.present && decide (r.remaining ≤ endReserve) }

/-- The record of the active magazine, if there is one. -/
def Scheduler.activeRecord? (sch : Scheduler) : Option MagazineRecord := sch.active.map sch.magazine

/-! ## Start conditions and causes of an attempt -/

/-- R34: the start conditions. -/
def State.startConditions (s : State) : Bool :=
  s.web.transport == .run
    && (match s.scheduler.activeRecord? with | some r => r.present | none => false)
    && s.channel.enabled.c0 && s.channel.enabled.c1 && s.channel.enabled.c2
    && s.web.lpath != 0
    && s.web.fault.isNone
    && !s.density.fault
    && !s.web.stall
    && decide (s.web.map.length < 128)
    && s.scheduler.switchRequested.isNone

/-- R36: a patch is due. -/
def State.patchDue (s : State) : Bool :=
  s.density.k != 0
    && (decide (s.density.k ≤ s.scheduler.patchCounter) || s.scheduler.switchPatch || s.scheduler.resetPatch)

/-- R35: the causes of a new attempt that a command brings about by changing the start conditions, the patch due or the end
reserve between the state before it and the state after it (log entry 20). -/
def State.noteCauses (before after : State) : State :=
  { after with scheduler := { after.scheduler with
      attemptCause := after.scheduler.attemptCause
        || (!before.startConditions && after.startConditions)
        || (!before.patchDue && after.patchDue)
        || before.scheduler.endReserve != after.scheduler.endReserve } }

/-! ## The web map -/

/-- R121: the expected end of a segment, modulo 2^32 (log entry 23). -/
def Segment.expectedEnd (g : Segment) (lpath : Nat) : Word32 := g.start + BitVec.ofNat 32 (g.length + lpath)

/-- R121: d, a position minus a segment's expected end. -/
def Segment.deviation (g : Segment) (lpath : Nat) (position : Word32) : Int := signedDiff position (g.expectedEnd lpath)

/-- R121: the place and the record of the reference segment, the first not merged, provided it is closed. -/
def referenceFrom : Nat → List Segment → Option (Nat × Segment)
  | _, [] => none
  | k, g :: rest => if g.merged then referenceFrom (k + 1) rest else if g.closed then some (k, g) else none

/-- R121: the reference segment of the map. -/
def Web.reference? (w : Web) : Option (Nat × Segment) := referenceFrom 0 w.map

/-- R122: the map after missed-cut detection at a position: closed segments whose expected end lies 26 WU or more behind
are merged, one after another from the head. -/
def mergePassed (lpath : Nat) (position : Word32) : List Segment → List Segment
  | [] => []
  | g :: rest =>
    if g.merged then g :: mergePassed lpath position rest
    else if g.closed && decide (26 ≤ g.deviation lpath position) then
      { g with merged := true } :: mergePassed lpath position rest
    else g :: rest

/-- R131: WEB FAULT raised with a cause; nothing changes where it holds already. -/
def State.raiseWebFault (s : State) (cause : WebFaultCause) : State :=
  if s.web.fault.isSome then s
  else
    let t := s.flush
    { t with
      web := { t.web with map := t.web.map.map fun g => { g with spoiled := true }, fault := some cause }
      scheduler := { t.scheduler with leaderPending := false } }

/-- R122: missed-cut detection at the present odometer; not carried out while WEB FAULT holds. Merging that leaves no
reference end on a full map with nothing being exposed raises WEB FAULT (log entry 12). -/
def State.detectMissedCuts (s : State) : State :=
  if s.web.fault.isSome then s
  else
    let m := mergePassed s.web.lpath s.web.odometer s.web.map
    let t := { s with web := { s.web with map := m } }
    if m ≠ s.web.map ∧ t.web.reference? = none ∧ m.length = 128 ∧ s.exposing = false ∧ s.web.leaderExposed = false then
      t.raiseWebFault .syncLost
    else t

/-- R117: a present unlisted stretch becomes an open BLANK at the tail once the map has room. -/
def Web.admitStretch (w : Web) : Web :=
  match w.unlisted with
  | some u =>
    if w.map.length < 128 then
      { w with
        map := w.map ++ [{ kind := .blank, start := u.start, length := u.length, closed := false, suspect := false
                           split := false, merged := false, spoiled := false, read := false, preReset := false }]
        unlisted := none }
    else w
  | none => w

/-- R128: a pop or a clearing that leaves the map empty stops the stall monitor. -/
def Web.stopIfEmpty (w : Web) : Web := if w.map.isEmpty then { w with stage := .off, stall := false } else w

/-- R133: the copies of segments disposed of one after another in map order. Answers how many were remade and how many
written off. -/
def State.disposeSegments (s : State) (rejected : Bool) : List Segment → State × Nat × Nat
  | [] => (s, 0, 0)
  | g :: rest =>
    match g.kind with
    | .print slot n _ =>
      let r := s.disposeCopy slot n rejected
      let q := State.disposeSegments r.1 rejected rest
      (q.1, q.2.1 + (if r.2 then 1 else 0), q.2.2 + (if r.2 then 0 else 1))
    | _ => State.disposeSegments s rejected rest

/-- R133: the web map cleared. -/
def State.clearMap (s : State) : State × Nat × Nat :=
  let q := State.disposeSegments { s with web := { s.web with map := [], unlisted := none } } false s.web.map
  ({ q.1 with web := q.1.web.stopIfEmpty }, q.2)

/-! ## Link ports (R182 to R184) -/

/-- The unit of a link. -/
def LinkInterfaces.unit (ls : LinkInterfaces) : Link → LinkUnit
  | .order => ls.order
  | .engine => ls.engine
  | .till => ls.till

/-- The unit of a link replaced. -/
def LinkInterfaces.setUnit (ls : LinkInterfaces) (link : Link) (u : LinkUnit) : LinkInterfaces :=
  match link with
  | .order => { ls with order := u }
  | .engine => { ls with engine := u }
  | .till => { ls with till := u }

/-- The port of a link. -/
def State.port (s : State) (link : Link) : Port := (s.links.unit link).port

/-- The port of a link set to a phase. -/
def State.setPort (s : State) (link : Link) (p : Port) : State :=
  { s with links := s.links.setUnit link { s.links.unit link with port := p } }

/-- R182: what a port's data-out carries in the byte now being clocked; none while it is in the high-impedance state. -/
def Port.dataOut : Port → Option Byte
  | .idle => none
  | .request _ => some 0
  | .reply bytes sent => some (bytes.getD sent 0)
  | .spent => some 0

/-- A request refused: it changes nothing (R186). -/
def refuse (s : State) (status : Status) : State × Reply := (s, Reply.refused status)

/-- R184: the tests of the port, in order, and the handing of the request to its block. -/
def answerFrame (link : Link) (code : Byte) (len : Nat) (serve : State → State × Reply) (s : State) : State × Reply :=
  if len > 62 then refuse s .malformed
  else
    match RequestCode.ofByte? code with
    | none => refuse s .unknown
    | some c =>
      if c.belongs link = false then refuse s .notOnThisLink
      else if len ≠ c.fieldLength link then refuse s .malformed
      else serve s

/-- The port of the link is in REQUEST and what it has received is a first part, not the whole, of a frame. -/
def State.receiving (s : State) (link : Link) (frame : List Byte) : Bool :=
  match s.port link with
  | .request got => got.isPrefixOf frame && decide (got.length < frame.length)
  | _ => false

/-- R184: the request is answered; the port goes to REPLY with its reply, none of it sent. -/
def State.answered (before : State) (link : Link) (r : State × Reply) : State :=
  before.noteCauses (r.1.setPort link (.reply r.2.bytes 0))

/-- The rest of a request frame arrives at its port and the request is taken (R182 to R184; log entry 4). Where the port is
not receiving this frame, the bytes are ignored. -/
def takeRequest (link : Link) (code : RequestCode) (fields : List Byte) (serve : State → State × Reply) (s : State) :
    State :=
  if s.receiving link (frameBytes code.toByte fields) then
    s.answered link (answerFrame link code.toByte fields.length serve s)
  else s

/-- A request that names a ticket: refused MALFORMED for 0 or above 9,999, NO ORDER where no record in use holds it. -/
def withOrder (s : State) (ticket : Word16) (serve : Nat → Order → State × Reply) : State × Reply :=
  if ticket.toNat = 0 ∨ ticket.toNat > 9999 then refuse s .malformed
  else
    match s.orderTable.findTicket ticket.toNat with
    | none => refuse s .noOrder
    | some slot =>
      match s.order? slot with
      | none => refuse s .noOrder
      | some o => serve slot o

end Sys2Proof.Machine
end

