-- ==== Sys2Proof/Machine/Orders.lean ====
section
/-! DEFINITION. The requests of the order link and READ ORDER (chapter 1), and the expiry of a collection window. -/

namespace Sys2Proof.Machine

/-! ## Tickets and the opening of an order -/

/-- R3: the ticket after another, 9,999 before 1. -/
def ticketAfter (t : Nat) : Nat := if t = 9999 then 1 else t + 1

/-- R3: the search for a ticket that no record in use holds, from a value on; 64 steps reach one, since a slot is free. -/
def OrderTable.searchTicket (T : OrderTable) : Nat → Nat → Nat
  | 0, t => t
  | fuel + 1, t => if (T.findTicket t).isSome then T.searchTicket fuel (ticketAfter t) else t

/-- R4: the record of a newly opened order. -/
def Order.opened (ticket : Nat) (cls : OrderClass) : Order :=
  { ticket := ticket, cls := cls, state := .opened, eligibleAt := none, windowEnded := false, started := false
    items := [], bins := [], overflow := 0, faulted := false, paperWait := none, earlyPickup := false, pickedUp := false
    faultUnreported := false, completeUnreported := false, shortageUnreported := false, requester := .nobody
    cancelNotice := false, collectedPartial := false, gross := 0, discount := 0, adjustment := 0, final := 0 }

/-- OPEN ORDER (R3, R4). -/
def serveOpenOrder (cls : Byte) (s : State) : State × Reply :=
  match OrderClass.ofByte? cls with
  | none => refuse s .malformed
  | some c =>
    match Table.lowestFree s.orderTable.orders 64 with
    | none => refuse s .full
    | some slot =>
      let t := s.orderTable.searchTicket 64 s.orderTable.nextTicket
      ({ s with orderTable := { s.orderTable with
          orders := Table.put s.orderTable.orders slot (Order.opened t c)
          nextTicket := ticketAfter t } },
       .taken false (n16 t ++ n8 slot))

/-- Row OPEN_ORDER. -/
def execOpenOrder (link : Link) (cls : Byte) (s : State) : Host.Outcome State Fault Refusal :=
  .next (takeRequest link .openOrder [cls] (serveOpenOrder cls) s)

/-! ## Filling and submitting -/

/-- R5, test 3: the field values that make ADD ITEM meaningless. -/
def addItemMalformed (T : OrderTable) (ws hs : Word16) (sizeIndex surface mode copies : Byte) : Bool :=
  decide (sizeIndex.toNat > 15)
    || !(match Table.get? T.sizes sizeIndex.toNat with | some e => e.enabled | none => false)
    || ws.toNat == 0 || decide (ws.toNat > 16384) || hs.toNat == 0 || decide (hs.toNat > 16384)
    || (Surface.ofByte? surface).isNone || (Mode.ofByte? mode).isNone || copies == 0

/-- R6: the item record filled from the request. -/
def Item.fresh (handle : Word32) (ws hs : Word16) (sizeIndex : Byte) (surface : Surface) (mode : Mode) (copies : Byte) :
    Item :=
  { handle := handle, ws := ws.toNat, hs := hs.toNat, sizeIndex := sizeIndex.toNat, surface := surface, mode := mode
    ordered := min 99 copies.toNat, waiting := min 99 copies.toNat, onWeb := 0, delivered := 0, writtenOff := 0
    remakesUsed := 0, charged := 0, waived := false, faulted := false }

/-- ADD ITEM (R5, R6); on a listed order it calls for a new attempt (R35). -/
def serveAddItem (ticket : Word16) (handle : Word32) (ws hs : Word16) (sizeIndex surface mode copies : Byte)
    (s : State) : State × Reply :=
  withOrder s ticket fun slot o =>
    if o.state ≠ .opened ∧ o.state ≠ .ready then refuse s .wrongState
    else if addItemMalformed s.orderTable ws hs sizeIndex surface mode copies then refuse s .malformed
    else
      match Surface.ofByte? surface, Mode.ofByte? mode, Table.lowestFree s.orderTable.items 512 with
      | some u, some m, some r =>
        if o.items.length ≥ 24 then refuse s .full
        else
          ({ s with
              orderTable := { s.orderTable with
                orders := Table.modify s.orderTable.orders slot fun o => { o with items := o.items ++ [r] }
                items := Table.put s.orderTable.items r (Item.fresh handle ws hs sizeIndex u m copies) }
              scheduler := { s.scheduler with
                attemptCause := s.scheduler.attemptCause || (s.scheduler.classList o.cls).contains slot } },
           .taken (decide (copies.toNat > 99)) (n8 o.items.length))
      | some _, some _, none => refuse s .full
      | _, _, _ => refuse s .malformed

/-- Row ADD_ITEM. -/
def execAddItem (link : Link) (ticket : Word16) (handle : Word32) (ws hs : Word16) (sizeIndex surface mode copies : Byte)
    (s : State) : Host.Outcome State Fault Refusal :=
  .next (takeRequest link .addItem (be16 ticket ++ be32 handle ++ be16 ws ++ be16 hs ++ [sizeIndex, surface, mode, copies])
    (serveAddItem ticket handle ws hs sizeIndex surface mode copies) s)

/-- R28: the window length of a class, in seconds. -/
def Windows.ofClass (w : Windows) : OrderClass → Nat
  | .express => w.express
  | .standard => w.standard
  | .bulk => w.bulk

/-- R8: a collection window expires: window ended is set, and a READY order is appended to its class list. -/
def State.expireWindow (s : State) (slot : Nat) : State :=
  let t := s.modifyOrder slot fun o => { o with windowEnded := true }
  match s.order? slot with
  | some o => if o.state = .ready then t.enlist slot else t
  | none => t

/-- SUBMIT (R7); with a window of 0 the expiry of R8 is part of it. -/
def serveSubmit (ticket : Word16) (s : State) : State × Reply :=
  withOrder s ticket fun slot o =>
    if o.state ≠ .opened ∨ o.items = [] then refuse s .wrongState
    else
      let ms := s.orderTable.windows.ofClass o.cls * 1000
      let t := s.modifyOrder slot fun o => { o with state := .ready, eligibleAt := some (later s.timeBase ms) }
      (if ms = 0 then t.expireWindow slot else t, .taken false (n32 ms))

/-- Row SUBMIT. -/
def execSubmit (link : Link) (ticket : Word16) (s : State) : Host.Outcome State Fault Refusal :=
  .next (takeRequest link .submit (be16 ticket) (serveSubmit ticket) s)

/-- Row WINDOW_EXPIRY (R8): the time base has reached the eligible-at of a running window; otherwise no window of the slot
expires (log entries 1 and 7). -/
def execWindowExpiry (slot : Fin 64) (s : State) : Host.Outcome State Fault Refusal :=
  .next (match s.order? slot with
    | some o =>
      match o.eligibleAt with
      | some t => if reached s.timeBase t && !o.windowEnded then s.noteCauses (s.expireWindow slot) else s
      | none => s
    | none => s)

/-! ## HOLD and RELEASE -/

/-- HOLD (R9): the order goes to HELD, leaves its class list, and a selected print of it is voided (R43). -/
def serveHold (ticket : Word16) (s : State) : State × Reply :=
  withOrder s ticket fun slot o =>
    if o.state ≠ .ready ∧ o.state ≠ .inPrint then refuse s .wrongState
    else
      (((s.modifyOrder slot fun o => { o with state := .held }).delist slot).voidSelectionOf slot,
       .taken false [OrderState.held.toByte])

/-- Row HOLD. -/
def execHold (link : Link) (ticket : Word16) (s : State) : Host.Outcome State Fault Refusal :=
  .next (takeRequest link .hold (be16 ticket) (serveHold ticket) s)

/-- RELEASE (R10). -/
def serveRelease (ticket : Word16) (s : State) : State × Reply :=
  withOrder s ticket fun slot o =>
    if o.state ≠ .held then refuse s .wrongState
    else
      let state := if o.started then OrderState.inPrint else OrderState.ready
      let t := s.modifyOrder slot fun o => { o with state := state }
      (if o.windowEnded then t.enlist slot else t, .taken false [state.toByte])

/-- Row RELEASE. -/
def execRelease (link : Link) (ticket : Word16) (s : State) : Host.Outcome State Fault Refusal :=
  .next (takeRequest link .release (be16 ticket) (serveRelease ticket) s)

/-! ## CANCEL -/

/-- The cancel-requester a link stands for (R19); CANCEL belongs to the order link and the till link (R187). -/
def requesterOf : Link → Requester
  | .order => .orderLink
  | .till => .tillLink
  | .engine => .nobody

/-- CANCEL (R18, R19, R20, R171). -/
def serveCancel (link : Link) (ticket : Word16) (s : State) : State × Reply :=
  withOrder s ticket fun slot o =>
    match o.state with
    | .opened => (s.freeRecord slot, .taken false [outcomeByte true])
    | .withdrawn => refuse s .wrongState
    | .ready | .inPrint | .held | .complete =>
      (({ s with price := s.price.dropAmendmentOf slot }).withdraw slot (requesterOf link) false,
       .taken false [outcomeByte false])

/-- Row CANCEL. -/
def execCancel (link : Link) (ticket : Word16) (s : State) : Host.Outcome State Fault Refusal :=
  .next (takeRequest link .cancel (be16 ticket) (serveCancel link ticket) s)

/-! ## Reading orders and items -/

/-- R25: the milliseconds to eligible-at; 0 once window ended is set, absent before SUBMIT. -/
def Order.msToEligible (o : Order) (now : Word32) : List Byte :=
  match o.eligibleAt with
  | none => be32 0xFFFFFFFF#32
  | some t => n32 (if o.windowEnded then 0 else msLeft now t)

/-- R201: the bin list in its four places, the unused ones 0. -/
def binPlaces (bins : List Nat) : List Byte :=
  n8 (bins.getD 0 0) ++ n8 (bins.getD 1 0) ++ n8 (bins.getD 2 0) ++ n8 (bins.getD 3 0)

/-- Whether an amendment is open on the order in a slot (R165). -/
def PriceUnit.amends (p : PriceUnit) (slot : Nat) : Bool :=
  match p.amendment with
  | some a => a.slot == slot
  | none => false

/-- R201: the order record of READ ORDER. -/
def orderRecord (s : State) (slot : Nat) (o : Order) : List Byte :=
  n16 o.ticket ++ n8 slot ++ [o.cls.toByte, o.state.toByte] ++ n16 (orderFlags o (s.price.amends slot))
    ++ o.msToEligible s.timeBase ++ [o.requester.toByte] ++ n8 o.items.length ++ binPlaces o.bins ++ n8 o.overflow
    ++ n32 o.gross ++ n8 o.discount ++ i32 o.adjustment ++ n32 o.final

/-- READ ORDER (R25). -/
def serveReadOrder (ticket : Word16) (s : State) : State × Reply :=
  withOrder s ticket fun slot o => (s, .taken false (orderRecord s slot o))

/-- Row READ_ORDER. -/
def execReadOrder (link : Link) (ticket : Word16) (s : State) : Host.Outcome State Fault Refusal :=
  .next (takeRequest link .readOrder (be16 ticket) (serveReadOrder ticket) s)

/-- R201: the item record of READ ITEM. -/
def itemRecord (i : Item) : List Byte :=
  be32 i.handle ++ n16 i.ws ++ n16 i.hs ++ n8 i.sizeIndex ++ [i.surface.toByte, i.mode.toByte] ++ n8 i.ordered
    ++ n8 i.waiting ++ n8 i.onWeb ++ n8 i.delivered ++ n8 i.writtenOff ++ n8 i.remakesUsed ++ n32 i.charged
    ++ n8 (itemFlags i)

/-- READ ITEM (R25). -/
def serveReadItem (ticket : Word16) (item : Byte) (s : State) : State × Reply :=
  withOrder s ticket fun slot o =>
    if item.toNat ≥ o.items.length then refuse s .malformed
    else
      match s.orderTable.item? slot item.toNat with
      | some i => (s, .taken false (itemRecord i))
      | none => refuse s .malformed

/-- Row READ_ITEM. -/
def execReadItem (link : Link) (ticket : Word16) (item : Byte) (s : State) : Host.Outcome State Fault Refusal :=
  .next (takeRequest link .readItem (be16 ticket ++ [item]) (serveReadItem ticket item) s)

/-! ## The size table -/

/-- R201: a size entry as sent. -/
def sizeRecord (e : SizeEntry) : List Byte :=
  flagByte e.enabled ++ n16 e.wp ++ n16 e.lp ++ n16 e.paperWidth ++ [e.group.toByte]

/-- R27, test 2: an item record in use names the index. -/
def OrderTable.sizeInUse (T : OrderTable) (index : Nat) : Bool := T.items.any fun p => p.2.sizeIndex == index

/-- R27: the entry WRITE SIZE stores, each field clamped into its range. -/
def SizeEntry.clamped (enabled : Byte) (wp lp paperWidth : Word16) (group : PrintGroup) : SizeEntry :=
  { enabled := enabled != 0, wp := clampNat 1 4096 wp.toNat, lp := clampNat 1 12000 lp.toNat
    paperWidth := clampNat 89 305 paperWidth.toNat, group := group }

/-- WRITE SIZE (R27). -/
def serveWriteSize (index enabled : Byte) (wp lp paperWidth : Word16) (group : Byte) (s : State) : State × Reply :=
  match PrintGroup.ofByte? group with
  | none => refuse s .malformed
  | some g =>
    if index.toNat > 15 then refuse s .malformed
    else if s.orderTable.sizeInUse index.toNat then refuse s .locked
    else
      let e := SizeEntry.clamped enabled wp lp paperWidth g
      ({ s with orderTable := { s.orderTable with sizes := Table.put s.orderTable.sizes index.toNat e } },
       .taken (e.wp != wp.toNat || e.lp != lp.toNat || e.paperWidth != paperWidth.toNat) (sizeRecord e))

/-- Row WRITE_SIZE. -/
def execWriteSize (link : Link) (index enabled : Byte) (wp lp paperWidth : Word16) (binGroup : Byte) (s : State) :
    Host.Outcome State Fault Refusal :=
  .next (takeRequest link .writeSize ([index, enabled] ++ be16 wp ++ be16 lp ++ be16 paperWidth ++ [binGroup])
    (serveWriteSize index enabled wp lp paperWidth binGroup) s)

/-- READ SIZE (R26). -/
def serveReadSize (index : Byte) (s : State) : State × Reply :=
  if index.toNat > 15 then refuse s .malformed
  else
    match Table.get? s.orderTable.sizes index.toNat with
    | some e => (s, .taken false (sizeRecord e))
    | none => refuse s .malformed

/-- Row READ_SIZE. -/
def execReadSize (link : Link) (index : Byte) (s : State) : Host.Outcome State Fault Refusal :=
  .next (takeRequest link .readSize [index] (serveReadSize index) s)

/-! ## Windows and the remake limit -/

/-- SET WINDOWS (R28). -/
def serveSetWindows (express standard bulk : Word16) (s : State) : State × Reply :=
  let w : Windows :=
    { express := min 255 express.toNat, standard := min 255 standard.toNat, bulk := min 255 bulk.toNat }
  ({ s with orderTable := { s.orderTable with windows := w } },
   .taken (decide (express.toNat > 255 ∨ standard.toNat > 255 ∨ bulk.toNat > 255))
     (n16 w.express ++ n16 w.standard ++ n16 w.bulk))

/-- Row SET_WINDOWS. -/
def execSetWindows (link : Link) (express standard bulk : Word16) (s : State) : Host.Outcome State Fault Refusal :=
  .next (takeRequest link .setWindows (be16 express ++ be16 standard ++ be16 bulk) (serveSetWindows express standard bulk) s)

/-- SET REMAKE LIMIT (R29). -/
def serveSetRemakeLimit (limit : Byte) (s : State) : State × Reply :=
  ({ s with orderTable := { s.orderTable with remakeLimit := min 3 limit.toNat } },
   .taken (decide (limit.toNat > 3)) (n8 (min 3 limit.toNat)))

/-- Row SET_REMAKE_LIMIT. -/
def execSetRemakeLimit (link : Link) (limit : Byte) (s : State) : Host.Outcome State Fault Refusal :=
  .next (takeRequest link .setRemakeLimit [limit] (serveSetRemakeLimit limit) s)

end Sys2Proof.Machine
end

