-- ==== Sys2Proof/Machine/Pricing.lean ====
section
/-! DEFINITION. The Price Unit (chapter 8): charging, the tariff, the amendment, collection and the day close. -/

namespace Sys2Proof.Machine

/-! ## Charging (R161 to R163) -/

/-- R161: the surcharge of a surface. -/
def Surcharges.ofSurface (c : Surcharges) : Surface → Nat
  | .gloss => c.gloss
  | .matt => c.matt
  | .lustre => c.lustre

/-- R161: the order's count for a size, copies ordered over all its items of that size. -/
def sizeCount (items : List Item) (sizeIndex : Nat) : Nat :=
  ((items.filter fun i => i.sizeIndex == sizeIndex).map fun i => i.ordered).sum

/-- R161: the band price for a count. -/
def TariffEntry.bandPrice (t : TariffEntry) (count : Nat) : Nat :=
  if count < t.n1 then t.p1 else if count < t.n2 then t.p2 else t.p3

/-- R161: the unit price of a print of an item of an order. -/
def State.unitPrice (s : State) (slot : Nat) (i : Item) : Nat :=
  (match Table.get? s.price.tariff i.sizeIndex with
    | some t => t.bandPrice (sizeCount (s.orderTable.itemsOf slot) i.sizeIndex)
    | none => 0) + s.price.surcharges.ofSurface i.surface

/-- R162, step 1, and R173: the price of the next delivery of an item; 0 when it is waived. -/
def State.quotedPrice (s : State) (slot : Nat) (i : Item) : Nat := if i.waived then 0 else s.unitPrice slot i

/-- R163: the final of a gross, a discount and an adjustment. -/
def finalOf (gross discount : Nat) (adjustment : Int) : Nat :=
  (clampInt 0 9999999 ((gross : Int) - (gross * discount / 100 : Nat) + adjustment)).toNat

/-- R163: the order's final recomputed. -/
def Order.withFinal (o : Order) : Order := { o with final := finalOf o.gross o.discount o.adjustment }

/-- R162, step 3: a charge added to an item's charged sum. -/
def Item.addCharge (charge : Nat) (i : Item) : Item := { i with charged := i.charged + charge }

/-- R162, steps 3 and 4: a charge added to an order's gross, and its final recomputed. -/
def Order.addCharge (charge : Nat) (o : Order) : Order := Order.withFinal { o with gross := o.gross + charge }

/-- R162: a delivered print charged. -/
def State.chargePrint (s : State) (slot n : Nat) : State :=
  match s.order? slot, s.orderTable.item? slot n with
  | some o, some i =>
    let charge := min (s.quotedPrice slot i) (9999999 - o.gross)
    { s with
      orderTable := (s.orderTable.modifyItem slot n (Item.addCharge charge)).modifyOrder slot (Order.addCharge charge)
      price := { s.price with totals := { s.price.totals with
        printsCharged := satAdd 65535 s.price.totals.printsCharged 1 } } }
  | _, _ => s

/-! ## The tariff (R158 to R160) -/

/-- WRITE TARIFF (R159); with the surcharge target the index and the last two fields are not examined (R200). -/
def serveWriteTariff (target index : Byte) (f0 f1 f2 f3 f4 : Word16) (s : State) : State × Reply :=
  if target = 1#8 then
    if index.toNat > 15 then refuse s .malformed
    else if s.price.lock then refuse s .locked
    else if f0.toNat = 0 ∨ f1.toNat < f0.toNat ∨ f1.toNat > 9999 then refuse s .malformed
    else
      let e : TariffEntry := { n1 := f0.toNat, n2 := f1.toNat, p1 := f2.toNat, p2 := f3.toNat, p3 := f4.toNat }
      ({ s with price := { s.price with tariff := Table.put s.price.tariff index.toNat e } }, .taken false [])
  else if target = 2#8 then
    if s.price.lock then refuse s .locked
    else
      ({ s with price := { s.price with
          surcharges := { gloss := f0.toNat, matt := f1.toNat, lustre := f2.toNat } } },
       .taken false [])
  else refuse s .malformed

/-- Row WRITE_TARIFF. -/
def execWriteTariff (link : Link) (target index : Byte) (f0 f1 f2 f3 f4 : Word16) (s : State) :
    Host.Outcome State Fault Refusal :=
  .next (takeRequest link .writeTariff ([target, index] ++ be16 f0 ++ be16 f1 ++ be16 f2 ++ be16 f3 ++ be16 f4)
    (serveWriteTariff target index f0 f1 f2 f3 f4) s)

/-- LOCK TARIFF (R160). -/
def serveLockTariff (s : State) : State × Reply :=
  ({ s with price := { s.price with lock := true } }, .taken false [])

/-- Row LOCK_TARIFF. -/
def execLockTariff (link : Link) (s : State) : Host.Outcome State Fault Refusal :=
  .next (takeRequest link .lockTariff [] serveLockTariff s)

/-! ## The amendment (R164 to R171) -/

/-- AMEND OPEN (R166). -/
def serveAmendOpen (ticket : Word16) (s : State) : State × Reply :=
  withOrder s ticket fun slot o =>
    if s.price.amendment.isSome then refuse s .locked
    else if o.state = .opened ∨ o.state = .withdrawn then refuse s .wrongState
    else
      let a : Amendment :=
        { ticket := o.ticket, slot := slot, discount := o.discount, adjustment := o.adjustment, waive := 0 }
      ({ s with price := { s.price with amendment := some a } },
       .taken false (n8 o.discount ++ i32 o.adjustment ++ n32 o.gross ++ n32 o.final ++ n8 o.items.length))

/-- Row AMEND_OPEN. -/
def execAmendOpen (link : Link) (ticket : Word16) (s : State) : Host.Outcome State Fault Refusal :=
  .next (takeRequest link .amendOpen (be16 ticket) (serveAmendOpen ticket) s)

/-- R167, tests 1 to 3, shared by AMEND SET, AMEND COMMIT and AMEND DROP. -/
def withAmendment (s : State) (ticket : Word16) (serve : Nat → Order → Amendment → State × Reply) : State × Reply :=
  withOrder s ticket fun slot o =>
    match s.price.amendment with
    | some a => if a.slot = slot then serve slot o a else refuse s .wrongState
    | none => refuse s .wrongState

/-- An item number as one bit of the waive set (R202). -/
def waiveBit (n : Nat) : BitVec 24 := 1#24 <<< n

/-- Whether an item number is in a waive set. -/
def inWaiveSet (w : BitVec 24) (n : Nat) : Bool := w.getLsbD n

/-- R167: the amendment after an edit, and whether a value was clamped; none for an edit that is MALFORMED. -/
def Amendment.edit (a : Amendment) (o : Order) (kind : Byte) (value : Word32) : Option (Amendment × Bool) :=
  if kind = 1#8 then some ({ a with discount := min 100 value.toNat }, decide (value.toNat > 100))
  else if kind = 2#8 then
    some ({ a with adjustment := clampInt (-999999) 999999 value.toInt },
          decide (value.toInt < -999999 ∨ value.toInt > 999999))
  else if kind = 3#8 ∧ value.toNat < o.items.length then
    some ({ a with waive := a.waive ||| waiveBit value.toNat }, false)
  else if kind = 4#8 ∧ value.toNat < o.items.length then
    some ({ a with waive := a.waive &&& ~~~ waiveBit value.toNat }, false)
  else none

/-- The item numbers of an order with their items, from a number on. -/
def OrderTable.numberedItems (T : OrderTable) (slot : Nat) : List (Nat × Item) :=
  (List.range (T.refsOf slot).length).filterMap fun n => (T.item? slot n).map fun i => (n, i)

/-- R167, R168: the charged sums of the items of a waive set that are not yet waived. -/
def OrderTable.refundOf (T : OrderTable) (slot : Nat) (w : BitVec 24) : Nat :=
  (((T.numberedItems slot).filter fun p => inWaiveSet w p.1 && !p.2.waived).map fun p => p.2.charged).sum

/-- R167: the preview final of an amendment. -/
def State.previewFinal (s : State) (slot : Nat) (o : Order) (a : Amendment) : Nat :=
  finalOf (o.gross - s.orderTable.refundOf slot a.waive) a.discount a.adjustment

/-- R202: the waive set as three bytes, item 0 the least significant bit of the last. -/
def waiveBytes (w : BitVec 24) : List Byte := [w.extractLsb' 16 8, w.extractLsb' 8 8, w.extractLsb' 0 8]

/-- AMEND SET (R167). -/
def serveAmendSet (ticket : Word16) (kind : Byte) (value : Word32) (s : State) : State × Reply :=
  withAmendment s ticket fun slot o a =>
    match a.edit o kind value with
    | none => refuse s .malformed
    | some (b, clamped) =>
      ({ s with price := { s.price with amendment := some b } },
       .taken clamped (n8 b.discount ++ i32 b.adjustment ++ waiveBytes b.waive ++ n32 (s.previewFinal slot o b)))

/-- Row AMEND_SET. -/
def execAmendSet (link : Link) (ticket : Word16) (kind : Byte) (value : Word32) (s : State) :
    Host.Outcome State Fault Refusal :=
  .next (takeRequest link .amendSet (be16 ticket ++ [kind] ++ be32 value) (serveAmendSet ticket kind value) s)

/-- R168, step 2: an item waived and its charged sum refunded. -/
def Item.waive (i : Item) : Item := { i with waived := true, charged := 0 }

/-- R168, step 2: the item records of a waive set that are not yet waived. -/
def OrderTable.waivedRefs (T : OrderTable) (slot : Nat) (w : BitVec 24) : List Nat :=
  ((T.numberedItems slot).filter fun p => inWaiveSet w p.1 && !p.2.waived).filterMap fun p => T.itemRef? slot p.1

/-- R168, steps 1 to 3: the amendment committed to the order table. -/
def OrderTable.commit (T : OrderTable) (slot : Nat) (a : Amendment) : OrderTable :=
  OrderTable.modifyOrder { T with items := Table.modifyAll T.items (T.waivedRefs slot a.waive) Item.waive } slot fun o =>
    Order.withFinal
      { o with discount := a.discount, adjustment := a.adjustment, gross := o.gross - T.refundOf slot a.waive }

/-- AMEND COMMIT (R168). -/
def serveAmendCommit (ticket : Word16) (s : State) : State × Reply :=
  withAmendment s ticket fun slot o a =>
    let refund := s.orderTable.refundOf slot a.waive
    let gross := o.gross - refund
    ({ s with orderTable := s.orderTable.commit slot a, price := { s.price with amendment := none } },
     .taken false (n32 refund ++ n32 gross ++ n32 (finalOf gross a.discount a.adjustment)))

/-- Row AMEND_COMMIT. -/
def execAmendCommit (link : Link) (ticket : Word16) (s : State) : Host.Outcome State Fault Refusal :=
  .next (takeRequest link .amendCommit (be16 ticket) (serveAmendCommit ticket) s)

/-- AMEND DROP (R169). -/
def serveAmendDrop (ticket : Word16) (s : State) : State × Reply :=
  withAmendment s ticket fun _ o _ =>
    ({ s with price := { s.price with amendment := none } }, .taken false (n32 o.gross ++ n32 o.final))

/-- Row AMEND_DROP. -/
def execAmendDrop (link : Link) (ticket : Word16) (s : State) : Host.Outcome State Fault Refusal :=
  .next (takeRequest link .amendDrop (be16 ticket) (serveAmendDrop ticket) s)

/-! ## Reading a price -/

/-- R173: the order's copies delivered, summed over its items. -/
def OrderTable.deliveredCopies (T : OrderTable) (slot : Nat) : Nat :=
  ((T.itemsOf slot).map fun i => i.delivered).sum

/-- R202: the order part of READ PRICE. -/
def priceRecord (s : State) (slot : Nat) (o : Order) : List Byte :=
  [o.state.toByte] ++ n8 (priceFlags o (s.price.amends slot)) ++ n32 o.gross ++ n8 o.discount ++ i32 o.adjustment
    ++ n32 o.final ++ n16 (s.orderTable.deliveredCopies slot)

/-- R202: the item part of READ PRICE. -/
def priceItemRecord (s : State) (slot : Nat) (i : Item) : List Byte :=
  n8 i.sizeIndex ++ [i.surface.toByte] ++ n8 i.ordered ++ n8 i.delivered ++ n32 i.charged ++ flagByte i.waived
    ++ n32 (s.quotedPrice slot i)

/-- READ PRICE (R173); the item number 255 names no item (R202). -/
def serveReadPrice (ticket : Word16) (item : Byte) (s : State) : State × Reply :=
  withOrder s ticket fun slot o =>
    if item = 255#8 then (s, .taken false (priceRecord s slot o))
    else if item.toNat ≥ o.items.length then refuse s .malformed
    else
      match s.orderTable.item? slot item.toNat with
      | some i => (s, .taken false (priceRecord s slot o ++ priceItemRecord s slot i))
      | none => refuse s .malformed

/-- Row READ_PRICE. -/
def execReadPrice (link : Link) (ticket : Word16) (item : Byte) (s : State) : Host.Outcome State Fault Refusal :=
  .next (takeRequest link .readPrice (be16 ticket ++ [item]) (serveReadPrice ticket item) s)

/-! ## Collection (R22, R23, R174, R175) -/

/-- R174, R175: a final added to the takings, with the collection counted. -/
def Totals.collect (t : Totals) (final : Nat) (partially : Bool) : Totals :=
  { t with
    ordersCollected := satAdd 65535 t.ordersCollected 1
    partialCollections := satAdd 65535 t.partialCollections (if partially then 1 else 0)
    takings := satAdd 999999999 t.takings final }

/-- R22: a COMPLETE order collected: its final taken, its bins released, its record freed. -/
def State.collectWhole (s : State) (slot : Nat) (o : Order) : State :=
  (({ s with price := { s.price with totals := s.price.totals.collect o.final false } }).releaseBins slot).freeRecord slot

/-- COLLECT (R22, R174). -/
def serveCollect (ticket : Word16) (s : State) : State × Reply :=
  withOrder s ticket fun slot o =>
    if o.state ≠ .complete then refuse s .wrongState
    else if s.price.amends slot then refuse s .locked
    else (s.collectWhole slot o, .taken false (n32 o.final))

/-- Row COLLECT. -/
def execCollect (link : Link) (ticket : Word16) (s : State) : Host.Outcome State Fault Refusal :=
  .next (takeRequest link .collect (be16 ticket) (serveCollect ticket) s)

/-- COLLECT PARTIAL (R23, R175); of a COMPLETE order it does what COLLECT does and the order is finished (log entry 18). -/
def serveCollectPartial (ticket : Word16) (s : State) : State × Reply :=
  withOrder s ticket fun slot o =>
    if o.state = .opened ∨ o.state = .withdrawn then refuse s .wrongState
    else if s.price.amends slot then refuse s .locked
    else if o.state = .complete then (s.collectWhole slot o, .taken false (n32 o.final ++ [outcomeByte true]))
    else
      let t := ({ s with price := { s.price with totals := s.price.totals.collect o.final true } }).withdraw slot .nobody true
      (t, .taken false (n32 o.final ++ [outcomeByte (t.order? slot).isNone]))

/-- Row COLLECT_PARTIAL. -/
def execCollectPartial (link : Link) (ticket : Word16) (s : State) : Host.Outcome State Fault Refusal :=
  .next (takeRequest link .collectPartial (be16 ticket) (serveCollectPartial ticket) s)

/-! ## Totals and the day close (R177 to R180) -/

/-- R202: the totals block. -/
def totalsBlock (t : Totals) : List Byte :=
  n16 t.ordersCollected ++ n16 t.printsCharged ++ n16 t.printsRejected ++ n16 t.remakesMade ++ n16 t.partialCollections
    ++ n32 t.takings

/-- READ TOTALS (R178). -/
def serveReadTotals (s : State) : State × Reply :=
  (s, .taken false
    (totalsBlock s.price.totals ++ n8 (totalsFlags s.price)
      ++ n16 (match s.price.amendment with | some a => a.ticket | none => 0) ++ n16 s.price.closedDay.number))

/-- Row READ_TOTALS. -/
def execReadTotals (link : Link) (s : State) : Host.Outcome State Fault Refusal :=
  .next (takeRequest link .readTotals [] serveReadTotals s)

/-- R179: the close number after another, 65,535 before 1. -/
def closeAfter (n : Nat) : Nat := if n = 65535 then 1 else n + 1

/-- CLOSE DAY (R179). -/
def serveCloseDay (s : State) : State × Reply :=
  if s.price.amendment.isSome then refuse s .locked
  else if !s.price.closedDay.read then refuse s .unread
  else
    ({ s with price := { s.price with
        closedDay := { totals := s.price.totals, number := closeAfter s.price.closedDay.number, read := false }
        totals := Totals.zero
        lock := false } },
     .taken false (n16 (closeAfter s.price.closedDay.number)))

/-- Row CLOSE_DAY. -/
def execCloseDay (link : Link) (s : State) : Host.Outcome State Fault Refusal :=
  .next (takeRequest link .closeDay [] serveCloseDay s)

/-- READ CLOSED DAY (R180). -/
def serveReadClosedDay (s : State) : State × Reply :=
  ({ s with price := { s.price with closedDay := { s.price.closedDay with read := true } } },
   .taken false (totalsBlock s.price.closedDay.totals ++ n16 s.price.closedDay.number))

/-- Row READ_CLOSED_DAY. -/
def execReadClosedDay (link : Link) (s : State) : Host.Outcome State Fault Refusal :=
  .next (takeRequest link .readClosedDay [] serveReadClosedDay s)

end Sys2Proof.Machine
end

