-- ==== Sys2Proof/Machine/Sorting.lean ====
section
/-! DEFINITION. Sort Control (chapter 7): placement of a deliverable print, the bin requests, the uncollected timers. -/

namespace Sys2Proof.Machine

/-! ## Placement (R140 to R144) -/

/-- R140: a bin accepts a print of a group. -/
def BinGroup.accepts (b : BinGroup) (g : PrintGroup) : Bool :=
  match b, g with
  | .any, _ => true
  | .small, .small => true
  | .large, .large => true
  | _, _ => false

/-- R141, step 1: a bin of the order's list that receives the print. -/
def Bin.takes (b : Bin) (g : PrintGroup) : Bool :=
  b.state == .filling && b.group.accepts g && decide (b.count < b.capacity)

/-- R141, step 1: the first bin of a bin list that receives the print. -/
def SortControl.openBin? (sc : SortControl) (bins : List Nat) (g : PrintGroup) : Option Nat :=
  bins.find? fun n => match Table.get? sc.bins n with | some b => b.takes g | none => false

/-- R142: the lowest-numbered FREE bin that accepts the print. -/
def SortControl.freeBin? (sc : SortControl) (g : PrintGroup) : Option Nat :=
  ((List.range 20).map (· + 1)).find? fun n =>
    match Table.get? sc.bins n with | some b => b.state == .free && b.group.accepts g | none => false

/-- R141, R144: a bin receives a print; at its capacity it becomes FULL. -/
def Bin.receive (b : Bin) : Bin :=
  { b with count := b.count + 1, state := if b.capacity ≤ b.count + 1 then .full else b.state }

/-- R142: a FREE bin allocated to an order. -/
def Bin.allocate (ticket slot : Nat) (b : Bin) : Bin :=
  { b with state := .filling, count := 0, ticket := some ticket, owner := some slot, timer := none, uncollected := false }

/-- R143: a print of an order to the overflow tray. -/
def State.toTray (s : State) (slot : Nat) : State :=
  { s with
    sort := { s.sort with trayCount := satAdd 65535 s.sort.trayCount 1 }
    orderTable := s.orderTable.modifyOrder slot fun o =>
      { o with overflow := satAdd 255 o.overflow 1, shortageUnreported := true } }

/-- R141: where a deliverable print of an order goes. Answers the destination, 1 to 21. -/
def State.placePrint (s : State) (slot : Nat) (o : Order) (g : PrintGroup) : State × Nat :=
  match s.sort.openBin? o.bins g with
  | some n => ({ s with sort := { s.sort with bins := Table.modify s.sort.bins n Bin.receive } }, n)
  | none =>
    match (if o.bins.length < 4 then s.sort.freeBin? g else none) with
    | some n =>
      ({ s with
          sort := { s.sort with
            bins := Table.modify s.sort.bins n fun b => (b.allocate o.ticket slot).receive }
          orderTable := s.orderTable.modifyOrder slot fun o => { o with bins := o.bins ++ [n] } }, n)
    | none => (s.toTray slot, 21)

/-- R145: a piece sent to the reject chute is counted. -/
def State.countReject (s : State) : State :=
  { s with sort := { s.sort with rejectCount := satAdd 65535 s.sort.rejectCount 1 } }

/-! ## Requests -/

/-- R151: what an emptied bin becomes. -/
def Bin.emptied (b : Bin) : Bin :=
  match b.state with
  | .free => b
  | .filling | .full => { b with state := .filling, count := 0 }
  | .waiting | .clearance =>
    { b with state := .free, count := 0, ticket := none, owner := none, timer := none, uncollected := false }

/-- R151: what emptying a bin does to the record of its order. -/
def Order.binEmptied (state : BinState) (n : Nat) (o : Order) : Order :=
  match state with
  | .filling => { o with earlyPickup := true }
  | .waiting => { o with bins := o.bins.filter (· != n), pickedUp := true }
  | .free | .full | .clearance => o

/-- BIN EMPTIED (R151). -/
def serveBinEmptied (bin : Byte) (s : State) : State × Reply :=
  match binNumber? bin with
  | none => refuse s .malformed
  | some n =>
    match Table.get? s.sort.bins n with
    | none => refuse s .malformed
    | some b =>
      ({ s with
          sort := { s.sort with bins := Table.modify s.sort.bins n Bin.emptied }
          orderTable := match b.owner with
            | some slot => s.orderTable.modifyOrder slot (Order.binEmptied b.state n)
            | none => s.orderTable },
       .taken false [b.emptied.state.toByte])

/-- Row BIN_EMPTIED. -/
def execBinEmptied (link : Link) (bin : Byte) (s : State) : Host.Outcome State Fault Refusal :=
  .next (takeRequest link .binEmptied [bin] (serveBinEmptied bin) s)

/-- TRAY EMPTIED (R153). -/
def serveTrayEmptied (s : State) : State × Reply :=
  ({ s with sort := { s.sort with trayCount := 0 } }, .taken false [])

/-- Row TRAY_EMPTIED. -/
def execTrayEmptied (link : Link) (s : State) : Host.Outcome State Fault Refusal :=
  .next (takeRequest link .trayEmptied [] serveTrayEmptied s)

/-- SET BIN (R154). -/
def serveSetBin (bin group capacity : Byte) (s : State) : State × Reply :=
  match binNumber? bin, BinGroup.ofByte? group with
  | some n, some g =>
    match Table.get? s.sort.bins n with
    | none => refuse s .malformed
    | some b =>
      if b.state ≠ .free then refuse s .wrongState
      else
        let c := clampNat 1 250 capacity.toNat
        ({ s with sort := { s.sort with
            bins := Table.modify s.sort.bins n fun b => { b with group := g, capacity := c } } },
         .taken (c != capacity.toNat) (n8 n ++ [g.toByte] ++ n8 c))
  | _, _ => refuse s .malformed

/-- Row SET_BIN. -/
def execSetBin (link : Link) (bin group capacity : Byte) (s : State) : Host.Outcome State Fault Refusal :=
  .next (takeRequest link .setBin [bin, group, capacity] (serveSetBin bin group capacity) s)

/-- R155: whole minutes to the expiry of a running timer, rounded up; 0 when it is stopped. -/
def Bin.minutesLeft (b : Bin) (now : Word32) : Nat :=
  match b.timer with
  | some t => (msLeft now t + 59999) / 60000
  | none => 0

/-- R202: the bin record of READ BIN. -/
def binRecord (sc : SortControl) (now : Word32) (b : Bin) : List Byte :=
  [b.state.toByte, b.group.toByte] ++ n8 b.capacity ++ n8 b.count ++ n16 (b.ticket.getD 0) ++ n8 (b.owner.getD 255)
    ++ n8 (binFlags b) ++ n16 (b.minutesLeft now) ++ n16 sc.trayCount ++ n16 sc.rejectCount ++ n16 sc.uncollectedTime

/-- READ BIN (R155). -/
def serveReadBin (bin : Byte) (s : State) : State × Reply :=
  match binNumber? bin with
  | none => refuse s .malformed
  | some n =>
    match Table.get? s.sort.bins n with
    | none => refuse s .malformed
    | some b => (s, .taken false (binRecord s.sort s.timeBase b))

/-- Row READ_BIN. -/
def execReadBin (link : Link) (bin : Byte) (s : State) : Host.Outcome State Fault Refusal :=
  .next (takeRequest link .readBin [bin] (serveReadBin bin) s)

/-- SET UNCOLLECTED TIME (R149); a value of 0 stops every running timer. -/
def serveSetUncollectedTime (minutes : Word16) (s : State) : State × Reply :=
  let m := min 1440 minutes.toNat
  ({ s with sort := { s.sort with
      uncollectedTime := m
      bins := if m = 0 then s.sort.bins.map fun p => (p.1, { p.2 with timer := none }) else s.sort.bins } },
   .taken (decide (minutes.toNat > 1440)) (n16 m))

/-- Row SET_UNCOLLECTED_TIME. -/
def execSetUncollectedTime (link : Link) (minutes : Word16) (s : State) : Host.Outcome State Fault Refusal :=
  .next (takeRequest link .setUncollectedTime (be16 minutes) (serveSetUncollectedTime minutes) s)

/-- R148: a bin's uncollected timer expires. -/
def Bin.expire (b : Bin) : Bin := { b with timer := none, uncollected := true }

/-- Row UNCOLLECTED_EXPIRY (R148), of bin `bin + 1`: a WAITING bin's timer has reached its expiry; otherwise no timer of
the bin expires (log entries 1 and 7). -/
def execUncollectedExpiry (bin : Fin 20) (s : State) : Host.Outcome State Fault Refusal :=
  .next (match Table.get? s.sort.bins (bin.val + 1) with
    | some b =>
      match b.timer with
      | some t =>
        if reached s.timeBase t && b.state == .waiting then
          s.noteCauses { s with sort := { s.sort with bins := Table.modify s.sort.bins (bin.val + 1) Bin.expire } }
        else s
      | none => s
    | none => s)

end Sys2Proof.Machine
end

