-- ==== Sys2Proof/Machine/Cutter.lean ====
section
/-! DEFINITION. Cuts and the disposal of pieces (sections 6.4 and 6.5), WEB FAULT and WEB CLEARED (section 6.7). -/

namespace Sys2Proof.Machine

/-! ## Pieces (R125, R126) -/

/-- R117, R128: segments popped from the head of the map; the unlisted stretch joins the map once it has room, and a map
left empty stops the stall monitor (log entry 13). -/
def State.popSegments (s : State) (k : Nat) : State :=
  { s with web := (Web.admitStretch { s.web with map := s.web.map.drop k }).stopIfEmpty }

/-- The ticket of the order whose copy a segment carries, 0 for a segment that carries none. -/
def State.segmentTicket (s : State) (k : SegmentKind) : Nat :=
  match k with
  | .print slot _ _ => (match s.order? slot with | some o => o.ticket | none => 0)
  | _ => 0

/-- R118: none of the flags that keep a print from being delivered. -/
def Segment.sound (g : Segment) : Bool := !g.suspect && !g.split && !g.merged && !g.spoiled

/-- R125: what the delivery of a segment popped alone needs: its order slot, item number, order record and size entry; none
where the piece is not deliverable. -/
def State.deliverable? (s : State) (g : Segment) : Option (Nat × Nat × Order × SizeEntry) :=
  match g.kind with
  | .print slot n _ =>
    match s.order? slot, (s.orderTable.item? slot n).bind s.orderTable.sizeOf? with
    | some o, some e => if g.sound && o.state != .withdrawn then some (slot, n, o, e) else none
    | _, _ => none
  | _ => none

/-- R125: a deliverable print placed, counted delivered and charged, and the completion check run. Answers the
destination. -/
def State.deliverPrint (s : State) (slot n : Nat) (o : Order) (e : SizeEntry) : State × Nat :=
  let q := s.placePrint slot o e.group
  let t := { q.1 with orderTable := q.1.orderTable.modifyItem slot n Item.deliver }
  ((t.chargePrint slot n).accountCheck slot, q.2)

/-- R105: PATCH UNREAD is raised by an unread PATCH among popped segments. -/
def State.notePatches (s : State) (popped : List Segment) : State :=
  { s with density := { s.density with
      patchUnread := s.density.patchUnread || popped.any fun g => g.kind == .patch && !g.read } }

/-- R126, R145: a piece sent to the reject chute, its copies disposed of one after another. Answers how many were remade
and how many written off. -/
def State.rejectPiece (s : State) (popped : List Segment) : State × Nat × Nat :=
  (s.countReject.notePatches popped).disposeSegments true popped

/-- R127: the fate of a single PRINT's copy that was not delivered. -/
def rejectedFate (remade writtenOff : Nat) : Fate :=
  if remade > 0 then .remade else if writtenOff > 0 then .writtenOff else .nothing

/-- R126, R127: one segment popped alone to the reject chute, with the record of the cut. -/
def State.rejectSingle (s : State) (outcome : CutOutcome) (d : Option Int) (g : Segment) : State × CutRecord :=
  let q := (s.popSegments 1).rejectPiece [g]
  (q.1, { outcome := outcome, destination := 0, piece := .single g.kind, odometer := s.web.odometer, deviation := d
          ticket := s.segmentTicket g.kind, fate := rejectedFate q.2.1 q.2.2, remade := q.2.1, writtenOff := q.2.2 })

/-! ## Judging a cut (R123, R124, R132) -/

/-- R123, R125 to R127: a cut that matches the reference segment at place k. -/
def State.matchedCut (s : State) (k : Nat) (d : Int) : State × CutRecord :=
  match s.web.map.take (k + 1) with
  | [g] =>
    match (s.popSegments 1).deliverable? g with
    | some (slot, n, o, e) =>
      let q := (s.popSegments 1).deliverPrint slot n o e
      (q.1, { outcome := .matched, destination := q.2, piece := .single g.kind, odometer := s.web.odometer
              deviation := some d, ticket := o.ticket, fate := .delivered, remade := 0, writtenOff := 0 })
    | none => s.rejectSingle .matched (some d) g
  | popped =>
    let q := (s.popSegments (k + 1)).rejectPiece popped
    (q.1, { outcome := .matched, destination := 0, piece := .group popped.length, odometer := s.web.odometer
            deviation := some d, ticket := 0, fate := .nothing, remade := q.2.1, writtenOff := q.2.2 })

/-- The record of a cut that pops nothing. -/
def nothingCut (outcome : CutOutcome) (odometer : Word32) (d : Option Int) : CutRecord :=
  { outcome := outcome, destination := 0, piece := .nothing, odometer := odometer, deviation := d, ticket := 0
    fate := .nothing, remade := 0, writtenOff := 0 }

/-- R124: the head segment marked split. -/
def splitHead : List Segment → List Segment
  | [] => []
  | g :: rest => { g with split := true } :: rest

/-- R124: an early cut. -/
def State.earlyCut (s : State) (d : Option Int) : State × CutRecord :=
  ({ s.countReject with web := { s.web with map := splitHead s.web.map } }, nothingCut .early s.web.odometer d)

/-- R123, R124: a cut judged against the reference segment. -/
def State.judgeCut (s : State) : State × CutRecord :=
  match s.web.reference? with
  | some (k, g) =>
    let d := g.deviation s.web.lpath s.web.odometer
    if -25 ≤ d ∧ d ≤ 25 then s.matchedCut k d else s.earlyCut (some d)
  | none => s.earlyCut none

/-- R132: a cut while WEB FAULT holds: a closed head segment is popped alone. -/
def State.faultCut (s : State) : State × CutRecord :=
  match s.web.map with
  | g :: _ =>
    if g.closed then s.rejectSingle .duringFault none g
    else (s.countReject, nothingCut .duringFault s.web.odometer none)
  | [] => (s.countReject, nothingCut .duringFault s.web.odometer none)

/-- R204: the item and copy numbers of a cut record. -/
def Piece.copyBytes : Piece → List Byte
  | .single (.print _ item copy) => n8 item ++ n8 copy
  | _ => [0, 0]

/-- R204: the piece form, and the kind or the number of segments. -/
def Piece.formBytes : Piece → List Byte
  | .nothing => [0, 0]
  | .single k => [1, k.toByte]
  | .group n => [2] ++ n8 n

/-- R204: the cut record. -/
def cutRecordBytes (r : CutRecord) : List Byte :=
  [r.outcome.toByte] ++ n8 r.destination ++ r.piece.formBytes ++ be32 r.odometer ++ flagByte r.deviation.isSome
    ++ i32 (r.deviation.getD 0) ++ n16 r.ticket ++ r.piece.copyBytes ++ [r.fate.toByte] ++ n8 r.remade ++ n8 r.writtenOff

/-- R123: a cut. A cut that itself raises WEB FAULT by missed-cut detection is judged (log entry 11). -/
def State.takeCut (s : State) : State × CutRecord :=
  if s.web.fault.isSome then s.faultCut else s.detectMissedCuts.judgeCut

/-- CUT (R123, R127). -/
def serveCut (s : State) : State × Reply :=
  let q := s.takeCut
  ({ q.1 with web := { q.1.web with cutsTaken := satAdd 65535 q.1.web.cutsTaken 1, lastCut := some q.2 } },
   .taken false (cutRecordBytes q.2))

/-- Row CUT. -/
def execCut (link : Link) (s : State) : Host.Outcome State Fault Refusal :=
  .next (takeRequest link .cut [] serveCut s)

/-! ## WEB CLEARED (R134) -/

/-- WEB CLEARED (R133, R134). -/
def serveWebCleared (s : State) : State × Reply :=
  if s.web.fault.isNone && (s.exposing || s.web.leaderExposed) then refuse s .wrongState
  else
    let q := s.clearMap
    ({ q.1 with web := { q.1.web with fault := none } },
     .taken false (n8 s.web.map.length ++ n8 q.2.1 ++ n8 q.2.2))

/-- Row WEB_CLEARED. -/
def execWebCleared (link : Link) (s : State) : Host.Outcome State Fault Refusal :=
  .next (takeRequest link .webCleared [] serveWebCleared s)

end Sys2Proof.Machine
end

