-- ==== Sys2Proof/Machine/DensityControl.lean ====
section
/-! DEFINITION. The Density Tracker (chapter 5): readings, DENSITY RESET and SET DENSITY. -/

namespace Sys2Proof.Machine

/-! ## Taking a reading (R96 to R101) -/

/-- R96: a closed PATCH whose read flag is clear. -/
def Segment.unreadPatch (g : Segment) : Bool := g.kind == .patch && g.closed && !g.read

/-- R97: the largest absolute value of the three errors. -/
def largestError (e : PerChannel Int) : Nat := max e.c0.natAbs (max e.c1.natAbs e.c2.natAbs)

/-- R97: the class of a reading. -/
def readingClass (q : Nat) (e : PerChannel Int) : ReadingClass :=
  if largestError e ≤ q then .good else if largestError e ≤ 4 * q then .outOfTolerance else .implausible

/-- R99: an offset steered by an error. -/
def steer (a : Nat) (offset error : Int) : Int := clampInt (-255) 255 (offset + (error * a).tdiv 16)

/-- R100: the PRINT segments up to the next PATCH marked suspect. -/
def markUntilPatch : List Segment → List Segment
  | [] => []
  | g :: rest =>
    match g.kind with
    | .patch => g :: rest
    | .print _ _ _ => { g with suspect := true } :: markUntilPatch rest
    | .leader | .blank => g :: markUntilPatch rest

/-- R107: how many PRINT segments that marking newly marks. -/
def newlyMarked : List Segment → Nat
  | [] => 0
  | g :: rest =>
    match g.kind with
    | .patch => 0
    | .print _ _ _ => (if g.suspect then 0 else 1) + newlyMarked rest
    | .leader | .blank => newlyMarked rest

/-- R96, R100: the map after a reading: the oldest closed unread PATCH is read, and with `mark` the prints behind it are
marked. -/
def readOldestPatch (mark : Bool) : List Segment → List Segment
  | [] => []
  | g :: rest =>
    if g.unreadPatch then { g with read := true } :: (if mark then markUntilPatch rest else rest)
    else g :: readOldestPatch mark rest

/-- R96: the patch a reading is matched to, with the segments behind it. -/
def oldestUnreadPatch : List Segment → Option (Segment × List Segment)
  | [] => none
  | g :: rest => if g.unreadPatch then some (g, rest) else oldestUnreadPatch rest

/-- R97 to R101: the Density Tracker after a reading, with the record of it (R107). -/
def Density.take (d : Density) (g : Segment) (behind : List Segment) (e : PerChannel Int) : Density :=
  let cls := readingClass d.q e
  let fit := !g.suspect && !g.spoiled && !g.preReset
  let offsets := if fit && cls != .implausible then d.offsets.zip (steer d.a) e else d.offsets
  let count := if fit then (if cls = .implausible then satAdd 255 d.implausible 1 else 0) else d.implausible
  let fault := d.fault || (fit && cls == .implausible && decide (2 ≤ count))
  { d with
    offsets := offsets
    implausible := count
    fault := fault
    lastReading := some
      { start := g.start, cls := cls, suspect := g.suspect, spoiled := g.spoiled, preReset := g.preReset, errors := e
        offsets := offsets, implausible := count, fault := fault
        marked := if cls = .good then 0 else newlyMarked behind } }

/-- R97: the errors of a reading against the targets. -/
def errorsOf (d : Density) (m0 m1 m2 : Word16) : PerChannel Int :=
  { c0 := (d.targets.c0 : Int) - m0.toNat, c1 := (d.targets.c1 : Int) - m1.toNat, c2 := (d.targets.c2 : Int) - m2.toNat }

/-- R204: the reading record. -/
def readingRecord (r : Reading) : List Byte :=
  be32 r.start ++ [r.cls.toByte] ++ n8 (unfitness r) ++ i16 r.errors.c0 ++ i16 r.errors.c1 ++ i16 r.errors.c2
    ++ i16 r.offsets.c0 ++ i16 r.offsets.c1 ++ i16 r.offsets.c2 ++ n8 r.implausible ++ flagByte r.fault ++ n8 r.marked

/-- PATCH READING (R96). -/
def servePatchReading (m0 m1 m2 : Word16) (s : State) : State × Reply :=
  if m0.toNat > 1023 ∨ m1.toNat > 1023 ∨ m2.toNat > 1023 then refuse s .malformed
  else
    match oldestUnreadPatch s.web.map with
    | none => refuse s .noOrder
    | some (g, behind) =>
      let e := errorsOf s.density m0 m1 m2
      let d := s.density.take g behind e
      ({ s with
          density := d
          web := { s.web with map := readOldestPatch (readingClass s.density.q e != .good) s.web.map } },
       .taken false (match d.lastReading with | some r => readingRecord r | none => []))

/-- Row PATCH_READING. -/
def execPatchReading (link : Link) (m0 m1 m2 : Word16) (s : State) : Host.Outcome State Fault Refusal :=
  .next (takeRequest link .patchReading (be16 m0 ++ be16 m1 ++ be16 m2) (servePatchReading m0 m1 m2) s)

/-! ## DENSITY RESET and SET DENSITY -/

/-- R103, step 4: a PATCH with its read flag clear becomes pre-reset. -/
def Segment.toPreReset (g : Segment) : Segment :=
  if g.kind = .patch ∧ g.read = false then { g with preReset := true } else g

/-- DENSITY RESET (R103). -/
def serveDensityReset (s : State) : State × Reply :=
  (({ s with
      density := { s.density with offsets := { c0 := 0, c1 := 0, c2 := 0 }, implausible := 0, fault := false }
      web := { s.web with map := s.web.map.map Segment.toPreReset }
      scheduler := { s.scheduler with resetPatch := true } }).voidSelection,
   .taken false [])

/-- Row DENSITY_RESET. -/
def execDensityReset (link : Link) (s : State) : Host.Outcome State Fault Refusal :=
  .next (takeRequest link .densityReset [] serveDensityReset s)

/-- SET DENSITY (R71, R91, R108): every field clamped into its range and stored. -/
def serveSetDensity (k t0 t1 t2 : Word16) (a : Byte) (q : Word16) (tolerance : Byte) (g0 g1 g2 : Word16) (s : State) :
    State × Reply :=
  let k' := min 255 k.toNat
  let t : PerChannel Nat := { c0 := min 1023 t0.toNat, c1 := min 1023 t1.toNat, c2 := min 1023 t2.toNat }
  let a' := min 15 a.toNat
  let q' := clampNat 1 255 q.toNat
  let r := min 15 tolerance.toNat
  let g : PerChannel Nat :=
    { c0 := clampNat 256 767 g0.toNat, c1 := clampNat 256 767 g1.toNat, c2 := clampNat 256 767 g2.toNat }
  ({ s with
      density := { s.density with k := k', targets := t, a := a', q := q' }
      channel := { s.channel with repeatTolerance := r }
      resampler := { s.resampler with gains := g } },
   .taken
     (k' != k.toNat || t.c0 != t0.toNat || t.c1 != t1.toNat || t.c2 != t2.toNat || a' != a.toNat || q' != q.toNat
       || r != tolerance.toNat || g.c0 != g0.toNat || g.c1 != g1.toNat || g.c2 != g2.toNat)
     (n16 k' ++ n16 t.c0 ++ n16 t.c1 ++ n16 t.c2 ++ n8 a' ++ n16 q' ++ n8 r ++ n16 g.c0 ++ n16 g.c1 ++ n16 g.c2))

/-- Row SET_DENSITY. -/
def execSetDensity (link : Link) (k t0 t1 t2 : Word16) (a : Byte) (q : Word16) (tolerance : Byte) (g0 g1 g2 : Word16)
    (s : State) : Host.Outcome State Fault Refusal :=
  .next (takeRequest link .setDensity
    (be16 k ++ be16 t0 ++ be16 t1 ++ be16 t2 ++ [a] ++ be16 q ++ [tolerance] ++ be16 g0 ++ be16 g1 ++ be16 g2)
    (serveSetDensity k t0 t1 t2 a q tolerance g0 g1 g2) s)

end Sys2Proof.Machine
end

