-- ==== Sys2Proof/Machine/Resampling.lean ====
section
/-! DEFINITION. The Resampler (chapter 3): geometry, interpolation, exposure codes, the row pair and the production of
lines, with the line queue's acceptance of them (R85). -/

namespace Sys2Proof.Machine

/-! ## Geometry (R57 to R60) -/

/-- Division rounding up, of natural numbers. -/
def ceilDiv (a b : Nat) : Nat := (a + b - 1) / b

/-- R57: the step of a source of w by h pixels on a print of wp by lp. -/
def stepFor (mode : Mode) (w h wp lp : Nat) : Nat :=
  match mode with
  | .fill => min (w * 65536 / wp) (h * 65536 / lp)
  | .fit => max (ceilDiv (w * 65536) wp) (ceilDiv (h * 65536) lp)

/-- R58: the fetch level chosen from step0. -/
def fetchLevel (step0 : Nat) : Nat :=
  if step0 < 131072 then 0 else if step0 < 262144 then 1 else if step0 < 524288 then 2 else 3

/-- R58: a dimension at a level; one that comes to 0 is taken as 1. -/
def dimensionAt (n d : Nat) : Nat := max 1 (d / 2 ^ n)

/-- R60: an offset, truncated toward zero. -/
def offsetOf (dim step extent : Nat) : Int := ((dim * 65536 : Int) - step * extent).tdiv 2

/-- R57 to R60: the geometry of a print. -/
def geometryOf (mode : Mode) (ws hs wp lp : Nat) : Geometry :=
  let n := fetchLevel (stepFor mode ws hs wp lp)
  let wsN := dimensionAt n ws
  let hsN := dimensionAt n hs
  let step := clampNat 4096 1048576 (stepFor mode wsN hsN wp lp)
  { level := n, wsN := wsN, hsN := hsN, step := step, ox := offsetOf wsN step wp, oy := offsetOf hsN step lp }

/-- R72: the patch width of a roll. -/
def patchWidth (rollWidth : Nat) : Nat := rollWidth * 25 / 2

/-! ## Positions and interpolation (R61 to R65) -/

/-- R61: the source position of output column j. -/
def Geometry.x (g : Geometry) (j : Nat) : Int := g.ox + j * g.step

/-- R61: the source position of output row k. -/
def Geometry.y (g : Geometry) (k : Nat) : Int := g.oy + k * g.step

/-- R61: whether a position is inside a dimension of so many source pixels. -/
def insideDim (dim : Nat) (p : Int) : Bool := decide (0 ≤ p ∧ p < dim * 65536)

/-- R63: an outside position held to the image's edge. -/
def heldPosition (dim : Nat) (p : Int) : Nat := (clampInt 0 (dim * 65536 - 1) p).toNat

/-- The component of a pixel a channel exposes. -/
def pixelComponent (p : Pixel) : Fin 3 → Nat
  | 0 => p.c0.toNat
  | 1 => p.c1.toNat
  | 2 => p.c2.toNat

/-- One component of a source pixel of a row. -/
def Row.component (r : Row) (c : Fin 3) (i : Nat) : Nat :=
  match r.pixels[i]? with
  | some p => pixelComponent p c
  | none => 0

/-- R64, R65: the blend of two neighbours by a fraction of 0 to 255, rounded. -/
def blend (a b f : Nat) : Nat := (a * (256 - f) + b * f + 128) / 256

/-- The fraction of a position, truncated to eight bits. -/
def fractionOf (p : Nat) : Nat := p % 65536 / 256

/-- R64, R65: the neighbour after an index, the last one again at the end. -/
def nextWithin (dim i : Nat) : Nat := if i + 1 = dim then i else i + 1

/-- R64: the column blend of a row at a position. -/
def Row.columnBlend (r : Row) (c : Fin 3) (wsN x : Nat) : Nat :=
  blend (r.component c (x / 65536)) (r.component c (nextWithin wsN (x / 65536))) (fractionOf x)

/-- R65: the pixel value from the two rows at a position. -/
def pixelValue (lo hi : Row) (c : Fin 3) (wsN x y : Nat) : Nat :=
  blend (lo.columnBlend c wsN x) (hi.columnBlend c wsN x) (fractionOf y)

/-! ## Exposure codes (R69 to R72) -/

/-- R69: the linear code. -/
def linearCode (v gain : Nat) : Nat := ((255 - v) * gain + 64) / 128

/-- A code held within 0 to 1023. -/
def toCode (e : Int) : Code := BitVec.ofNat 10 (clampInt 0 1023 e).toNat

/-- R70: the exposure code of a pixel value. -/
def exposureCode (v gain : Nat) (offset : Int) : Code := toCode (linearCode v gain + offset)

/-- R72: the code of a patch position. -/
def patchCode (target : Nat) (offset : Int) : Code := toCode (target + offset)

/-- R62 to R65: the code of output column j of a row with held rows and position y. -/
def imageCode (p : PrintJob) (lo hi : Row) (y : Nat) (c : Fin 3) (gain : Nat) (offset : Int) (j : Nat) : Code :=
  let x := p.geometry.x j
  if p.mode = .fit ∧ insideDim p.geometry.wsN x = false then 0
  else exposureCode (pixelValue lo hi c p.geometry.wsN (heldPosition p.geometry.wsN x) y) gain offset

/-! ## The rows a line needs (R66) -/

/-- R62: whether output row k is a border row. -/
def PrintJob.borderRow (p : PrintJob) (k : Nat) : Bool :=
  p.mode == .fit && !insideDim p.geometry.hsN (p.geometry.y k)

/-- R66: the rows r and r+1 that an image line needs. -/
def PrintJob.rowsOf (p : PrintJob) (k : Nat) : Nat × Nat :=
  let r := heldPosition p.geometry.hsN (p.geometry.y k) / 65536
  (r, nextWithin p.geometry.hsN r)

/-- R66: the next image line, the first from a line on that is not a border row. -/
def PrintJob.nextImageLine (p : PrintJob) (k : Nat) : Option Nat :=
  (List.range' k (p.lp - k)).find? fun i => !p.borderRow i

/-- R66: the rows the next image line of the work needs. -/
def Resampler.needs (r : Resampler) : Option (Nat × Nat) :=
  match r.work with
  | some w =>
    match w.job with
    | .print p => (p.nextImageLine w.nextLine).map p.rowsOf
    | .patch _ => none
  | none => none

/-- Whether a row slot holds a row. -/
def holds (slot : Option Row) (k : Nat) : Bool :=
  match slot with
  | some r => r.index == k
  | none => false

/-- R66, steps 1 and 3: held rows that are not needed are dropped; a row needed twice stands in both slots. -/
def Resampler.keepRows (r : Resampler) : Resampler :=
  match r.needs with
  | none => { r with rowA := none, rowB := none }
  | some (lo, hi) =>
    let a := r.rowA.filter fun w => w.index == lo || w.index == hi
    let b := r.rowB.filter fun w => w.index == lo || w.index == hi
    if lo = hi then { r with rowA := a.or b, rowB := b.or a } else { r with rowA := a, rowB := b }

/-- R66, step 2: the needed row to request next, the lower index first. -/
def Resampler.missing (r : Resampler) : Option Nat :=
  match r.needs with
  | none => none
  | some (lo, hi) =>
    if !(holds r.rowA lo || holds r.rowB lo) then some lo
    else if !(holds r.rowA hi || holds r.rowB hi) then some hi
    else none

/-- R76, steps 1 and 4: a row requested by the Resampler; its fetch is in flight with the next tag and waits to be sent
(R205; log entry 6). Nothing is requested while a fetch is in flight. -/
def RasterFetch.request (f : RasterFetch) (r : Resampler) : RasterFetch :=
  match f.inFlight, r.work, r.missing with
  | none, some w, some row =>
    match w.job with
    | .print p =>
      { f with
        inFlight := some { tag := f.nextTag, handle := p.handle, level := p.geometry.level, row := row
                           expected := p.geometry.wsN }
        timer := none
        nextTag := f.nextTag + 1 }
    | .patch _ => f
  | _, _, _ => f

/-- R66: the row pair kept for the next image line, and the next missing row requested. -/
def State.planRows (s : State) : State :=
  { s with resampler := s.resampler.keepRows, fetch := s.fetch.request s.resampler.keepRows }

/-- R56: the Resampler takes work for the standing selection. -/
def State.takeWork (s : State) (job : Job) : State :=
  State.planRows
    { s with resampler :=
        { s.resampler with work := some { owner := .selection, job := job, nextLine := 0 }, rowA := none, rowB := none } }

/-! ## Production (R67, R70, R72, R85) -/

/-- R56: the lines a work produces. -/
def Job.lineCount : Job → Nat
  | .print p => p.lp
  | .patch _ => 100

/-- A held row by its index. -/
def Resampler.row? (r : Resampler) (k : Nat) : Option Row :=
  if holds r.rowA k then r.rowA else if holds r.rowB k then r.rowB else none

/-- R67: the codes of the next line, if the rows it needs are held. -/
def State.nextCodes (s : State) (w : Work) : Option Codes :=
  let chans : PerChannel (Fin 3) := { c0 := 0, c1 := 1, c2 := 2 }
  match w.job with
  | .patch width =>
    some (chans.map fun c =>
      List.replicate width (patchCode (s.density.targets.get c) (s.density.offsets.get c)))
  | .print p =>
    if p.borderRow w.nextLine then some (chans.map fun _ => List.replicate p.wp 0)
    else
      match s.resampler.row? (p.rowsOf w.nextLine).1, s.resampler.row? (p.rowsOf w.nextLine).2 with
      | some lo, some hi =>
        some (chans.map fun c =>
          (List.range p.wp).map
            (imageCode p lo hi (heldPosition p.geometry.hsN (p.geometry.y w.nextLine)) c (s.resampler.gains.get c)
              (s.density.offsets.get c)))
      | _, _ => none

/-- The kind of a job's lines. -/
def Job.kind : Job → ExposureKind
  | .print _ => .print
  | .patch _ => .patch

/-- R85: Channel Output acts on a produced line by its owner. -/
def ChannelOutput.accept (c : ChannelOutput) (w : Work) (codes : Codes) : ChannelOutput :=
  match w.owner with
  | .selection =>
    { c with queue := c.queue ++ [{ owner := .selection, number := w.nextLine, kind := w.job.kind, codes := codes }] }
  | .exposed =>
    match c.exposure with
    | some e =>
      if e.linesExposed ≤ w.nextLine then
        { c with queue := c.queue ++ [{ owner := .exposed, number := w.nextLine, kind := w.job.kind, codes := codes }] }
      else c
    | none => c
  | .trailing _ => c

/-- R56, R67: next line increases by one; after the last line the work ends and a new attempt may follow (R35), otherwise
the rows of the next image line are seen to. -/
def State.advanceWork (s : State) (w : Work) : State :=
  if w.job.lineCount ≤ w.nextLine + 1 then
    { s with resampler := s.resampler.idle, scheduler := { s.scheduler with attemptCause := true } }
  else
    State.planRows { s with resampler := { s.resampler with work := some { w with nextLine := w.nextLine + 1 } } }

/-- R67: the line the Resampler can produce now, with its work; none while production pauses. -/
def State.producible (s : State) : Option (Work × Codes) :=
  match s.resampler.work with
  | some w => if s.channel.queue.length < 8 then (s.nextCodes w).map fun codes => (w, codes) else none
  | none => none

/-- Row LINE_PRODUCED (R67): where production pauses, no line is produced (log entry 1). -/
def execLineProduced (s : State) : Host.Outcome State Fault Refusal :=
  .next (match s.producible with
    | some (w, codes) => s.noteCauses (State.advanceWork { s with channel := s.channel.accept w codes } w)
    | none => s)

end Sys2Proof.Machine
end

