-- ==== Sys2Proof/Machine/Scheduling.lean ====
section
/-! DEFINITION. The Exposure Scheduler (chapter 2): the selection attempt, the magazines and the magazine switch. -/

namespace Sys2Proof.Machine

/-! ## The next print and the fit test (R37, R38) -/

/-- R37: the first item number, from a number on, of an item with waiting above 0 and faulted clear. -/
def firstPrintable (T : OrderTable) : Nat → List Nat → Option (Nat × Item)
  | _, [] => none
  | n, r :: rest =>
    match Table.get? T.items r with
    | some i => if i.waiting > 0 ∧ i.faulted = false then some (n, i) else firstPrintable T (n + 1) rest
    | none => firstPrintable T (n + 1) rest

/-- R37: the next print of an order: its item number, its item and the size entry of its item. -/
def OrderTable.nextPrint? (T : OrderTable) (slot : Nat) : Option (Nat × Item × SizeEntry) :=
  match firstPrintable T 0 (T.refsOf slot) with
  | some (n, i) => (T.sizeOf? i).map fun e => (n, i, e)
  | none => none

/-- R38: a print fits a magazine. -/
def MagazineRecord.fits (m : MagazineRecord) (endReserve : Nat) (i : Item) (e : SizeEntry) : Bool :=
  m.present && m.width == e.paperWidth && m.surface == i.surface && decide (e.lp + endReserve ≤ m.remaining)

/-- R36, R42: a patch fits a magazine. -/
def MagazineRecord.fitsPatch (m : MagazineRecord) (endReserve : Nat) : Bool := decide (100 + endReserve ≤ m.remaining)

/-! ## The attempt (R33 to R41) -/

/-- R33: the copy number of a selected print. -/
def Item.nextCopy (i : Item) : Nat := i.ordered - i.waiting + 1

/-- R41: the work handed to the Resampler for a print. -/
def printJob (slot n : Nat) (i : Item) (e : SizeEntry) : PrintJob :=
  { slot := slot, item := n, copy := i.nextCopy, handle := i.handle, ws := i.ws, hs := i.hs, mode := i.mode
    wp := e.wp, lp := e.lp, geometry := geometryOf i.mode i.ws i.hs e.wp e.lp }

/-- R40: the paper-wait mark of an order set or cleared. -/
def State.markPaper (s : State) (slot : Nat) (need : Option PaperNeed) : State :=
  s.modifyOrder slot fun o => { o with paperWait := need }

/-- R39, step 1; R41: a print becomes the standing selection and its work is handed over. -/
def State.selectPrint (s : State) (slot n : Nat) (i : Item) (e : SizeEntry) : State :=
  let t := s.markPaper slot none
  State.takeWork { t with scheduler := { t.scheduler with selection := some (.print slot n i.nextCopy) } }
    (.print (printJob slot n i e))

/-- R36, R41: a patch becomes the standing selection and its work is handed over. -/
def State.selectPatch (s : State) (rollWidth : Nat) : State :=
  State.takeWork { s with scheduler := { s.scheduler with selection := some .patch } } (.patch (patchWidth rollWidth))

/-- R39, step 1: the first order of a list whose next print fits a magazine. -/
def State.firstFitting (s : State) (m : MagazineRecord) : List Nat → Option (Nat × Nat × Item × SizeEntry)
  | [] => none
  | slot :: rest =>
    match s.orderTable.nextPrint? slot with
    | some (n, i, e) =>
      if m.fits s.scheduler.endReserve i e then some (slot, n, i, e) else s.firstFitting m rest
    | none => s.firstFitting m rest

/-- R39, step 2: the leading order of a list, the first with a next print. -/
def State.leading (s : State) : List Nat → Option (Nat × Nat × Item × SizeEntry)
  | [] => none
  | slot :: rest =>
    match s.orderTable.nextPrint? slot with
    | some (n, i, e) => some (slot, n, i, e)
    | none => s.leading rest

/-- R39: the scan of the classes, with the active magazine given. -/
def State.scanClasses (s : State) (active : Magazine) : List OrderClass → State
  | [] => s
  | c :: rest =>
    match s.firstFitting (s.scheduler.magazine active) (s.scheduler.classList c) with
    | some (slot, n, i, e) => s.selectPrint slot n i e
    | none =>
      match s.leading (s.scheduler.classList c) with
      | none => s.scanClasses active rest
      | some (slot, _, i, e) =>
        if (s.scheduler.magazine active.other).fits s.scheduler.endReserve i e then
          let t := s.markPaper slot none
          { t with scheduler := { t.scheduler with switchRequested := some active.other } }
        else
          (s.markPaper slot (some { width := e.paperWidth, surface := i.surface })).scanClasses active rest

/-- R33, R35: an attempt is made now. -/
def State.attemptDue (s : State) : Bool :=
  s.scheduler.selection.isNone && s.resampler.work.isNone && s.startConditions && s.scheduler.attemptCause

/-- R36, R39: what an attempt does, with the active magazine given. -/
def State.attempt (s : State) (active : Magazine) : State :=
  let t := { s with scheduler := { s.scheduler with attemptCause := false } }
  let m := t.scheduler.magazine active
  if t.patchDue && m.fitsPatch t.scheduler.endReserve then t.selectPatch m.width
  else t.scanClasses active [.express, .standard, .bulk]

/-- Row SELECTION_ATTEMPT (R33 to R41): where the conditions of R33 and R35 do not hold, no attempt is made (log entry
1). -/
def execSelectionAttempt (s : State) : Host.Outcome State Fault Refusal :=
  .next (match s.scheduler.active with
    | some active => if s.attemptDue then s.noteCauses (s.attempt active) else s
    | none => s)

/-! ## Magazine requests (R46 to R51) -/

/-- R204: a magazine record. -/
def magazineRecord (m : MagazineRecord) : List Byte :=
  n8 (magazineFlags m) ++ n16 m.width ++ [m.surface.toByte] ++ n32 m.remaining

/-- R47: the record a LOAD ROLL leaves. -/
def MagazineRecord.loaded (width : Word16) (surface : Surface) (length : Word32) (endReserve : Nat) : MagazineRecord :=
  MagazineRecord.withLow
    { present := true, width := width.toNat, surface := surface, remaining := min 2500000 length.toNat, low := false }
    endReserve

/-- LOAD ROLL (R47); it calls for a new attempt (R35). -/
def serveLoadRoll (magazine : Byte) (width : Word16) (surface : Byte) (length : Word32) (s : State) : State × Reply :=
  match Magazine.ofByte? magazine, Surface.ofByte? surface with
  | some m, some u =>
    if width.toNat < 89 ∨ width.toNat > 305 then refuse s .malformed
    else if s.scheduler.active = some m ∧ s.exposing = true then refuse s .wrongState
    else
      let r := MagazineRecord.loaded width u length s.scheduler.endReserve
      let t := { s with scheduler := { s.scheduler.setMagazine m r with
        attemptCause := true
        switchPatch := s.scheduler.switchPatch || s.scheduler.active == some m } }
      (if s.scheduler.active = some m then t.voidSelection else t,
       .taken (decide (length.toNat > 2500000)) (magazineRecord r))
  | _, _ => refuse s .malformed

/-- Row LOAD_ROLL. -/
def execLoadRoll (link : Link) (magazine : Byte) (width : Word16) (surface : Byte) (length : Word32) (s : State) :
    Host.Outcome State Fault Refusal :=
  .next (takeRequest link .loadRoll ([magazine] ++ be16 width ++ [surface] ++ be32 length)
    (serveLoadRoll magazine width surface length) s)

/-- UNLOAD ROLL (R48, R50). -/
def serveUnloadRoll (magazine : Byte) (s : State) : State × Reply :=
  match Magazine.ofByte? magazine with
  | some m =>
    if s.scheduler.active = some m ∧ s.exposing = true then refuse s .wrongState
    else
      let r := { s.scheduler.magazine m with present := false, low := false }
      let t := { s with scheduler := { s.scheduler.setMagazine m r with
        switchRequested := s.scheduler.switchRequested.filter fun x => x != m } }
      (if s.scheduler.active = some m then t.voidSelection else t, .taken false (magazineRecord r))
  | none => refuse s .malformed

/-- Row UNLOAD_ROLL. -/
def execUnloadRoll (link : Link) (magazine : Byte) (s : State) : Host.Outcome State Fault Refusal :=
  .next (takeRequest link .unloadRoll [magazine] (serveUnloadRoll magazine) s)

/-- MAGAZINE SWITCHED (R51, R52); it calls for a new attempt (R35). -/
def serveMagazineSwitched (magazine : Byte) (s : State) : State × Reply :=
  match Magazine.ofByte? magazine with
  | some m =>
    if s.exposing || s.web.leaderExposed then refuse s .wrongState
    else
      (({ s with scheduler := { s.scheduler with
          active := some m
          switchRequested := s.scheduler.switchRequested.filter fun x => x != m
          switchPatch := true
          leaderPending := s.scheduler.leaderLength != 0
          attemptCause := true } }).voidSelection,
       .taken false [])
  | none => refuse s .malformed

/-- Row MAGAZINE_SWITCHED. -/
def execMagazineSwitched (link : Link) (magazine : Byte) (s : State) : Host.Outcome State Fault Refusal :=
  .next (takeRequest link .magazineSwitched [magazine] (serveMagazineSwitched magazine) s)

/-- The leader state of READ MAGAZINE (R206): 0 none, 1 pending, 2 being exposed. -/
def State.leaderState (s : State) : Byte :=
  if s.web.leaderExposed then 2 else if s.scheduler.leaderPending then 1 else 0

/-- READ MAGAZINE (R46, R204). -/
def serveReadMagazine (s : State) : State × Reply :=
  (s, .taken false
    (magazineRecord s.scheduler.magA ++ magazineRecord s.scheduler.magB
      ++ [magazineByte s.scheduler.active, magazineByte s.scheduler.switchRequested, s.leaderState]
      ++ n8 s.scheduler.patchCounter ++ flagByte s.patchDue))

/-- Row READ_MAGAZINE. -/
def execReadMagazine (link : Link) (s : State) : Host.Outcome State Fault Refusal :=
  .next (takeRequest link .readMagazine [] serveReadMagazine s)

end Sys2Proof.Machine
end

