-- ==== Sys2Proof/Machine/Strobe.lean ====
section
/-! DEFINITION. The line strobe (R42, R49, R52, R86 to R93, R113 to R117, R128): what begins, what the heads receive, where
the paper goes. -/

namespace Sys2Proof.Machine

/-! ## What may begin (R42, R52, R86) -/

/-- R52: a pending leader may open at this strobe. -/
def State.leaderMayOpen (s : State) : Bool :=
  s.scheduler.leaderPending && decide (s.web.map.length < 128) && s.web.fault.isNone

/-- R52: a pending leader that could open is discarded if the leader length in force is 0 (log entry 9). -/
def State.dropZeroLeader (s : State) : State :=
  { s with scheduler := { s.scheduler with
      leaderPending := s.scheduler.leaderPending && !(s.leaderMayOpen && s.scheduler.leaderLength == 0) } }

/-- R86: the lines of the standing selection stand as its beginning asks: line 0 at the head of the queue for a back-to-back
strobe, otherwise 4 lines queued, or all of a print of fewer. -/
def ChannelOutput.linesReady (c : ChannelOutput) (lineCount : Nat) : Bool :=
  if c.lastStrobeEnded then
    match c.queue with
    | l :: _ => l.owner == .selection && l.number == 0
    | [] => false
  else decide (min 4 lineCount ≤ (c.queue.filter fun l => l.owner == .selection).length)

/-- R42, R86: Channel Output would start a selection of so many lines at this strobe, its fit apart. -/
def State.mayStart (s : State) (lineCount : Nat) : Bool :=
  s.startConditions && !s.scheduler.leaderPending && !s.web.leaderExposed && !s.exposing
    && s.channel.linesReady lineCount

/-- R42: what a strobe does with the standing selection. -/
inductive StartVerdict where
  | waits
  | misfit
  | begins
  deriving DecidableEq, Repr

/-- R42: the fit is tested at the strobe at which the selection would otherwise begin (log entry 8). -/
def State.startVerdict (s : State) : StartVerdict :=
  match s.scheduler.selection, s.scheduler.activeRecord? with
  | some .patch, some m =>
    if s.mayStart 100 then (if m.fitsPatch s.scheduler.endReserve then .begins else .misfit) else .waits
  | some (.print slot n _), some m =>
    match s.orderTable.item? slot n with
    | some i =>
      match s.orderTable.sizeOf? i with
      | some e => if s.mayStart e.lp then (if m.fits s.scheduler.endReserve i e then .begins else .misfit) else .waits
      | none => .waits
    | none => .waits
  | _, _ => .waits

/-! ## Opening and growing segments (R113 to R117) -/

/-- R115: a segment opened at a position. -/
def Segment.opened (kind : SegmentKind) (position : Word32) : Segment :=
  { kind := kind, start := position, length := 1, closed := false, suspect := false, split := false, merged := false
    spoiled := false, read := false, preReset := false }

/-- R114: an open BLANK closes at its present length when another segment opens. -/
def Segment.closeBlank (g : Segment) : Segment := if g.kind = .blank then { g with closed := true } else g

/-- R115: a segment opened at the odometer, with a mark. -/
def Web.openSegment (w : Web) (kind : SegmentKind) : Web :=
  { w with map := mapLast Segment.closeBlank w.map ++ [Segment.opened kind w.odometer], mark := true }

/-- R113, R116: a segment one strobe longer; a BLANK closes at 2,147,483,647. -/
def Segment.grow (g : Segment) : Segment :=
  { g with length := g.length + 1
           closed := g.closed || (g.kind == .blank && decide (2147483647 ≤ g.length + 1)) }

/-- R117: one more strobe for the unlisted stretch, marked at its first. -/
def Web.growStretch (w : Web) : Web :=
  match w.unlisted with
  | some u => { w with unlisted := some { u with length := u.length + 1 } }
  | none => { w with unlisted := some { start := w.odometer, length := 1 }, mark := true }

/-- R114, cases 3 to 5: paper of a strobe that begins nothing. -/
def Web.placePaper (w : Web) : Web :=
  match w.map.getLast? with
  | some g =>
    if g.closed then (if w.map.length < 128 then w.openSegment .blank else w.growStretch)
    else { w with map := mapLast Segment.grow w.map }
  | none => w.openSegment .blank

/-- R114, case 2; R52: a LEADER opened with the leader length in force. -/
def State.openLeader (s : State) : State :=
  { s with
    web := { s.web.openSegment .leader with leaderTarget := s.scheduler.leaderLength }
    scheduler := { s.scheduler with leaderPending := false } }

/-- R12: the order of a copy that begins exposure. -/
def Order.begun (o : Order) : Order :=
  { o with started := true, state := if o.state = .ready then .inPrint else o.state }

/-- R86: the lines of the selection become those of what is exposed, and the exposure record is made present.
R86 gives its previous codes no value: DESIGN CHOICE, code 0 on every position until line 0, exposed at the same strobe,
replaces them (log entry 10). -/
def ChannelOutput.begin (c : ChannelOutput) (kind : ExposureKind) (lineCount : Nat) : ChannelOutput :=
  { c with
    queue := c.queue.map fun l => { l with owner := .exposed }
    exposure := some { kind := kind, lineCount := lineCount, linesExposed := 0, blanked := false, repeatCount := 0
                       previous := Codes.blank } }

/-- The work of the standing selection becomes that of what is exposed (section 3.1). -/
def Resampler.begin (r : Resampler) : Resampler :=
  { r with work := r.work.map fun w => if w.owner = .selection then { w with owner := .exposed } else w }

/-- R42, R86, R114 case 1, R115, R12, R45: the standing selection begins at a strobe. -/
def State.beginSelection (s : State) : State :=
  match s.scheduler.selection with
  | some .patch =>
    { s with
      scheduler := { s.scheduler with selection := none, patchCounter := 0, switchPatch := false, resetPatch := false }
      channel := s.channel.begin .patch 100
      resampler := s.resampler.begin
      web := s.web.openSegment .patch }
  | some (.print slot n copy) =>
    { s with
      orderTable := (s.orderTable.modifyItem slot n Item.expose).modifyOrder slot Order.begun
      scheduler := { s.scheduler with selection := none, patchCounter := satAdd 255 s.scheduler.patchCounter 1 }
      channel := s.channel.begin .print
        (match (s.orderTable.item? slot n).bind s.orderTable.sizeOf? with | some e => e.lp | none => 0)
      resampler := s.resampler.begin
      web := s.web.openSegment (.print slot n copy) }
  | none => s

/-- R114: the paper of a strobe placed, by the first case that applies. -/
def State.placeStrobe (s : State) (verdict : StartVerdict) : State :=
  if verdict = .begins then s.beginSelection
  else if s.leaderMayOpen then s.openLeader
  else { s with web := s.web.placePaper }

/-! ## The heads (R87 to R90, R93) -/

/-- R89: a disabled channel's head receives code 0 on every position. -/
def gate (enabled : PerChannel Bool) (codes : Codes) : Codes :=
  enabled.zip (fun on cs => if on then cs else []) codes

/-- What a strobe of the print or patch being exposed does: Channel Output after it, whether its segment becomes suspect,
and whether it carried the last line. -/
structure LineOutcome where
  channel : ChannelOutput
  suspect : Bool
  ended : Bool
  deriving DecidableEq, Repr

/-- R87: the exposure record after a strobe, absent after the last line. -/
def Exposure.advance (e : Exposure) : Option Exposure :=
  if e.lineCount ≤ e.linesExposed + 1 then none else some { e with linesExposed := e.linesExposed + 1 }

/-- R87: the line due is underrun and the previous codes are repeated. -/
def ChannelOutput.repeatLine (c : ChannelOutput) (e : Exposure) : LineOutcome :=
  let n := satAdd 65535 e.repeatCount 1
  { channel := { c with
      heads := gate c.enabled e.previous
      exposure := Exposure.advance { e with repeatCount := n } }
    suspect := decide (c.repeatTolerance < n)
    ended := decide (e.lineCount ≤ e.linesExposed + 1) }

/-- R87, R88: the line a strobe exposes. The line's codes become the previous codes, a disabled channel's too,
and a blanked strobe leaves the previous codes as they were, although its heads receive code 0 (R84's words would have both
0: DEDUCED, log entry 10). -/
def ChannelOutput.exposeLine (c : ChannelOutput) (e : Exposure) : LineOutcome :=
  if e.blanked then
    { channel := { c with heads := Codes.blank, exposure := e.advance }, suspect := false
      ended := decide (e.lineCount ≤ e.linesExposed + 1) }
  else
    match c.queue with
    | l :: rest =>
      if l.owner = .exposed ∧ l.number = e.linesExposed then
        { channel := { c with
            queue := rest
            heads := gate c.enabled l.codes
            exposure := Exposure.advance { e with previous := l.codes } }
          suspect := false
          ended := decide (e.lineCount ≤ e.linesExposed + 1) }
      else c.repeatLine e
    | [] => c.repeatLine e

/-- R87: the segment of the exposed print or patch after a strobe. -/
def Segment.afterLine (suspect ended : Bool) (g : Segment) : Segment :=
  { g with suspect := g.suspect || suspect, closed := g.closed || ended }

/-- R84: a work left with lines to produce when its print closes is a trailing work. -/
def Resampler.trail (r : Resampler) (start : Word32) : Resampler :=
  { r with work := r.work.map fun w => if w.owner = .exposed then { w with owner := .trailing start } else w }

/-- The start odometer of the tail of the map. -/
def Web.tailStart (w : Web) : Word32 :=
  match w.map.getLast? with
  | some g => g.start
  | none => w.odometer

/-- R116: a LEADER closes when its length reaches the leader length it opened with. -/
def Segment.closeLeader (target : Nat) (g : Segment) : Segment :=
  { g with closed := g.closed || (g.kind == .leader && decide (target ≤ g.length)) }

/-- Whether the open LEADER at the tail has reached its length. -/
def Web.leaderEnds (w : Web) : Bool :=
  match w.map.getLast? with
  | some g => g.isOpenLeader && decide (w.leaderTarget ≤ g.length)
  | none => false

/-- R87, R88, R93, R116: the line of a strobe at the heads, with the closing it brings about. -/
def State.exposeStrobe (s : State) : State :=
  match s.channel.exposure with
  | some e =>
    let r := s.channel.exposeLine e
    { s with
      channel := { r.channel with lastStrobeEnded := r.ended }
      web := { s.web with map := mapLast (Segment.afterLine r.suspect r.ended) s.web.map }
      resampler := if r.ended then s.resampler.trail s.web.tailStart else s.resampler }
  | none =>
    { s with
      channel := { s.channel with heads := Codes.blank, lastStrobeEnded := s.web.leaderEnds }
      web := { s.web with map := mapLast (Segment.closeLeader s.web.leaderTarget) s.web.map } }

/-! ## The roll and the stall monitor (R49, R128) -/

/-- R49: one web unit taken from the active magazine's roll. -/
def Scheduler.countPaper (sch : Scheduler) : Scheduler :=
  match sch.active with
  | some m =>
    let r := sch.magazine m
    if r.present then
      sch.setMagazine m (MagazineRecord.withLow { r with remaining := r.remaining - 1 } sch.endReserve)
    else sch
  | none => sch

/-- R128: the stall monitor started in FIRST, one stall time ahead. -/
def Web.startStall (w : Web) (now : Word32) : Web := { w with stage := .first (later now w.stallTime), stall := false }

/-- R128: a strobe returns a monitor that is not OFF to FIRST; the first segment in the empty map starts it while the
transport is RUN. -/
def Web.restartStall (w : Web) (now : Word32) (wasEmpty : Bool) : Web :=
  if w.stage ≠ .off then w.startStall now
  else if wasEmpty && !w.map.isEmpty && w.transport == .run then w.startStall now
  else w

/-! ## The strobe -/

/-- R113, R114: one strobe of the line strobe input. -/
def State.strobe (s : State) : State :=
  let s1 := s.dropZeroLeader
  let verdict := s1.startVerdict
  let s2 := if verdict = .misfit then s1.voidSelection else s1
  let s3 := { s2 with web := { s2.web with odometer := s2.web.odometer + 1, mark := false } }
  let s4 := (s3.placeStrobe verdict).exposeStrobe
  let s5 := { s4 with
    scheduler := s4.scheduler.countPaper
    web := s4.web.restartStall s4.timeBase s.web.map.isEmpty }
  s5.detectMissedCuts

/-- Row LINE_STROBE. -/
def execLineStrobe (s : State) : Host.Outcome State Fault Refusal :=
  .next (s.noteCauses s.strobe)

end Sys2Proof.Machine
end

