-- ==== Sys2Proof/Machine/WebTracking.lean ====
section
/-! DEFINITION. Transport, path length, the channels' enables, the stall monitor's expiries, and READ WEB (chapters 4 and
6). -/

namespace Sys2Proof.Machine

/-! ## SET WEB (R53, R119) -/

/-- SET WEB; the new end reserve is applied at once to both low flags (R49). -/
def serveSetWeb (lpath : Word32) (leaderLength endReserve stallTime : Word16) (s : State) : State × Reply :=
  let p := clampNat 1000 250000 lpath.toNat
  let d := min 5000 leaderLength.toNat
  let t := clampNat 100 10000 stallTime.toNat
  ({ s with
      web := { s.web with lpath := p, stallTime := t }
      scheduler := { s.scheduler with
        leaderLength := d
        endReserve := endReserve.toNat
        magA := s.scheduler.magA.withLow endReserve.toNat
        magB := s.scheduler.magB.withLow endReserve.toNat } },
   .taken (p != lpath.toNat || d != leaderLength.toNat || t != stallTime.toNat)
     (n32 p ++ n16 d ++ n16 endReserve.toNat ++ n16 t))

/-- Row SET_WEB. -/
def execSetWeb (link : Link) (lpath : Word32) (leaderLength endReserve stallTime : Word16) (s : State) :
    Host.Outcome State Fault Refusal :=
  .next (takeRequest link .setWeb (be32 lpath ++ be16 leaderLength ++ be16 endReserve ++ be16 stallTime)
    (serveSetWeb lpath leaderLength endReserve stallTime) s)

/-! ## TRANSPORT (R120) -/

/-- R120: TRANSPORT RUN. -/
def State.transportRun (s : State) : State :=
  { s with web := { (if s.web.stage = .off ∧ s.web.map ≠ [] then s.web.startStall s.timeBase else s.web) with
      transport := .run } }

/-- R120: TRANSPORT STOP. -/
def State.transportStop (s : State) : State :=
  let t := s.markExposedSuspect
  { t with web := { t.web with transport := .stop, stage := .off, stall := false } }

/-- TRANSPORT (R120). -/
def serveTransport (state : Byte) (s : State) : State × Reply :=
  match Transport.ofByte? state with
  | some .run => (s.transportRun, .taken false [])
  | some .stop => (s.transportStop, .taken false [])
  | none => refuse s .malformed

/-- Row TRANSPORT. -/
def execTransport (link : Link) (state : Byte) (s : State) : Host.Outcome State Fault Refusal :=
  .next (takeRequest link .transport [state] (serveTransport state) s)

/-! ## HEAD FAULT and HEAD READY (R89, R90) -/

/-- HEAD FAULT (R89). -/
def serveHeadFault (channel : Byte) (s : State) : State × Reply :=
  match channel? channel with
  | some c =>
    let t := s.markExposedSuspect
    ({ t with channel := { t.channel with enabled := t.channel.enabled.set c false } }, .taken false [])
  | none => refuse s .malformed

/-- Row HEAD_FAULT. -/
def execHeadFault (link : Link) (channel : Byte) (s : State) : Host.Outcome State Fault Refusal :=
  .next (takeRequest link .headFault [channel] (serveHeadFault channel) s)

/-- HEAD READY (R90). -/
def serveHeadReady (channel : Byte) (s : State) : State × Reply :=
  match channel? channel with
  | some c => ({ s with channel := { s.channel with enabled := s.channel.enabled.set c true } }, .taken false [])
  | none => refuse s .malformed

/-- Row HEAD_READY. -/
def execHeadReady (link : Link) (channel : Byte) (s : State) : Host.Outcome State Fault Refusal :=
  .next (takeRequest link .headReady [channel] (serveHeadReady channel) s)

/-! ## The stall monitor (R129, R130) -/

/-- R129: the FIRST stage expires. -/
def State.stallFirst (s : State) : State :=
  let t := s.markExposedSuspect
  { t with web := { t.web with stall := true, stage := .second (later s.timeBase s.web.stallTime) } }

/-- Row STALL_FIRST_EXPIRY (R129): the stage is FIRST and its expiry is reached; otherwise nothing expires (log entries 1
and 7). -/
def execStallFirstExpiry (s : State) : Host.Outcome State Fault Refusal :=
  .next (match s.web.stage with
    | .first t => if reached s.timeBase t then s.noteCauses s.stallFirst else s
    | _ => s)

/-- R130: the SECOND stage expires. -/
def State.stallSecond (s : State) : State :=
  let t := s.raiseWebFault .stall
  { t with web := { t.web with stage := .expired } }

/-- Row STALL_SECOND_EXPIRY (R130): the stage is SECOND and its expiry is reached; otherwise nothing expires (log entries
1 and 7). -/
def execStallSecondExpiry (s : State) : Host.Outcome State Fault Refusal :=
  .next (match s.web.stage with
    | .second t => if reached s.timeBase t then s.noteCauses s.stallSecond else s
    | _ => s)

/-! ## READ WEB (R94, R107, R136, R204) -/

/-- A free value, by its place after the ones taken so far (log entry 3). -/
def State.free (s : State) (k : Nat) : Word32 := Config.freeWord (s.freeCount + k)

/-- R204: the milliseconds to the stage's expiry; 0 in OFF and EXPIRED. -/
def StallStage.msLeft (now : Word32) : StallStage → Nat
  | .off | .expired => 0
  | .first t | .second t => Sys2Proof.Machine.msLeft now t

/-- R204: a segment record. A BLANK made from an unlisted stretch (R117) may be longer than its four length bytes carry; they
are then a free value (log entry 3). -/
def segmentRecord (s : State) (g : Segment) : List Byte :=
  [g.kind.toByte] ++ be32 g.start ++ (if g.length < 2 ^ 32 then n32 g.length else be32 (s.free 3)) ++ n8 (segmentFlags g)
    ++ n16 (s.segmentTicket g.kind) ++ (Piece.single g.kind).copyBytes

/-- R204: the record of the segment at a position, kind 0 and all bytes 0 where there is none. -/
def segmentAt (s : State) (position : Nat) : List Byte :=
  match s.web.map[position]? with
  | some g => segmentRecord s g
  | none => List.replicate 14 0

/-- R136, R204: the reference segment's position, the reference end and d at the present odometer. Without a reference end
the position is 255 and the manual gives the two words no value (log entry 3). -/
def referenceBytes (s : State) : List Byte :=
  match s.web.reference? with
  | some (k, g) =>
    n8 k ++ be32 (g.expectedEnd s.web.lpath) ++ i32 (g.deviation s.web.lpath s.web.odometer)
  | none => n8 255 ++ be32 (s.free 0) ++ be32 (s.free 1)

/-- R204: the unlisted stretch, absent as zeros; a length its four bytes cannot carry is a free value (log entry 3). -/
def stretchBytes (s : State) : List Byte :=
  match s.web.unlisted with
  | some u => [1] ++ be32 u.start ++ (if u.length < 2 ^ 32 then n32 u.length else be32 (s.free 2))
  | none => List.replicate 9 0

/-- Whether a segment is a PRINT. -/
def Segment.isPrint (g : Segment) : Bool :=
  match g.kind with
  | .print _ _ _ => true
  | _ => false

/-- R204, part 0. -/
def webPart (s : State) (position : Nat) : List Byte :=
  be32 s.web.odometer ++ n32 s.web.lpath ++ [s.web.transport.toByte] ++ n16 s.web.stallTime ++ [s.web.stage.toByte]
    ++ n16 (s.web.stage.msLeft s.timeBase) ++ n8 (webFlags s.web) ++ [webFaultByte s.web.fault] ++ n8 s.web.map.length
    ++ n8 (s.web.map.countP Segment.isPrint) ++ stretchBytes s ++ referenceBytes s ++ n16 s.web.cutsTaken
    ++ segmentAt s position

/-- R204, part 1. -/
def lastCutPart (s : State) : List Byte :=
  match s.web.lastCut with
  | some r => [1] ++ cutRecordBytes r
  | none => List.replicate 21 0

/-- R204, part 2. -/
def densityPart (s : State) : List Byte :=
  i16 s.density.offsets.c0 ++ i16 s.density.offsets.c1 ++ i16 s.density.offsets.c2 ++ n16 s.density.targets.c0
    ++ n16 s.density.targets.c1 ++ n16 s.density.targets.c2 ++ n8 s.density.a ++ n8 s.density.q ++ n8 s.density.k
    ++ n8 s.density.implausible ++ n8 (densityFlags s.density) ++ n8 (s.web.map.countP Segment.unreadPatch)
    ++ n16 s.resampler.gains.c0 ++ n16 s.resampler.gains.c1 ++ n16 s.resampler.gains.c2

/-- R204, part 3. -/
def lastReadingPart (s : State) : List Byte :=
  match s.density.lastReading with
  | some r => [1] ++ readingRecord r
  | none => List.replicate 22 0

/-- R204, part 4: the fetch in flight. The time left of a fetch that waits to be sent is given no value by the manual (log
entry 3). -/
def fetchBytes (s : State) : List Byte :=
  match s.fetch.inFlight with
  | some f =>
    [1, f.tag] ++ n8 f.level ++ n16 f.row
      ++ (match s.fetch.timer with | some t => n16 (msLeft s.timeBase t) | none => be16 ((s.free 0).extractLsb' 0 16))
  | none => List.replicate 7 0

/-- R204, part 4: the last fault. -/
def lastFaultBytes (f : RasterFetch) : List Byte :=
  match f.lastFault with
  | some r => [1, r.cause.toByte] ++ n16 r.ticket ++ n8 r.item ++ n8 r.level ++ n16 r.row ++ [r.phase.toByte]
  | none => List.replicate 9 0

/-- R204, part 4: the exposure record. -/
def exposureBytes (c : ChannelOutput) : List Byte :=
  match c.exposure with
  | some e => [1, e.kind.toByte] ++ n16 e.linesExposed ++ flagByte e.blanked ++ n16 e.repeatCount
  | none => List.replicate 7 0

/-- R204, part 4. -/
def channelsPart (s : State) : List Byte :=
  fetchBytes s ++ lastFaultBytes s.fetch ++ n16 s.fetch.faultCount ++ n8 s.channel.queue.length
    ++ n8 (s.channel.queue.countP fun l => l.owner == .selection) ++ exposureBytes s.channel
    ++ n8 (enableFlags s.channel.enabled) ++ n8 s.channel.repeatTolerance

/-- R204: the reply of each part. -/
def webReply (s : State) (position part : Nat) : List Byte :=
  match part with
  | 0 => webPart s position
  | 1 => lastCutPart s
  | 2 => densityPart s
  | 3 => lastReadingPart s
  | _ => channelsPart s

/-- READ WEB (R136, R204). The free values a reply can hold are used up. -/
def serveReadWeb (position part : Byte) (s : State) : State × Reply :=
  if position.toNat > 127 then refuse s .malformed
  else if part.toNat > 4 then refuse s .malformed
  else ({ s with freeCount := s.freeCount + 4 }, .taken false (webReply s position.toNat part.toNat))

/-- Row READ_WEB. -/
def execReadWeb (link : Link) (position part : Byte) (s : State) : Host.Outcome State Fault Refusal :=
  .next (takeRequest link .readWeb [position, part] (serveReadWeb position part) s)

end Sys2Proof.Machine
end

