-- ==== Sys2Proof/WellFormed.lean ====
section
/-! DEFINITION. The commands that can arise: a command outside these describes an event the chapters give no form to. -/

namespace Sys2Proof

/-- A frame the port answers without handing it to a block (row UNKNOWN_REQUEST; R183, R184): its length is above 62 and it
has no field bytes, or its length is within 62, its code names no request and it has that many field bytes. -/
def unknownFrame (code len : Byte) (fields : List Byte) : Bool :=
  if len.toNat > 62 then fields.isEmpty
  else (RequestCode.ofByte? code).isNone && fields.length == len.toNat

/-- The form each command must have to describe an event of the chapters. -/
def Instr.wellFormed : Instr → Bool
  | .unknownRequest _ code len fields => unknownFrame code len fields
  | .setMask _ entries => decide (entries.length ≤ 62)
  | .rowData _ pixels => decide (1 ≤ pixels.length ∧ pixels.length ≤ 16384)
  | .rasterFrameUnreadable code count => unreadableHeader code count
  | _ => true

end Sys2Proof
end

