-- ==== Sys2Proof/Machine/Links.lean ====
section
/-! DEFINITION. The link ports and the attention units (chapter 9): select, bytes on the link clock, unknown requests, READ
ATTENTION, SET MASK, the attention lines; and the time base. -/

namespace Sys2Proof.Machine

/-! ## Attention causes (R189 to R192) -/

/-- An attention cause; CANCEL DONE stands for the link that asks. -/
inductive Cause where
  | orderFaulted
  | cancelDone
  | tableLow
  | webFault
  | densityFault
  | stall
  | switchRequested
  | paperNeeded
  | magazineLow
  | patchUnread
  | binShortage
  | uncollected
  | orderComplete
  deriving DecidableEq, Repr

/-- R190 to R192: the causes of a link, highest priority first. -/
def causesOf : Link → List Cause
  | .order => [.orderFaulted, .cancelDone, .tableLow]
  | .engine => [.webFault, .densityFault, .stall, .switchRequested, .paperNeeded, .magazineLow, .patchUnread]
  | .till => [.binShortage, .uncollected, .orderComplete, .cancelDone]

/-- The event flag a per-order cause stands for on a link. -/
def Cause.flagOf (c : Cause) (link : Link) (o : Order) : Bool :=
  match c with
  | .orderFaulted => o.faultUnreported
  | .cancelDone => o.cancelNotice && o.requester == requesterOf link
  | .binShortage => o.shortageUnreported
  | .orderComplete => o.completeUnreported
  | .tableLow | .webFault | .densityFault | .stall | .switchRequested | .paperNeeded | .magazineLow | .patchUnread
  | .uncollected => false

/-- The orders for which a per-order cause is pending, lowest slot first (R189). -/
def State.flaggedOrders (s : State) (link : Link) (c : Cause) : List (Nat × Order) :=
  s.orderTable.orders.filter fun p => c.flagOf link p.2

/-- The bins whose UNCOLLECTED flag is set, lowest number first (R189). -/
def State.uncollectedBins (s : State) : List (Nat × Bin) := s.sort.bins.filter fun p => p.2.uncollected

/-- The magazines whose low flag is set, A before B (R189). -/
def State.lowMagazines (s : State) : List Magazine :=
  [Magazine.a, Magazine.b].filter fun m => (s.scheduler.magazine m).low

/-- R40: the first marked order's paper, classes from EXPRESS to BULK and each list from head to tail. -/
def State.paperNeeded? (s : State) : Option PaperNeed :=
  (s.scheduler.express ++ s.scheduler.standard ++ s.scheduler.bulk).findSome? fun slot =>
    (s.order? slot).bind fun o => o.paperWait

/-- R190: fewer than 4 order records or fewer than 32 item records are free. -/
def State.tableLow (s : State) : Bool :=
  decide (Table.freeCount s.orderTable.orders 64 < 4) || decide (Table.freeCount s.orderTable.items 512 < 32)

/-- R189 to R192: for how many subjects a cause is pending; a cause without several subjects counts one while it is pending
(log entry 17). -/
def State.subjects (s : State) (link : Link) (c : Cause) : Nat :=
  match c with
  | .orderFaulted | .cancelDone | .binShortage | .orderComplete => (s.flaggedOrders link c).length
  | .uncollected => s.uncollectedBins.length
  | .magazineLow => s.lowMagazines.length
  | .tableLow => if s.tableLow then 1 else 0
  | .webFault => if s.web.fault.isSome then 1 else 0
  | .densityFault => if s.density.fault then 1 else 0
  | .stall => if s.web.stall then 1 else 0
  | .switchRequested => if s.scheduler.switchRequested.isSome then 1 else 0
  | .paperNeeded => if s.paperNeeded?.isSome then 1 else 0
  | .patchUnread => if s.density.patchUnread then 1 else 0

/-- R189: a cause is pending when it is pending for at least one subject. -/
def State.isPending (s : State) (link : Link) (c : Cause) : Bool := decide (0 < s.subjects link c)

/-- R189, R193: the causes of a link with their priorities and mask entries. -/
def State.entries (s : State) (link : Link) : List (Nat × Cause × Bool) :=
  ((List.range (causesOf link).length).zip ((causesOf link).zip (s.links.unit link).mask)).map
    fun e => (e.1 + 1, e.2.1, e.2.2)

/-- R193: the unmasked pending cause of highest priority, with that priority. -/
def State.topCause (s : State) (link : Link) : Option (Nat × Cause) :=
  ((s.entries link).find? fun e => !e.2.2 && s.isPending link e.2.1).map fun e => (e.1, e.2.1)

/-- R193: for every cause of the link, whether it is pending and unmasked. -/
def State.pendingFlags (s : State) (link : Link) : List Bool :=
  (s.entries link).map fun e => !e.2.2 && s.isPending link e.2.1

/-- R195: the attention output of a link is asserted while an unmasked cause of the link is pending. -/
def State.attentionLine (s : State) (link : Link) : Bool := (s.pendingFlags link).any id

/-! ## READ ATTENTION (R193, R203) -/

/-- R203: ticket and slot. -/
def orderSubject (slot : Nat) (o : Order) : List Byte := n16 o.ticket ++ n8 slot

/-- R203: the bytes of a cause's first subject that it uses. -/
def State.subjectFields (s : State) (link : Link) (c : Cause) : List Byte :=
  match c with
  | .orderFaulted | .cancelDone | .orderComplete =>
    (match s.flaggedOrders link c with | (slot, o) :: _ => orderSubject slot o | [] => [])
  | .binShortage =>
    (match s.flaggedOrders link c with | (slot, o) :: _ => orderSubject slot o ++ n8 o.overflow | [] => [])
  | .tableLow => n8 (Table.freeCount s.orderTable.orders 64) ++ n16 (Table.freeCount s.orderTable.items 512)
  | .webFault => [webFaultByte s.web.fault]
  | .switchRequested => [magazineByte s.scheduler.switchRequested]
  | .paperNeeded => (match s.paperNeeded? with | some p => n16 p.width ++ [p.surface.toByte] | none => [])
  | .magazineLow =>
    (match s.lowMagazines with | m :: _ => m.toByte :: n32 (s.scheduler.magazine m).remaining | [] => [])
  | .uncollected => (match s.uncollectedBins with | (n, b) :: _ => n8 n ++ n16 (b.ticket.getD 0) | [] => [])
  | .densityFault | .stall | .patchUnread => []

/-- R203: the six subject bytes, the unused ones 0. -/
def sixBytes (fields : List Byte) : List Byte := (fields ++ List.replicate 6 0).take 6

/-- R190 to R192: an event flag of an order cleared. -/
def Cause.clearFlag (c : Cause) (o : Order) : Order :=
  match c with
  | .orderFaulted => { o with faultUnreported := false }
  | .cancelDone => { o with cancelNotice := false }
  | .binShortage => { o with shortageUnreported := false }
  | .orderComplete => { o with completeUnreported := false }
  | .tableLow | .webFault | .densityFault | .stall | .switchRequested | .paperNeeded | .magazineLow | .patchUnread
  | .uncollected => o

/-- R193, step 1: an event cause cleared for its first subject; CANCEL DONE frees the order record (R21, R24). A condition
cause changes nothing. -/
def State.clearCause (s : State) (link : Link) (c : Cause) : State :=
  match c with
  | .orderFaulted | .binShortage | .orderComplete =>
    (match s.flaggedOrders link c with | (slot, _) :: _ => s.modifyOrder slot c.clearFlag | [] => s)
  | .cancelDone =>
    (match s.flaggedOrders link c with
      | (slot, _) :: _ => (s.modifyOrder slot c.clearFlag).freeRecord slot
      | [] => s)
  | .patchUnread => { s with density := { s.density with patchUnread := false } }
  | .tableLow | .webFault | .densityFault | .stall | .switchRequested | .paperNeeded | .magazineLow | .uncollected => s

/-- R203: the mask byte and the byte of pending causes before it. -/
def State.attentionBytes (s : State) (link : Link) : List Byte :=
  n8 (packFlags (s.pendingFlags link)) ++ n8 (maskFlags (s.links.unit link).mask)

/-- READ ATTENTION (R193). -/
def serveReadAttention (link : Link) (s : State) : State × Reply :=
  match s.topCause link with
  | none => (s, .taken false (n8 0 ++ List.replicate 6 0 ++ n8 0 ++ s.attentionBytes link))
  | some (p, c) =>
    let t := s.clearCause link c
    (t, .taken false (n8 p ++ sixBytes (s.subjectFields link c) ++ n8 (t.subjects link c) ++ t.attentionBytes link))

/-- Row READ_ATTENTION. -/
def execReadAttention (link : Link) (s : State) : Host.Outcome State Fault Refusal :=
  .next (takeRequest link .readAttention [] (serveReadAttention link) s)

/-! ## SET MASK (R196) -/

/-- R196: the entries of a mask, none where one encodes neither value. -/
def maskEntries? : List Byte → Option (List Bool)
  | [] => some []
  | b :: rest =>
    match maskEntry? b, maskEntries? rest with
    | some m, some ms => some (m :: ms)
    | _, _ => none

/-- A link's mask replaced. -/
def State.setMask (s : State) (link : Link) (mask : List Bool) : State :=
  { s with links := s.links.setUnit link { s.links.unit link with mask := mask } }

/-- SET MASK (R196). -/
def serveSetMask (link : Link) (entries : List Byte) (s : State) : State × Reply :=
  match maskEntries? entries with
  | none => refuse s .malformed
  | some mask =>
    let t := s.setMask link mask
    (t, .taken false (n8 (maskFlags mask) ++ flagByte (t.attentionLine link)))

/-- Row SET_MASK. -/
def execSetMask (link : Link) (entries : List Byte) (s : State) : Host.Outcome State Fault Refusal :=
  .next (takeRequest link .setMask entries (serveSetMask link entries) s)

/-! ## Select (R182, R185) -/

/-- Row SELECT_ASSERTED: an IDLE port goes to REQUEST with an empty received request; select is already asserted in every
other phase (log entry 1). -/
def execSelectAsserted (link : Link) (s : State) : Host.Outcome State Fault Refusal :=
  .next (match s.port link with
    | .idle => s.setPort link (.request [])
    | _ => s)

/-- Row SELECT_RELEASED: what was received or not yet sent is lost, and the port goes to IDLE. -/
def execSelectReleased (link : Link) (s : State) : Host.Outcome State Fault Refusal :=
  .next (s.setPort link .idle)

/-! ## Requests by their frames (R183, R184) -/

/-- The block's test and performance of a request command; a command that is no request is served by nothing. -/
def serveRequest (i : Instr) (s : State) : State × Reply :=
  match i with
  | .openOrder _ cls => serveOpenOrder cls s
  | .addItem _ t h w e z u m c => serveAddItem t h w e z u m c s
  | .submit _ t => serveSubmit t s
  | .hold _ t => serveHold t s
  | .release _ t => serveRelease t s
  | .cancel l t => serveCancel l t s
  | .readItem _ t n => serveReadItem t n s
  | .writeSize _ i e p q w g => serveWriteSize i e p q w g s
  | .readSize _ i => serveReadSize i s
  | .setWindows _ e m b => serveSetWindows e m b s
  | .setRemakeLimit _ n => serveSetRemakeLimit n s
  | .loadRoll _ m w u n => serveLoadRoll m w u n s
  | .unloadRoll _ m => serveUnloadRoll m s
  | .magazineSwitched _ m => serveMagazineSwitched m s
  | .transport _ v => serveTransport v s
  | .cut _ => serveCut s
  | .patchReading _ a b c => servePatchReading a b c s
  | .headFault _ c => serveHeadFault c s
  | .headReady _ c => serveHeadReady c s
  | .binEmptied _ b => serveBinEmptied b s
  | .trayEmptied _ => serveTrayEmptied s
  | .webCleared _ => serveWebCleared s
  | .densityReset _ => serveDensityReset s
  | .setWeb _ p d e t => serveSetWeb p d e t s
  | .setDensity _ k t0 t1 t2 a q r g0 g1 g2 => serveSetDensity k t0 t1 t2 a q r g0 g1 g2 s
  | .setBin _ b g c => serveSetBin b g c s
  | .readWeb _ p q => serveReadWeb p q s
  | .readMagazine _ => serveReadMagazine s
  | .readPrice _ t n => serveReadPrice t n s
  | .amendOpen _ t => serveAmendOpen t s
  | .amendSet _ t k v => serveAmendSet t k v s
  | .amendCommit _ t => serveAmendCommit t s
  | .amendDrop _ t => serveAmendDrop t s
  | .collect _ t => serveCollect t s
  | .collectPartial _ t => serveCollectPartial t s
  | .writeTariff _ t i a b c d e => serveWriteTariff t i a b c d e s
  | .lockTariff _ => serveLockTariff s
  | .closeDay _ => serveCloseDay s
  | .readClosedDay _ => serveReadClosedDay s
  | .readTotals _ => serveReadTotals s
  | .setUncollectedTime _ m => serveSetUncollectedTime m s
  | .readBin _ b => serveReadBin b s
  | .readOrder _ t => serveReadOrder t s
  | .readAttention l => serveReadAttention l s
  | .setMask l es => serveSetMask l es s
  | .powerOnReset | .warmReset | .selectAsserted _ | .selectReleased _ | .unknownRequest _ _ _ _ | .lineStrobe
  | .windowExpiry _ | .fetchTimeout | .stallFirstExpiry | .stallSecondExpiry | .uncollectedExpiry _ | .rowFetch
  | .rowData _ _ | .rowFault _ _ | .rasterFrameUnreadable _ _ | .selectionAttempt | .lineProduced
  | .linkByteComplete _ _ | .timeBaseTick => refuse s .unknown

/-- R184, test 5: the block's answer to the fields of a request that names itself by its code. -/
def serveFields (link : Link) (code : Byte) (fields : List Byte) (s : State) : State × Reply :=
  match (RequestCode.ofByte? code).bind fun c => decodeFields link c fields with
  | some i => serveRequest i s
  | none => refuse s .malformed

/-- Row UNKNOWN_REQUEST (R183, R184): the rest of a frame that reaches no block arrives and the port answers it UNKNOWN, or
MALFORMED for a length above 62. Where the port is not receiving this frame, the bytes are ignored (log entry 4). -/
def execUnknownRequest (link : Link) (code len : Byte) (fields : List Byte) (s : State) :
    Host.Outcome State Fault Refusal :=
  .next (if unknownFrame code len fields && s.receiving link (code :: len :: fields) then
      s.answered link (refuse s (if len.toNat > 62 then .malformed else .unknown))
    else s)

/-! ## Bytes on the link clock (R182) -/

/-- R182, R183: a byte appended to the received request; a request that is now complete is taken (log entry 5). -/
def State.receiveByte (s : State) (link : Link) (got : List Byte) : State :=
  match got with
  | code :: len :: fields =>
    if frameComplete got then
      s.answered link (answerFrame link code len.toNat (serveFields link code fields) s)
    else s.setPort link (.request got)
  | _ => s.setPort link (.request got)

/-- Row LINK_BYTE_COMPLETE (R182): in REQUEST the byte is received, in REPLY the next reply byte has been sent and the port
goes to SPENT after the last one, in SPENT filler is sent, in IDLE the clock is ignored. -/
def execLinkByteComplete (link : Link) (byte : Byte) (s : State) : Host.Outcome State Fault Refusal :=
  .next (match s.port link with
    | .request got => s.receiveByte link (got ++ [byte])
    | .reply bytes sent =>
      s.setPort link (if bytes.length ≤ sent + 1 then .spent else .reply bytes (sent + 1))
    | .idle | .spent => s)

/-! ## The time base (R198) -/

/-- Row TIME_BASE_TICK: the time base increases by one, wrapping at 2^32. -/
def execTimeBaseTick (s : State) : Host.Outcome State Fault Refusal := .next { s with timeBase := s.timeBase + 1 }

end Sys2Proof.Machine
end

