-- ==== Sys2Proof/Machine/Raster.lean ====
section
/-! DEFINITION. Raster Fetch (sections 4.1 and 4.2, R205): sending, the frames of the raster source, the timeout and raster
faults. -/

namespace Sys2Proof.Machine

/-! ## Sending and clocking in (R205) -/

/-- R205: the bytes of a ROW FETCH frame. -/
def Fetch.frame (f : Fetch) : List Byte := [0x01#8, f.tag] ++ be32 f.handle ++ n8 f.level ++ n16 f.row

/-- R205: the fetch waiting to be sent, if there is one. -/
def RasterFetch.waiting? (r : RasterFetch) : Option Fetch :=
  match r.timer with
  | none => r.inFlight
  | some _ => none

/-- R76, R205: the select period of a ROW FETCH frame ends; the timer of the fetch it asks for then runs for 250 ms. A fetch
abandoned meanwhile has no timer to start. -/
def RasterFetch.sent (r : RasterFetch) (now : Word32) (frame : List Byte) : RasterFetch :=
  { r with
    link := { r.link with phase := .idle }
    frameSent := some frame
    timer := if r.waiting?.map Fetch.frame = some frame then some (later now 250) else r.timer }

/-- R205: a waiting fetch sent whole. -/
def RasterFetch.sendWaiting (r : RasterFetch) (now : Word32) : RasterFetch :=
  match r.waiting? with
  | some f => r.sent now f.frame
  | none => r

/-- R205: the raster link as a reply frame's last byte is read. A frame begun before is completed; otherwise a ROW FETCH being
sent and a fetch waiting to be sent go first, and ready is served after them. -/
def RasterFetch.served (r : RasterFetch) (now : Word32) : RasterFetch :=
  let q := match r.link.phase with
    | .receiving => r
    | .sending frame => (r.sent now frame).sendWaiting now
    | .idle => r.sendWaiting now
  { q with link := { phase := .idle, ready := false } }

/-- The state as a reply frame's last byte is read. -/
def State.served (s : State) : State := { s with fetch := s.fetch.served s.timeBase }

/-- R205: at a reset a reply frame being clocked in is cut off; a ROW FETCH whose select period has begun is sent whole. -/
def RasterFetch.cutOff (r : RasterFetch) : RasterFetch :=
  match r.link.phase with
  | .receiving => { r with link := { r.link with phase := .idle } }
  | .sending _ | .idle => r

/-- R205: what the raster link begins of its own accord: an idle link with a waiting fetch begins to send it, and one without
begins to clock in a reply frame while ready is asserted. The source keeps ready asserted until its frame is read (log entry
27). -/
def State.rasterTick (s : State) : State :=
  let ready := s.fetch.link.ready || Config.readyInput s.freeCount
  { s with
    freeCount := s.freeCount + 1
    fetch := { s.fetch with link :=
      { ready := ready
        phase := match s.fetch.link.phase, s.fetch.waiting? with
          | .idle, some f => .sending f.frame
          | .idle, none => if ready then .receiving else .idle
          | phase, _ => phase } } }

/-- Row ROW_FETCH (R76, steps 2 and 3; R205): the select period of a ROW FETCH ends, one already begun or the whole of one for
the waiting fetch. While a reply frame is being clocked in, or without a fetch to send, nothing is sent (log entries 1 and
6). -/
def execRowFetch (s : State) : Host.Outcome State Fault Refusal :=
  .next (match s.fetch.link.phase with
    | .sending frame => s.noteCauses { s with fetch := s.fetch.sent s.timeBase frame }
    | .idle => s.noteCauses { s with fetch := s.fetch.sendWaiting s.timeBase }
    | .receiving => s)

/-! ## Raster faults (R80 to R82, R11) -/

/-- R11, steps 1 and 2: a faulted item, its waiting copies written off. -/
def Item.struck (i : Item) : Item := { i.writeOffWaiting with faulted := true }

/-- R11, steps 3 and 4: the order of a faulted item; a READY or IN PRINT order goes to HELD. -/
def Order.struck (o : Order) : Order :=
  { o with
    faulted := true
    faultUnreported := true
    state := if o.state = .ready ∨ o.state = .inPrint then .held else o.state }

/-- R11: the Order Table's handling of a raster fault against one item. -/
def State.faultOrder (s : State) (slot n : Nat) : State :=
  let s1 := { s with orderTable := (s.orderTable.modifyItem slot n Item.struck).modifyOrder slot Order.struck }
  let s2 : State := match s.order? slot with
    | some o => if o.state = .ready ∨ o.state = .inPrint then (s1.delist slot).voidSelectionOf slot else s1
    | none => s1
  s2.accountCheck slot

/-- R82: the segment of a closed print, known by its start, marked suspect if it is still in the map. -/
def Web.suspectAt (w : Web) (start : Word32) : Web :=
  { w with map := w.map.map fun g => if g.start = start then { g with suspect := true } else g }

/-- R81, R82: what a raster fault does to the print its work serves. -/
def State.faultPrint (s : State) (owner : WorkOwner) : State :=
  match owner with
  | .selection => s.voidSelection
  | .exposed =>
    let t := s.abortWork.markExposedSuspect
    { t with channel := t.channel.blank }
  | .trailing start =>
    let t := s.abortWork
    { t with web := t.web.suspectAt start }

/-- R80: the phase of a fault, from the print its work serves. -/
def WorkOwner.phase : WorkOwner → FaultPhase
  | .selection => .beforeStart
  | .exposed => .during
  | .trailing _ => .during

/-- The ticket of the record in a slot, 0 where the slot is free. -/
def State.ticketOf (s : State) (slot : Nat) : Nat :=
  match s.order? slot with
  | some o => o.ticket
  | none => 0

/-- R80: a raster fault of the fetch in flight taken: the timer stops, the fetch is absent, the fault is recorded, then
handled by its phase and reported to the Order Table. -/
def State.rasterFault (s : State) (f : Fetch) (cause : FaultCause) : State :=
  match s.resampler.work with
  | some w =>
    match w.job with
    | .print p =>
      let t := { s with fetch := { s.fetch.abandon with
        lastFault := some { cause := cause, ticket := s.ticketOf p.slot, item := p.item, level := f.level, row := f.row
                            phase := w.owner.phase }
        faultCount := satAdd 65535 s.fetch.faultCount 1 } }
      (t.faultPrint w.owner).faultOrder p.slot p.item
    | .patch _ => s
  | none => s

/-- Row FETCH_TIMEOUT (R78): the timer has reached its expiry with the fetch in flight; otherwise nothing expires (log
entries 1 and 7). -/
def execFetchTimeout (s : State) : Host.Outcome State Fault Refusal :=
  .next (match s.fetch.inFlight, s.fetch.timer with
    | some f, some t => if reached s.timeBase t then s.noteCauses (s.rasterFault f .timeout) else s
    | _, _ => s)

/-- R77: a row handed to the Resampler, placed in an empty row slot, A before B (log entry 24); the next missing
row is then requested (R66). -/
def State.placeRow (s : State) (row : Row) : State :=
  State.planRows { s with
    fetch := s.fetch.abandon
    resampler := match s.resampler.rowA with
      | none => { s.resampler with rowA := some row }
      | some _ => { s.resampler with rowB := some row } }

/-- R77, R78: what Raster Fetch does with a ROW DATA frame: one with the tag of the fetch in flight is taken, any other is
discarded. -/
def State.takeRowData (s : State) (tag : Byte) (pixels : List Pixel) : State :=
  match s.fetch.inFlight with
  | some f =>
    if f.tag ≠ tag then s
    else if pixels.length = f.expected then s.placeRow { index := f.row, pixels := pixels }
    else s.rasterFault f .wrongLength
  | none => s

/-- Row ROW_DATA (R77, R205). With no pixels or with more than 16,384 its header cannot be read, and it is discarded. -/
def execRowData (tag : Byte) (pixels : List Pixel) (s : State) : Host.Outcome State Fault Refusal :=
  .next (s.noteCauses
    (if pixels.length = 0 ∨ pixels.length > 16384 then s.served else s.served.takeRowData tag pixels))

/-- R78: the reason recorded of a ROW FAULT; 0 or above 15 is recorded as 15. -/
def recordedReason (reason : Word16) : Nat := if reason.toNat = 0 ∨ reason.toNat > 15 then 15 else reason.toNat

/-- R77, R78: what Raster Fetch does with a ROW FAULT frame: a matching one is a raster fault, any other is discarded. -/
def State.takeRowFault (s : State) (tag : Byte) (reason : Word16) : State :=
  match s.fetch.inFlight with
  | some f => if f.tag = tag then s.rasterFault f (.rowFault (recordedReason reason)) else s
  | none => s

/-- Row ROW_FAULT (R77, R78, R205). -/
def execRowFault (tag : Byte) (reason : Word16) (s : State) : Host.Outcome State Fault Refusal :=
  .next (s.noteCauses (s.served.takeRowFault tag reason))

/-- Row RASTER_FRAME_UNREADABLE (R77, R205): the header is read and the frame discarded; a fetch in flight stays in flight and
its timer runs on. A header that can be read is no such frame, and nothing comes about (log entry 1). -/
def execRasterFrameUnreadable (code : Byte) (count : Word16) (s : State) : Host.Outcome State Fault Refusal :=
  .next (if unreadableHeader code count then s.noteCauses s.served else s)

end Sys2Proof.Machine
end

