-- ==== Sys2Proof/Machine/Resets.lean ====
section
/-! DEFINITION. Power-on reset and warm reset, block by block as R30, R54, R55, R75, R84, R110, R112, R133, R135, R156, R181
and R182 state. -/

namespace Sys2Proof.Machine

/-- Row POWER_ON_RESET: every piece of state at its power-on value. The commands still waiting and the count of free values
taken are the model's own and stay (log entry 22). -/
def execPowerOnReset (s : State) : Host.Outcome State Fault Refusal :=
  .next { State.reset with pending := s.pending, freeCount := s.freeCount }

/-- R54: what warm reset does to the scheduler besides voiding the standing selection. -/
def Scheduler.warm (sch : Scheduler) : Scheduler :=
  { sch with switchRequested := none, leaderPending := false, active := none }

/-- R135: what warm reset does to the Web Tracker besides clearing the map. -/
def Web.warm (w : Web) : Web :=
  { w with transport := .stop, stage := .off, stall := false, fault := none, unlisted := none }

/-- R135: the flush of R92, the clearing of the map by R133 and the warm reset values of every block; a reply frame being
clocked in is cut off (R205). -/
def State.warmReset (s : State) : State :=
  let t := s.flush.clearMap.1
  { t with
    scheduler := t.scheduler.warm
    channel := { t.channel with enabled := { c0 := true, c1 := true, c2 := true } }
    web := t.web.warm
    fetch := t.fetch.cutOff }

/-- Row WARM_RESET. -/
def execWarmReset (s : State) : Host.Outcome State Fault Refusal := .next (s.noteCauses s.warmReset)

end Sys2Proof.Machine
end

