-- ==== Sys2Proof/Machine/Dispatch.lean ====
section
/-! DEFINITION. The dispatch: every command of the table to its meaning, one arm each. -/

namespace Sys2Proof.Machine

def exec (i : Instr) (s : State) : Host.Outcome State Fault Refusal :=
  match i with
  | .powerOnReset => Sys2Proof.Machine.execPowerOnReset s
  | .warmReset => Sys2Proof.Machine.execWarmReset s
  | .selectAsserted link => Sys2Proof.Machine.execSelectAsserted link s
  | .selectReleased link => Sys2Proof.Machine.execSelectReleased link s
  | .unknownRequest link code len fields => Sys2Proof.Machine.execUnknownRequest link code len fields s
  | .openOrder link cls => Sys2Proof.Machine.execOpenOrder link cls s
  | .addItem link ticket handle ws hs sizeIndex surface mode copies => Sys2Proof.Machine.execAddItem link ticket handle ws hs sizeIndex surface mode copies s
  | .submit link ticket => Sys2Proof.Machine.execSubmit link ticket s
  | .hold link ticket => Sys2Proof.Machine.execHold link ticket s
  | .release link ticket => Sys2Proof.Machine.execRelease link ticket s
  | .cancel link ticket => Sys2Proof.Machine.execCancel link ticket s
  | .readItem link ticket item => Sys2Proof.Machine.execReadItem link ticket item s
  | .writeSize link index enabled wp lp paperWidth binGroup => Sys2Proof.Machine.execWriteSize link index enabled wp lp paperWidth binGroup s
  | .readSize link index => Sys2Proof.Machine.execReadSize link index s
  | .setWindows link express standard bulk => Sys2Proof.Machine.execSetWindows link express standard bulk s
  | .setRemakeLimit link limit => Sys2Proof.Machine.execSetRemakeLimit link limit s
  | .loadRoll link magazine width surface length => Sys2Proof.Machine.execLoadRoll link magazine width surface length s
  | .unloadRoll link magazine => Sys2Proof.Machine.execUnloadRoll link magazine s
  | .magazineSwitched link magazine => Sys2Proof.Machine.execMagazineSwitched link magazine s
  | .transport link state => Sys2Proof.Machine.execTransport link state s
  | .cut link => Sys2Proof.Machine.execCut link s
  | .patchReading link m0 m1 m2 => Sys2Proof.Machine.execPatchReading link m0 m1 m2 s
  | .headFault link channel => Sys2Proof.Machine.execHeadFault link channel s
  | .headReady link channel => Sys2Proof.Machine.execHeadReady link channel s
  | .binEmptied link bin => Sys2Proof.Machine.execBinEmptied link bin s
  | .trayEmptied link => Sys2Proof.Machine.execTrayEmptied link s
  | .webCleared link => Sys2Proof.Machine.execWebCleared link s
  | .densityReset link => Sys2Proof.Machine.execDensityReset link s
  | .setWeb link lpath leaderLength endReserve stallTime => Sys2Proof.Machine.execSetWeb link lpath leaderLength endReserve stallTime s
  | .setDensity link k t0 t1 t2 a q tolerance g0 g1 g2 => Sys2Proof.Machine.execSetDensity link k t0 t1 t2 a q tolerance g0 g1 g2 s
  | .setBin link bin group capacity => Sys2Proof.Machine.execSetBin link bin group capacity s
  | .readWeb link position part => Sys2Proof.Machine.execReadWeb link position part s
  | .readMagazine link => Sys2Proof.Machine.execReadMagazine link s
  | .readPrice link ticket item => Sys2Proof.Machine.execReadPrice link ticket item s
  | .amendOpen link ticket => Sys2Proof.Machine.execAmendOpen link ticket s
  | .amendSet link ticket kind value => Sys2Proof.Machine.execAmendSet link ticket kind value s
  | .amendCommit link ticket => Sys2Proof.Machine.execAmendCommit link ticket s
  | .amendDrop link ticket => Sys2Proof.Machine.execAmendDrop link ticket s
  | .collect link ticket => Sys2Proof.Machine.execCollect link ticket s
  | .collectPartial link ticket => Sys2Proof.Machine.execCollectPartial link ticket s
  | .writeTariff link target index f0 f1 f2 f3 f4 => Sys2Proof.Machine.execWriteTariff link target index f0 f1 f2 f3 f4 s
  | .lockTariff link => Sys2Proof.Machine.execLockTariff link s
  | .closeDay link => Sys2Proof.Machine.execCloseDay link s
  | .readClosedDay link => Sys2Proof.Machine.execReadClosedDay link s
  | .readTotals link => Sys2Proof.Machine.execReadTotals link s
  | .setUncollectedTime link minutes => Sys2Proof.Machine.execSetUncollectedTime link minutes s
  | .readBin link bin => Sys2Proof.Machine.execReadBin link bin s
  | .readOrder link ticket => Sys2Proof.Machine.execReadOrder link ticket s
  | .readAttention link => Sys2Proof.Machine.execReadAttention link s
  | .setMask link entries => Sys2Proof.Machine.execSetMask link entries s
  | .lineStrobe => Sys2Proof.Machine.execLineStrobe s
  | .windowExpiry slot => Sys2Proof.Machine.execWindowExpiry slot s
  | .fetchTimeout => Sys2Proof.Machine.execFetchTimeout s
  | .stallFirstExpiry => Sys2Proof.Machine.execStallFirstExpiry s
  | .stallSecondExpiry => Sys2Proof.Machine.execStallSecondExpiry s
  | .uncollectedExpiry bin => Sys2Proof.Machine.execUncollectedExpiry bin s
  | .rowFetch => Sys2Proof.Machine.execRowFetch s
  | .rowData tag pixels => Sys2Proof.Machine.execRowData tag pixels s
  | .rowFault tag reason => Sys2Proof.Machine.execRowFault tag reason s
  | .rasterFrameUnreadable code count => Sys2Proof.Machine.execRasterFrameUnreadable code count s
  | .selectionAttempt => Sys2Proof.Machine.execSelectionAttempt s
  | .lineProduced => Sys2Proof.Machine.execLineProduced s
  | .linkByteComplete link byte => Sys2Proof.Machine.execLinkByteComplete link byte s
  | .timeBaseTick => Sys2Proof.Machine.execTimeBaseTick s

end Sys2Proof.Machine
end

