-- ==== Sys2Proof/Machine/Step.lean ====
section
/-! DEFINITION. One step: the command at the front of the queue, run on the state with the queue's rest; on an empty queue, the
raster link. -/

namespace Sys2Proof.Machine

/-- One step. On an empty queue only the raster link goes on, which the device itself clocks (log entries 2 and 27). -/
def step (s : State) : Host.Outcome State Fault Refusal :=
  match s.pending with
  | [] => .next s.rasterTick
  | c :: rest => exec c { s with pending := rest }

/-- The state with the command a word spells by the opcode table put at the front of the queue; the table gives no row any
bits, so no word spells one and the state is unchanged. -/
def State.withFetchWord (s : State) (nbits w : Nat) : State :=
  match decodeTableWord nbits w with
  | some c => { s with pending := c :: s.pending }
  | none => s

end Sys2Proof.Machine
end

