-- ==== Sys2Proof/Safety.lean ====
section
/-! DEFINITION. The terms of the statements: a request that is being taken and the answer to it, the parts of the state a
command leaves unchanged, and the invariants every step keeps. -/

namespace Sys2Proof.Machine

/-! ## A request taken and answered -/

/-- The port of the link is receiving the frame of this request, so that the request command delivers the rest of it. -/
def Taking (s : State) (link : Link) (code : RequestCode) (fields : List Byte) : Prop :=
  s.receiving link (frameBytes code.toByte fields) = true

/-- The port of the link holds this whole reply, none of it sent yet (R182). -/
def Replied (t : State) (link : Link) (status : Status) (fields : List Byte) : Prop :=
  t.port link = .reply (status.toByte :: BitVec.ofNat 8 fields.length :: fields) 0

/-- A ticket field names this order record in use, in this slot. -/
def Names (s : State) (ticket : Word16) (slot : Nat) (o : Order) : Prop :=
  ticket.toNat ≠ 0 ∧ ticket.toNat ≤ 9999 ∧ s.orderTable.findTicket ticket.toNat = some slot ∧ s.order? slot = some o

/-- The refusal every request that names a ticket makes first: MALFORMED for 0 or above 9,999, NO ORDER where no record in
use holds the ticket. -/
def TicketRefusal (s : State) (ticket : Word16) (status : Status) : Prop :=
  ((ticket.toNat = 0 ∨ ticket.toNat > 9999) ∧ status = .malformed)
    ∨ (ticket.toNat ≠ 0 ∧ ticket.toNat ≤ 9999 ∧ s.orderTable.findTicket ticket.toNat = none ∧ status = .noOrder)

/-! ## The parts of the state -/

/-- The parts of the state, as finely as the statements about what a command leaves unchanged need them. -/
inductive Part where
  | orders | items | ticketCounter | sizes | windows | remakeLimit
  | classLists | selection | patchCadence | magazines | active | switchRequest | leaderPending | paperSettings
  | attemptCause
  | work | rows | gains
  | fetch | nextTag | lastFault | frameSent | rasterLink
  | lineQueue | exposure | enables | repeatTolerance | heads
  | offsets | densityFault | densitySettings | patchUnread | lastReading
  | map | odometer | lpath | transport | stallTime | stall | webFault | unlisted | cuts | leaderTarget | mark
  | bins | trayCount | rejectCount | uncollectedTime
  | tariff | tariffLock | amendment | totals | closedDay
  | port (link : Link) | mask (link : Link)
  | timeBase | freeCount | pending
  deriving DecidableEq, Repr

/-- Two states agree on a part. -/
def Same (s t : State) : Part → Prop
  | .orders => t.orderTable.orders = s.orderTable.orders
  | .items => t.orderTable.items = s.orderTable.items
  | .ticketCounter => t.orderTable.nextTicket = s.orderTable.nextTicket
  | .sizes => t.orderTable.sizes = s.orderTable.sizes
  | .windows => t.orderTable.windows = s.orderTable.windows
  | .remakeLimit => t.orderTable.remakeLimit = s.orderTable.remakeLimit
  | .classLists => t.scheduler.express = s.scheduler.express ∧ t.scheduler.standard = s.scheduler.standard
      ∧ t.scheduler.bulk = s.scheduler.bulk
  | .selection => t.scheduler.selection = s.scheduler.selection
  | .patchCadence => t.scheduler.patchCounter = s.scheduler.patchCounter
      ∧ t.scheduler.switchPatch = s.scheduler.switchPatch ∧ t.scheduler.resetPatch = s.scheduler.resetPatch
  | .magazines => t.scheduler.magA = s.scheduler.magA ∧ t.scheduler.magB = s.scheduler.magB
  | .active => t.scheduler.active = s.scheduler.active
  | .switchRequest => t.scheduler.switchRequested = s.scheduler.switchRequested
  | .leaderPending => t.scheduler.leaderPending = s.scheduler.leaderPending
  | .paperSettings => t.scheduler.leaderLength = s.scheduler.leaderLength
      ∧ t.scheduler.endReserve = s.scheduler.endReserve
  | .attemptCause => t.scheduler.attemptCause = s.scheduler.attemptCause
  | .work => t.resampler.work = s.resampler.work
  | .rows => t.resampler.rowA = s.resampler.rowA ∧ t.resampler.rowB = s.resampler.rowB
  | .gains => t.resampler.gains = s.resampler.gains
  | .fetch => t.fetch.inFlight = s.fetch.inFlight ∧ t.fetch.timer = s.fetch.timer
  | .nextTag => t.fetch.nextTag = s.fetch.nextTag
  | .lastFault => t.fetch.lastFault = s.fetch.lastFault ∧ t.fetch.faultCount = s.fetch.faultCount
  | .frameSent => t.fetch.frameSent = s.fetch.frameSent
  | .rasterLink => t.fetch.link = s.fetch.link
  | .lineQueue => t.channel.queue = s.channel.queue
  | .exposure => t.channel.exposure = s.channel.exposure
  | .enables => t.channel.enabled = s.channel.enabled
  | .repeatTolerance => t.channel.repeatTolerance = s.channel.repeatTolerance
  | .heads => t.channel.heads = s.channel.heads ∧ t.channel.lastStrobeEnded = s.channel.lastStrobeEnded
  | .offsets => t.density.offsets = s.density.offsets ∧ t.density.implausible = s.density.implausible
  | .densityFault => t.density.fault = s.density.fault
  | .densitySettings => t.density.targets = s.density.targets ∧ t.density.a = s.density.a ∧ t.density.q = s.density.q
      ∧ t.density.k = s.density.k
  | .patchUnread => t.density.patchUnread = s.density.patchUnread
  | .lastReading => t.density.lastReading = s.density.lastReading
  | .map => t.web.map = s.web.map
  | .odometer => t.web.odometer = s.web.odometer
  | .lpath => t.web.lpath = s.web.lpath
  | .transport => t.web.transport = s.web.transport
  | .stallTime => t.web.stallTime = s.web.stallTime
  | .stall => t.web.stage = s.web.stage ∧ t.web.stall = s.web.stall
  | .webFault => t.web.fault = s.web.fault
  | .unlisted => t.web.unlisted = s.web.unlisted
  | .cuts => t.web.cutsTaken = s.web.cutsTaken ∧ t.web.lastCut = s.web.lastCut
  | .leaderTarget => t.web.leaderTarget = s.web.leaderTarget
  | .mark => t.web.mark = s.web.mark
  | .bins => t.sort.bins = s.sort.bins
  | .trayCount => t.sort.trayCount = s.sort.trayCount
  | .rejectCount => t.sort.rejectCount = s.sort.rejectCount
  | .uncollectedTime => t.sort.uncollectedTime = s.sort.uncollectedTime
  | .tariff => t.price.tariff = s.price.tariff ∧ t.price.surcharges = s.price.surcharges
  | .tariffLock => t.price.lock = s.price.lock
  | .amendment => t.price.amendment = s.price.amendment
  | .totals => t.price.totals = s.price.totals
  | .closedDay => t.price.closedDay = s.price.closedDay
  | .port link => t.port link = s.port link
  | .mask link => (t.links.unit link).mask = (s.links.unit link).mask
  | .timeBase => t.timeBase = s.timeBase
  | .freeCount => t.freeCount = s.freeCount
  | .pending => t.pending = s.pending

/-- Every part outside those listed is unchanged. -/
def OnlyChanges (parts : List Part) (s t : State) : Prop := ∀ p, p ∉ parts → Same s t p

/-- Every order record but the one in a slot is unchanged. -/
def OtherOrdersSame (slot : Nat) (s t : State) : Prop := ∀ k, k ≠ slot → t.order? k = s.order? k

/-! ## What a command leaves, in the terms of the statements -/

/-- The command is answered with the bare status of a refusal, and nothing else in the device changes (R184, R186). -/
def RefusedWith (c : Instr) (s : State) (link : Link) (status : Status) : Prop :=
  ∃ t, exec c s = .next t ∧ Replied t link status [] ∧ OnlyChanges [.port link] s t

/-- The ticket field of a request that names an order. -/
def ticketField : Instr → Option Word16
  | .addItem _ t _ _ _ _ _ _ _ | .submit _ t | .hold _ t | .release _ t | .cancel _ t | .readItem _ t _ | .readPrice _ t _
  | .amendOpen _ t | .amendSet _ t _ _ | .amendCommit _ t | .amendDrop _ t | .collect _ t | .collectPartial _ t
  | .readOrder _ t => some t
  | .powerOnReset | .warmReset | .selectAsserted _ | .selectReleased _ | .unknownRequest _ _ _ _ | .openOrder _ _
  | .writeSize _ _ _ _ _ _ _ | .readSize _ _ | .setWindows _ _ _ _ | .setRemakeLimit _ _ | .loadRoll _ _ _ _ _
  | .unloadRoll _ _ | .magazineSwitched _ _ | .transport _ _ | .cut _ | .patchReading _ _ _ _ | .headFault _ _
  | .headReady _ _ | .binEmptied _ _ | .trayEmptied _ | .webCleared _ | .densityReset _ | .setWeb _ _ _ _ _
  | .setDensity _ _ _ _ _ _ _ _ _ _ _ | .setBin _ _ _ _ | .readWeb _ _ _ | .readMagazine _
  | .writeTariff _ _ _ _ _ _ _ _ | .lockTariff _ | .closeDay _ | .readClosedDay _ | .readTotals _
  | .setUncollectedTime _ _ | .readBin _ _ | .readAttention _ | .setMask _ _ | .lineStrobe | .windowExpiry _
  | .fetchTimeout | .stallFirstExpiry | .stallSecondExpiry | .uncollectedExpiry _ | .rowFetch | .rowData _ _
  | .rowFault _ _ | .rasterFrameUnreadable _ _ | .selectionAttempt | .lineProduced | .linkByteComplete _ _
  | .timeBaseTick => none

/-- Every item record outside those listed is unchanged. -/
def OtherItemsSame (refs : List Nat) (s t : State) : Prop :=
  ∀ r, r ∉ refs → Table.get? t.orderTable.items r = Table.get? s.orderTable.items r

/-- Every bin outside those listed is unchanged. -/
def OtherBinsSame (bins : List Nat) (s t : State) : Prop :=
  ∀ n, n ∉ bins → Table.get? t.sort.bins n = Table.get? s.sort.bins n

/-- R68, R79: the Resampler is idle, both row slots are empty and no fetch is in flight. -/
def WorkEnded (t : State) : Prop :=
  t.resampler.work = none ∧ t.resampler.rowA = none ∧ t.resampler.rowB = none ∧ t.fetch.inFlight = none
    ∧ t.fetch.timer = none

/-- The Resampler's work, the rows it holds and the fetch in flight are unchanged. -/
def WorkSame (s t : State) : Prop := Same s t .work ∧ Same s t .rows ∧ Same s t .fetch

/-- R43: what becomes of the standing selection, its lines, its work and its fetch, where an event voids it and where it
does not. -/
def VoidedIf (voids : Prop) [Decidable voids] (s t : State) : Prop :=
  if voids ∧ s.scheduler.selection.isSome = true then
    t.scheduler.selection = none
      ∧ t.channel.queue = s.channel.queue.filter (fun l => l.owner != .selection)
      ∧ (if s.resampler.worksForSelection then WorkEnded t else WorkSame s t)
  else Same s t .selection ∧ Same s t .lineQueue ∧ WorkSame s t

/-- R32: a slot stands no longer in the list of its class; the other lists are unchanged. -/
def RemovedFromList (c : OrderClass) (slot : Nat) (s t : State) : Prop :=
  ∀ k, t.scheduler.classList k =
    if k = c then (s.scheduler.classList k).filter (fun x => x != slot) else s.scheduler.classList k

/-- R32: a slot stands at the tail of the list of its class if `joins`; the other lists are unchanged. -/
def AppendedToListIf (joins : Prop) [Decidable joins] (c : OrderClass) (slot : Nat) (s t : State) : Prop :=
  ∀ k, t.scheduler.classList k =
    if k = c ∧ joins then s.scheduler.classList k ++ [slot] else s.scheduler.classList k

/-- R118: the segment of the print or patch being exposed is suspect; where none is, nothing is marked. -/
def ExposedMarkedSuspect (s t : State) : Prop :=
  (s.exposing = false → t.web.map = s.web.map)
    ∧ (∀ ahead g, s.exposing = true → s.web.map = ahead ++ [g] → t.web.map = ahead ++ [{ g with suspect := true }])

/-- R24: an order's record and its item records are free; every other record is unchanged. -/
def RecordFreed (slot : Nat) (o : Order) (s t : State) : Prop :=
  t.order? slot = none ∧ OtherOrdersSame slot s t
    ∧ (∀ r ∈ o.items, Table.get? t.orderTable.items r = none) ∧ OtherItemsSame o.items s t

/-- R150: the bins of a list released to CLEARANCE or to FREE. -/
def BinsReleased (bins : List Nat) (s t : State) : Prop :=
  (∀ n ∈ bins, ∀ b, Table.get? s.sort.bins n = some b →
      Table.get? t.sort.bins n = some
        (if b.count > 0 then { b with state := .clearance, owner := none, timer := none, uncollected := false }
          else { b with state := .free, ticket := none, owner := none, timer := none, uncollected := false }))
    ∧ OtherBinsSame bins s t

/-- R205: the raster source's answers and the timer's expiry that are a raster fault of the fetch in flight, each with the
cause recorded (R77, R78). -/
def IsRasterFault (s : State) (f : Fetch) : Instr → FaultCause → Prop
  | .rowFault tag reason, cause =>
    tag = f.tag ∧ cause = .rowFault (if 1 ≤ reason.toNat ∧ reason.toNat ≤ 15 then reason.toNat else 15)
  | .rowData tag pixels, cause =>
    tag = f.tag ∧ 1 ≤ pixels.length ∧ pixels.length ≤ 16384 ∧ pixels.length ≠ f.expected ∧ cause = .wrongLength
  | .fetchTimeout, cause => (∃ e, s.fetch.timer = some e ∧ 0 ≤ signedDiff s.timeBase e) ∧ cause = .timeout
  | _, _ => False

/-- R200: the reply length M of a taken request with these field bytes. -/
def replyLength (code : RequestCode) (fields : List Byte) : Nat :=
  match code with
  | .openOrder => 3 | .addItem => 1 | .submit => 4 | .hold => 1 | .release => 1 | .cancel => 1 | .readItem => 22
  | .writeSize => 8 | .readSize => 8 | .setWindows => 6 | .setRemakeLimit => 1
  | .loadRoll => 8 | .unloadRoll => 8 | .magazineSwitched => 0 | .transport => 0 | .cut => 20 | .patchReading => 21
  | .headFault => 0 | .headReady => 0 | .binEmptied => 1 | .trayEmptied => 0 | .webCleared => 3 | .densityReset => 0
  | .setWeb => 10 | .setDensity => 18 | .setBin => 3
  | .readWeb =>
    if fields[1]? = some 0#8 then 52 else if fields[1]? = some 1#8 then 21 else if fields[1]? = some 2#8 then 24
    else if fields[1]? = some 3#8 then 22 else 29
  | .readMagazine => 21
  | .readPrice => if fields[2]? = some 255#8 then 17 else 30
  | .amendOpen => 14 | .amendSet => 12 | .amendCommit => 12 | .amendDrop => 8 | .collect => 4 | .collectPartial => 5
  | .writeTariff => 0 | .lockTariff => 0 | .closeDay => 2 | .readClosedDay => 16 | .readTotals => 19
  | .setUncollectedTime => 2 | .readBin => 16
  | .readOrder => 31 | .readAttention => 10 | .setMask => 2

/-- R3: the ticket OPEN ORDER assigns, the first from the counter's value on, 9,999 before 1, that no record in use
holds. -/
def AssignsTicket (s : State) (ticket : Nat) : Prop :=
  ∃ j, ticket = (s.orderTable.nextTicket - 1 + j) % 9999 + 1 ∧ s.orderTable.findTicket ticket = none
    ∧ ∀ i, i < j → s.orderTable.findTicket ((s.orderTable.nextTicket - 1 + i) % 9999 + 1) ≠ none

/-- What a withdrawal leaves of an order (R19, steps 2, 4 and 5; R23). -/
def Withdrawn (o : Order) (requester : Requester) (partially notice : Bool) : Order :=
  { o with state := .withdrawn, requester := requester, collectedPartial := o.collectedPartial || partially
           completeUnreported := false, paperWait := none, bins := [], cancelNotice := o.cancelNotice || notice }

/-- R19: every waiting copy of an order's items is written off; the other items are unchanged. -/
def WaitingWrittenOff (o : Order) (s t : State) : Prop :=
  (∀ r ∈ o.items, ∀ i, Table.get? s.orderTable.items r = some i →
      Table.get? t.orderTable.items r = some { i with waiting := 0, writtenOff := i.writtenOff + i.waiting })
    ∧ OtherItemsSame o.items s t

/-- R19, step 3; R43, R68, R85, R88: what a withdrawal does to the selection, the work and the lines of its order: a
selected print is voided, a print being exposed is blanked and its work, or a trailing work of the order, is aborted. -/
def WithdrawalStopsExposure (slot : Nat) (s t : State) : Prop :=
  (t.scheduler.selection = if s.scheduler.selects slot = true then none else s.scheduler.selection)
    ∧ (if (s.scheduler.selects slot = true ∧ s.resampler.worksForSelection = true)
          ∨ (∃ w, s.resampler.work = some w ∧ w.owner ≠ .selection ∧ w.slot? = some slot) then WorkEnded t
        else WorkSame s t)
    ∧ t.channel.queue = s.channel.queue.filter (fun l =>
        !(s.scheduler.selects slot && l.owner == .selection)
          && !(s.exposing && s.web.exposedSlot? == some slot && l.owner == .exposed))
    ∧ t.channel.exposure = (if s.web.exposedSlot? = some slot then
        s.channel.exposure.map (fun e => { e with blanked := true }) else s.channel.exposure)

/-- R117, R128: the map after its first segments are popped: a present unlisted stretch becomes an open BLANK at the tail once
the map has room, and a map left empty stops the stall monitor. -/
def Popped (left : List Segment) (s t : State) : Prop :=
  t.web.map = left ++ (match s.web.unlisted with
      | some u => if left.length < 128 then
          [{ kind := .blank, start := u.start, length := u.length, closed := false, suspect := false, split := false
             merged := false, spoiled := false, read := false, preReset := false }] else []
      | none => [])
    ∧ (t.web.map = [] → t.web.stage = .off ∧ t.web.stall = false) ∧ (t.web.map ≠ [] → Same s t .stall)

/-! ## Selection attempts (R36 to R40) -/

/-- R37: the next print of an order is this item with its size entry: the first item in order of item number with waiting
above 0 and faulted clear. -/
def HasNextPrint (s : State) (slot n : Nat) (i : Item) (e : SizeEntry) : Prop :=
  ∃ o r, s.order? slot = some o ∧ o.items[n]? = some r ∧ Table.get? s.orderTable.items r = some i ∧ i.waiting ≠ 0
    ∧ i.faulted = false ∧ Table.get? s.orderTable.sizes i.sizeIndex = some e
    ∧ ∀ k q j, k < n → o.items[k]? = some q → Table.get? s.orderTable.items q = some j → j.waiting = 0 ∨ j.faulted = true

/-- R38: a print fits a magazine. -/
def FitsPaper (m : MagazineRecord) (endReserve : Nat) (i : Item) (e : SizeEntry) : Prop :=
  m.present = true ∧ m.width = e.paperWidth ∧ m.surface = i.surface ∧ e.lp + endReserve ≤ m.remaining

/-- R34: the start conditions. -/
def StartConditions (s : State) : Prop :=
  s.web.transport = .run ∧ (∃ m, s.scheduler.active = some m ∧ (s.scheduler.magazine m).present = true)
    ∧ (∀ c, s.channel.enabled.get c = true) ∧ s.web.lpath ≠ 0 ∧ s.web.fault = none ∧ s.density.fault = false
    ∧ s.web.stall = false ∧ s.web.map.length < 128 ∧ s.scheduler.switchRequested = none

/-- R36: a patch is due. -/
def PatchDue (s : State) : Prop :=
  s.density.k ≠ 0
    ∧ (s.density.k ≤ s.scheduler.patchCounter ∨ s.scheduler.switchPatch = true ∨ s.scheduler.resetPatch = true)

/-- R33, R35: an attempt is made now. -/
def AttemptMade (s : State) : Prop :=
  s.scheduler.selection = none ∧ s.resampler.work = none ∧ StartConditions s ∧ s.scheduler.attemptCause = true

/-- R36: no patch is due, or none fits the active magazine. -/
def NoPatchTaken (s : State) (active : Magazine) : Prop :=
  ¬ PatchDue s ∨ (s.scheduler.magazine active).remaining < 100 + s.scheduler.endReserve

/-- The classes scanned before a class (R39). -/
def OrderClass.above : OrderClass → List OrderClass
  | .express => []
  | .standard => [.express]
  | .bulk => [.express, .standard]

/-- R39, step 2: the leading order of a class, the first with a next print, and that print. -/
def Leads (s : State) (c : OrderClass) (slot n : Nat) (i : Item) (e : SizeEntry) : Prop :=
  ∃ ahead rest, s.scheduler.classList c = ahead ++ slot :: rest ∧ (∀ k ∈ ahead, ∀ m j d, ¬ HasNextPrint s k m j d)
    ∧ HasNextPrint s slot n i e

/-- No order of a class has a next print that fits the active magazine. -/
def NoneFits (s : State) (active : Magazine) (slots : List Nat) : Prop :=
  ∀ k ∈ slots, ∀ n i e, HasNextPrint s k n i e →
    ¬ FitsPaper (s.scheduler.magazine active) s.scheduler.endReserve i e

/-- R39, steps 1 to 4: the scan goes on past a class: no order of it fits the active magazine, and its leading order, if it
has one, does not fit the other magazine either. -/
def PassedOver (s : State) (active : Magazine) (c : OrderClass) : Prop :=
  NoneFits s active (s.scheduler.classList c)
    ∧ ∀ slot n i e, Leads s c slot n i e →
        ¬ FitsPaper (s.scheduler.magazine active.other) s.scheduler.endReserve i e

/-- R40: the leading orders of these classes, and no others but those of a list, are changed: each takes the paper-wait mark
with the paper it needs. -/
def LeadersMarked (classes : List OrderClass) (others : List Nat) (s t : State) : Prop :=
  (∀ c ∈ classes, ∀ k n i e, Leads s c k n i e → t.order? k =
      (s.order? k).map fun o => { o with paperWait := some { width := e.paperWidth, surface := i.surface } })
    ∧ ∀ k, k ∉ others → (∀ c ∈ classes, ∀ n i e, ¬ Leads s c k n i e) → t.order? k = s.order? k

/-! ## Lines (R61 to R72) -/

/-- R66: a row slot holds the row of this index. -/
def RowHeld (s : State) (index : Nat) (row : Row) : Prop :=
  row.index = index
    ∧ (s.resampler.rowA = some row
      ∨ s.resampler.rowB = some row ∧ ∀ a, s.resampler.rowA = some a → a.index ≠ index)

/-- R61: a source position lies inside a dimension of so many pixels. -/
def Inside (dim : Nat) (position : Int) : Prop := 0 ≤ position ∧ position < dim * 65536

/-- R63: a position held to the image. -/
def held (dim : Nat) (position : Int) : Nat := (max 0 (min ((dim : Int) * 65536 - 1) position)).toNat

/-- R64, R65: the neighbour of a pixel or row, the last one its own. -/
def neighbour (dim k : Nat) : Nat := if k + 1 = dim then k else k + 1

/-- R64: a row's component on a channel, blended between the pixel under a position and its neighbour by the position's
eight-bit fraction. -/
def columnValue (row : Row) (c : Fin 3) (dim x : Nat) : Nat :=
  let sample := fun k => ((row.pixels[k]?).map fun p =>
    match c with
    | 0 => p.c0.toNat
    | 1 => p.c1.toNat
    | 2 => p.c2.toNat).getD 0
  (sample (x / 65536) * (256 - x % 65536 / 256) + sample (neighbour dim (x / 65536)) * (x % 65536 / 256) + 128) / 256

/-- R62: output row k of a print is a border row. -/
def IsBorder (p : PrintJob) (k : Nat) : Prop :=
  p.mode = .fit ∧ ¬ Inside p.geometry.hsN (p.geometry.oy + k * p.geometry.step)

/-- R62 to R72: these are the codes of the next line of a work, with the gains and offsets of this moment. -/
def LineCodes (s : State) (w : Work) (codes : Codes) : Prop :=
  match w.job with
  | .patch width => ∀ c, (codes.get c).map BitVec.toNat =
      List.replicate width (max 0 (min 1023 ((s.density.targets.get c : Int) + s.density.offsets.get c))).toNat
  | .print p =>
    let y : Int := p.geometry.oy + w.nextLine * p.geometry.step
    let r := held p.geometry.hsN y / 65536
    (IsBorder p w.nextLine → ∀ c, (codes.get c).map BitVec.toNat = List.replicate p.wp 0)
      ∧ (¬ IsBorder p w.nextLine →
        ∃ lo hi, RowHeld s r lo ∧ RowHeld s (neighbour p.geometry.hsN r) hi
          ∧ ∀ c, (codes.get c).length = p.wp
            ∧ ∀ (j : Nat) (x : Int) (f v : Nat) (code : Code), (codes.get c)[j]? = some code →
                x = p.geometry.ox + j * p.geometry.step → f = held p.geometry.hsN y % 65536 / 256 →
                v = (columnValue lo c p.geometry.wsN (held p.geometry.wsN x) * (256 - f)
                  + columnValue hi c p.geometry.wsN (held p.geometry.wsN x) * f + 128) / 256 →
                (p.mode = .fit → ¬ Inside p.geometry.wsN x → code = 0)
                  ∧ (p.mode = .fill ∨ Inside p.geometry.wsN x →
                      (code.toNat : Int) = max 0 (min 1023
                        ((((255 - v) * s.resampler.gains.get c + 64) / 128 : Nat) + s.density.offsets.get c))))

/-- R66: the next image line of a print from an output row on, the first row that is not a border row. -/
def NextImageLine (p : PrintJob) (k line : Nat) : Prop :=
  k ≤ line ∧ line < p.lp ∧ ¬ IsBorder p line ∧ ∀ j, k ≤ j → j < line → IsBorder p j

/-- R66: the rows the next image line of a work needs; a patch needs none. -/
def NeedsRows (w : Work) (lo hi : Nat) : Prop :=
  ∃ p line, w.job = .print p ∧ NextImageLine p w.nextLine line
    ∧ lo = held p.geometry.hsN (p.geometry.oy + line * p.geometry.step) / 65536 ∧ hi = neighbour p.geometry.hsN lo

/-- R66, R76: what the Resampler does about the rows a work's next image line needs. A held row that is not needed is dropped
and a needed one stays, in both slots where it is needed twice; the lowest needed row not held is then in flight under the
next tag, not yet sent, unless a fetch is in flight already. -/
def RowsSeenTo (w : Work) (s t : State) : Prop :=
  ((∀ lo hi, ¬ NeedsRows w lo hi) →
      t.resampler.rowA = none ∧ t.resampler.rowB = none ∧ Same s t .fetch ∧ Same s t .nextTag)
    ∧ ∀ p lo hi a b, w.job = .print p → NeedsRows w lo hi →
        a = s.resampler.rowA.filter (fun r => r.index == lo || r.index == hi) →
        b = s.resampler.rowB.filter (fun r => r.index == lo || r.index == hi) →
        t.resampler.rowA = (if lo = hi then a.or b else a) ∧ t.resampler.rowB = (if lo = hi then b.or a else b)
          ∧ (s.fetch.inFlight.isSome = true ∨ ((∃ r, RowHeld s lo r) ∧ ∃ r, RowHeld s hi r) →
              Same s t .fetch ∧ Same s t .nextTag)
          ∧ ∀ row, s.fetch.inFlight = none → (∀ r, ¬ RowHeld s row r) →
              row = lo ∨ (row = hi ∧ ∃ r, RowHeld s lo r) →
              t.fetch.inFlight = some { tag := s.fetch.nextTag, handle := p.handle, level := p.geometry.level, row := row
                                        expected := p.geometry.wsN }
                ∧ t.fetch.timer = none ∧ t.fetch.nextTag = s.fetch.nextTag + 1

/-! ## Geometry (R57 to R60) -/

/-- A quotient rounded up: the least number whose product with the divisor reaches the dividend. -/
def IsCeiling (dividend divisor quotient : Nat) : Prop :=
  dividend ≤ quotient * divisor ∧ ∀ k, dividend ≤ k * divisor → quotient ≤ k

/-- R57: the step of a source of w by h pixels on a print of wp by lp: the smaller ratio rounded down in FILL, the larger
rounded up in FIT. -/
def IsStep (mode : Mode) (w h wp lp step : Nat) : Prop :=
  match mode with
  | .fill => step = min (w * 65536 / wp) (h * 65536 / lp)
  | .fit => ∃ across along, IsCeiling (w * 65536) wp across ∧ IsCeiling (h * 65536) lp along ∧ step = max across along

/-- R57 to R60: the geometry of a print: the fetch level of step0, the dimensions served at it, the final step clamped, and
the offsets that centre the print, truncated toward zero. -/
def IsGeometry (mode : Mode) (ws hs wp lp : Nat) (g : Geometry) : Prop :=
  ∃ step0 step, IsStep mode ws hs wp lp step0
    ∧ g.level = (if step0 < 131072 then 0 else if step0 < 262144 then 1 else if step0 < 524288 then 2 else 3)
    ∧ g.wsN = max 1 (ws / 2 ^ g.level) ∧ g.hsN = max 1 (hs / 2 ^ g.level)
    ∧ IsStep mode g.wsN g.hsN wp lp step ∧ g.step = max 4096 (min 1048576 step)
    ∧ g.ox = ((g.wsN : Int) * 65536 - (g.step : Int) * wp).tdiv 2
    ∧ g.oy = ((g.hsN : Int) * 65536 - (g.step : Int) * lp).tdiv 2

/-! ## The raster link (R205) -/

/-- R205: no ROW FETCH goes before a reply frame now: one is being clocked in, or the link is idle with no fetch waiting to be
sent. -/
def NothingToSend (s : State) : Prop :=
  s.fetch.link.phase = .receiving
    ∨ s.fetch.link.phase = .idle ∧ (s.fetch.inFlight = none ∨ s.fetch.timer.isSome = true)

/-- The raster link once a reply frame has been read: idle, with ready to be looked at afresh (log entry 27). -/
def LinkReleased (t : State) : Prop := t.fetch.link = { phase := .idle, ready := false }

/-- R205: the header of a frame that cannot be read as ROW DATA or ROW FAULT. -/
def CannotBeRead (code : Byte) (count : Word16) : Prop :=
  (code ≠ 0x81#8 ∧ code ≠ 0x82#8) ∨ (code = 0x81#8 ∧ (count.toNat = 0 ∨ 16384 < count.toNat))

/-! ## Strobes (R42, R86, R121, R122) -/

/-- R86: the lines of the standing selection stand as its beginning asks. -/
def LinesStand (s : State) (lineCount : Nat) : Prop :=
  if s.channel.lastStrobeEnded = true then
    ∃ l rest, s.channel.queue = l :: rest ∧ l.owner = .selection ∧ l.number = 0
  else min 4 lineCount ≤ s.channel.queue.countP (fun l => l.owner == .selection)

/-- R42, R52, R86: Channel Output would begin a selection of so many lines at this strobe, its fit apart. A pending leader of
length 0 is discarded first (log entry 9). -/
def WouldBegin (s : State) (lineCount : Nat) : Prop :=
  StartConditions s ∧ (s.scheduler.leaderPending = true → s.scheduler.leaderLength = 0) ∧ s.web.leaderExposed = false
    ∧ s.channel.exposure = none ∧ LinesStand s lineCount

/-- R42: the standing selection would begin at this strobe, and it fits the active magazine if `fits` holds and does not
otherwise. -/
def SelectionTested (s : State) (fits : Bool) : Prop :=
  ∃ active, s.scheduler.active = some active
    ∧ ((s.scheduler.selection = some .patch ∧ WouldBegin s 100
          ∧ (fits = true ↔ 100 + s.scheduler.endReserve ≤ (s.scheduler.magazine active).remaining))
      ∨ (∃ slot n copy o r i e, s.scheduler.selection = some (.print slot n copy) ∧ s.order? slot = some o
          ∧ o.items[n]? = some r ∧ Table.get? s.orderTable.items r = some i
          ∧ Table.get? s.orderTable.sizes i.sizeIndex = some e ∧ WouldBegin s e.lp
          ∧ (fits = true ↔ FitsPaper (s.scheduler.magazine active) s.scheduler.endReserve i e)))

/-- R35: a command calls for a new attempt: an order joins or leaves a class list, a copy is remade, an item is added to a
listed order, LOAD ROLL or MAGAZINE SWITCHED is taken, the end reserve changes, a patch becomes due, a standing selection is
voided (and does not begin), the start conditions come to hold, or the last line of a work is produced. -/
def AttemptCalledFor (c : Instr) (s t : State) : Prop :=
  (∃ k, t.scheduler.classList k ≠ s.scheduler.classList k)
    ∨ (∃ r i j, Table.get? s.orderTable.items r = some i ∧ Table.get? t.orderTable.items r = some j
        ∧ i.remakesUsed < j.remakesUsed)
    ∨ (∃ k slot o o', slot ∈ s.scheduler.classList k ∧ s.order? slot = some o ∧ t.order? slot = some o'
        ∧ o.items.length < o'.items.length)
    ∨ (∃ code fields status out, c.request = some (.engine, code, fields) ∧ (code = .loadRoll ∨ code = .magazineSwitched)
        ∧ Taking s .engine code fields ∧ Replied t .engine status out ∧ (status = .ok ∨ status = .clamped))
    ∨ t.scheduler.endReserve ≠ s.scheduler.endReserve
    ∨ (¬ PatchDue s ∧ PatchDue t)
    ∨ (s.scheduler.selection.isSome = true ∧ t.scheduler.selection = none ∧ ¬ (c = .lineStrobe ∧ SelectionTested s true))
    ∨ (¬ StartConditions s ∧ StartConditions t)
    ∨ (c = .lineProduced ∧ s.resampler.work.isSome = true ∧ t.resampler.work = none)

/-- R121, R122: missed-cut detection at a position merges the closed segments from the head whose expected end lies 26 WU or
more behind, up to the first segment that is neither merged nor so. -/
def PassedMerged (lpath : Nat) (position : Word32) (map after : List Segment) : Prop :=
  ∃ passed left, map = passed ++ left ∧ after = passed.map (fun k => { k with merged := true }) ++ left
    ∧ (∀ k ∈ passed, k.merged = true
        ∨ k.closed = true ∧ 26 ≤ signedDiff position (k.start + BitVec.ofNat 32 (k.length + lpath)))
    ∧ (∀ k rest, left = k :: rest → k.merged = false
        ∧ (k.closed = false ∨ signedDiff position (k.start + BitVec.ofNat 32 (k.length + lpath)) ≤ 25))

/-- R121: a map has no reference end: the first segment not merged, if there is one, is open. -/
def NoReference (map : List Segment) : Prop :=
  ∀ ahead k rest, map = ahead ++ k :: rest → (∀ g ∈ ahead, g.merged = true) → k.merged = false → k.closed = false

/-- A print, a patch or a leader is open at the tail of a map. -/
def ExposedTail (map : List Segment) : Prop := ∃ ahead g, map = ahead ++ [g] ∧ g.closed = false ∧ g.kind ≠ .blank

/-- R122: detection that takes one map to another loses synchronism: it has merged a segment (log entry 12), the map is full
and has no reference end, and nothing is being exposed. -/
def LosesSync (s : State) (map after : List Segment) : Prop :=
  s.web.fault = none ∧ after ≠ map ∧ NoReference after ∧ after.length = 128 ∧ ¬ ExposedTail after

/-- R131, R92: WEB FAULT with cause SYNC LOST has been raised over this map. -/
def SyncLost (after : List Segment) (t : State) : Prop :=
  t.web.fault = some .syncLost ∧ t.web.map = after.map (fun g => { g with spoiled := true }) ∧ WorkEnded t
    ∧ t.scheduler.selection = none ∧ t.channel.queue = [] ∧ t.channel.exposure = none
    ∧ t.scheduler.leaderPending = false

/-! ## Copies that leave the web undelivered (R14, R133) -/

/-- A PRINT segment of an order's item. -/
def Segment.isPrintOf (slot n : Nat) (g : Segment) : Bool :=
  match g.kind with
  | .print k m _ => k == slot && m == n
  | .patch | .leader | .blank => false

/-- A PRINT segment of an order. -/
def Segment.isPrintFrom (slot : Nat) (g : Segment) : Bool :=
  match g.kind with
  | .print k _ _ => k == slot
  | .patch | .leader | .blank => false

/-- R14: how many of a number of an item's copies are remade. -/
def Item.remadeOf (i : Item) (limit : Nat) (state : OrderState) (copies : Nat) : Nat :=
  if i.faulted = true ∨ state = .withdrawn then 0 else min copies (limit - i.remakesUsed)

/-- R13, R14: an item after a number of its copies have left the web undelivered. -/
def Item.disposed (i : Item) (limit : Nat) (state : OrderState) (copies : Nat) : Item :=
  { i with
    onWeb := i.onWeb - copies
    waiting := i.waiting + i.remadeOf limit state copies
    remakesUsed := i.remakesUsed + i.remadeOf limit state copies
    writtenOff := i.writtenOff + (copies - i.remadeOf limit state copies) }

/-- The items of an order, by item number, after the copies of these segments have left the web undelivered. -/
def itemsAfter (s : State) (segs : List Segment) (slot : Nat) (o : Order) : List Item :=
  (List.range o.items.length).filterMap fun n =>
    ((o.items[n]?).bind (Table.get? s.orderTable.items)).map fun i =>
      i.disposed s.orderTable.remakeLimit o.state (segs.countP (Segment.isPrintOf slot n))

/-- R15: an order of which these segments carry a copy is complete once they have left the web undelivered. -/
def completesBy (s : State) (segs : List Segment) (slot : Nat) (o : Order) : Bool :=
  segs.any (Segment.isPrintFrom slot) && (o.state == .ready || o.state == .inPrint || o.state == .held)
    && (itemsAfter s segs slot o).all fun i => i.waiting == 0 && i.onWeb == 0

/-- R21: a WITHDRAWN order of which these segments carry a copy has none on the web once they have left it. -/
def drainsBy (s : State) (segs : List Segment) (slot : Nat) (o : Order) : Bool :=
  segs.any (Segment.isPrintFrom slot) && o.state == .withdrawn
    && (itemsAfter s segs slot o).all fun i => i.onWeb == 0

/-- R15, R21, R32: an order record after these copies have left the web; none where it is freed. -/
def orderAfter (s : State) (segs : List Segment) (slot : Nat) (o : Order) : Option Order :=
  if completesBy s segs slot o then some { o with state := .complete, completeUnreported := true, paperWait := none }
  else if drainsBy s segs slot o then
    if o.requester ≠ .nobody then some { o with cancelNotice := true }
    else if o.collectedPartial then none
    else some o
  else some o

/-- How many of the copies of these segments are remade. -/
def remadeIn (s : State) (segs : List Segment) : Nat :=
  (s.orderTable.orders.map fun p => ((List.range p.2.items.length).map fun n =>
    match (p.2.items[n]?).bind (Table.get? s.orderTable.items) with
    | some i => i.remadeOf s.orderTable.remakeLimit p.2.state (segs.countP (Segment.isPrintOf p.1 n))
    | none => 0).sum).sum

/-- R146: a bin of an order that completes; its uncollected timer starts unless the uncollected time is 0. -/
def Bin.afterCompletion (s : State) (b : Bin) : Bin :=
  if b.state = .filling ∨ b.state = .full then
    { b with
      state := .waiting
      timer := if s.sort.uncollectedTime = 0 then none
        else some (s.timeBase + BitVec.ofNat 32 (s.sort.uncollectedTime * 60000)) }
  else b

/-- R13, R14, R15, R21, R24, R32, R146: what becomes of the orders, the items, the class lists and the bins when the copies of
these segments leave the web undelivered. -/
def CopiesDisposed (segs : List Segment) (s t : State) : Prop :=
  (∀ slot, t.order? slot = (s.order? slot).bind (orderAfter s segs slot))
    ∧ (∀ slot o n r i, s.order? slot = some o → o.items[n]? = some r → Table.get? s.orderTable.items r = some i →
        Table.get? t.orderTable.items r = if (orderAfter s segs slot o).isSome then
          some (i.disposed s.orderTable.remakeLimit o.state (segs.countP (Segment.isPrintOf slot n))) else none)
    ∧ (∀ c, t.scheduler.classList c = (s.scheduler.classList c).filter fun k =>
        !((s.order? k).any fun o => o.cls == c && completesBy s segs k o))
    ∧ (∀ n, Table.get? t.sort.bins n = (Table.get? s.sort.bins n).map fun b =>
        if s.orderTable.orders.any (fun p => completesBy s segs p.1 p.2 && p.2.bins.contains n) then
          b.afterCompletion s else b)

/-- Each PRINT of these segments is counted on web in the item record of an order in use. -/
def CopiesOnWeb (segs : List Segment) (s : State) : Prop :=
  ∀ g ∈ segs, ∀ slot n copy, g.kind = .print slot n copy →
    ∃ o r i, s.order? slot = some o ∧ o.items[n]? = some r ∧ Table.get? s.orderTable.items r = some i
      ∧ segs.countP (Segment.isPrintOf slot n) ≤ i.onWeb

/-- A trailing work of an order's print is being done (R84). -/
def TrailingWorkOf (s : State) (slot : Nat) : Prop :=
  ∃ w start, s.resampler.work = some w ∧ w.owner = .trailing start ∧ w.slot? = some slot

/-- R15, R68, R79: a trailing work of an order that completes is aborted; any other work goes on. -/
def TrailingEndsWith (completes : Nat → Prop) (s t : State) : Prop :=
  ((∃ slot, completes slot ∧ TrailingWorkOf s slot) → WorkEnded t)
    ∧ ((∀ slot, completes slot → ¬ TrailingWorkOf s slot) → WorkSame s t)

/-- The orders that complete when the copies of these segments leave the web undelivered. -/
def CompletesBy (segs : List Segment) (s : State) (slot : Nat) : Prop :=
  ∃ o, s.order? slot = some o ∧ completesBy s segs slot o = true

/-! ## Layouts of records (R199, R201, R202, R204, R206) -/

/-- R199: flags as a number, bit 0 first. -/
def flagSum (flags : List (Nat × Bool)) : Nat := (flags.map fun f => if f.2 then 2 ^ f.1 else 0).sum

/-- R202, R204: a cut record. -/
def CutRecord.layout (r : CutRecord) : List Byte :=
  [r.outcome.toByte] ++ n8 r.destination
    ++ (match r.piece with
      | .nothing => [0, 0]
      | .single k => [1, k.toByte]
      | .group n => [2] ++ n8 n)
    ++ be32 r.odometer
    ++ (match r.deviation with
      | none => [0, 0, 0, 0, 0]
      | some d => [1] ++ i32 d)
    ++ n16 r.ticket
    ++ (match r.piece with
      | .single (.print _ item copy) => n8 item ++ n8 copy
      | _ => [0, 0])
    ++ [r.fate.toByte] ++ n8 r.remade ++ n8 r.writtenOff

/-- R204: a reading record. -/
def Reading.layout (r : Reading) : List Byte :=
  be32 r.start ++ [r.cls.toByte] ++ n8 (flagSum [(0, r.suspect), (1, r.spoiled), (2, r.preReset)])
    ++ i16 r.errors.c0 ++ i16 r.errors.c1 ++ i16 r.errors.c2 ++ i16 r.offsets.c0 ++ i16 r.offsets.c1 ++ i16 r.offsets.c2
    ++ n8 r.implausible ++ [if r.fault then 1 else 0] ++ n8 r.marked

/-- R204: a magazine record. -/
def MagazineRecord.layout (m : MagazineRecord) : List Byte :=
  n8 (flagSum [(0, m.present), (1, m.low)]) ++ n16 m.width ++ [m.surface.toByte] ++ n32 m.remaining

/-- R201: the order record of READ ORDER. -/
def orderLayout (s : State) (slot : Nat) (o : Order) : List Byte :=
  n16 o.ticket ++ n8 slot ++ [o.cls.toByte, o.state.toByte]
    ++ n16 (flagSum [(0, o.started), (1, o.windowEnded), (2, o.faulted), (3, o.paperWait.isSome), (4, o.earlyPickup),
      (5, o.pickedUp), (6, o.faultUnreported), (7, o.completeUnreported), (8, o.cancelNotice), (9, o.collectedPartial),
      (10, o.shortageUnreported), (11, s.price.amendment.any fun a => a.slot == slot)])
    ++ (match o.eligibleAt with
      | none => [255, 255, 255, 255]
      | some e => n32 (if o.windowEnded then 0 else (signedDiff e s.timeBase).toNat))
    ++ [o.requester.toByte] ++ n8 o.items.length
    ++ n8 (o.bins.getD 0 0) ++ n8 (o.bins.getD 1 0) ++ n8 (o.bins.getD 2 0) ++ n8 (o.bins.getD 3 0)
    ++ n8 o.overflow ++ n32 o.gross ++ n8 o.discount ++ i32 o.adjustment ++ n32 o.final

/-- R201: the item record of READ ITEM. -/
def Item.layout (i : Item) : List Byte :=
  be32 i.handle ++ n16 i.ws ++ n16 i.hs ++ n8 i.sizeIndex ++ [i.surface.toByte, i.mode.toByte] ++ n8 i.ordered
    ++ n8 i.waiting ++ n8 i.onWeb ++ n8 i.delivered ++ n8 i.writtenOff ++ n8 i.remakesUsed ++ n32 i.charged
    ++ n8 (flagSum [(0, i.waived), (1, i.faulted)])

/-- R201: the size entry of READ SIZE and WRITE SIZE. -/
def SizeEntry.layout (e : SizeEntry) : List Byte :=
  [if e.enabled then 1 else 0] ++ n16 e.wp ++ n16 e.lp ++ n16 e.paperWidth ++ [e.group.toByte]

/-- R202: the bin record of READ BIN. -/
def binLayout (s : State) (b : Bin) : List Byte :=
  [b.state.toByte, b.group.toByte] ++ n8 b.capacity ++ n8 b.count ++ n16 (b.ticket.getD 0) ++ n8 (b.owner.getD 255)
    ++ n8 (flagSum [(0, b.timer.isSome), (1, b.uncollected)])
    ++ n16 (match b.timer with
      | none => 0
      | some e => ((signedDiff e s.timeBase).toNat + 59999) / 60000)
    ++ n16 s.sort.trayCount ++ n16 s.sort.rejectCount ++ n16 s.sort.uncollectedTime

/-- R161: the unit price of a print of an item of an order by its size entry of the tariff: the band of the copies ordered over
all the order's items of that size, and the surcharge of the surface. -/
def priceOf (s : State) (o : Order) (i : Item) (p : TariffEntry) : Nat :=
  let count := (((o.items.filterMap (Table.get? s.orderTable.items)).filter fun j => j.sizeIndex == i.sizeIndex).map
    fun j => j.ordered).sum
  (if count < p.n1 then p.p1 else if count < p.n2 then p.p2 else p.p3)
    + (match i.surface with
      | .gloss => s.price.surcharges.gloss
      | .matt => s.price.surcharges.matt
      | .lustre => s.price.surcharges.lustre)

/-- R167, R168: the charged sums of the items of an order in a waive set that are not yet waived, added up. -/
def waivedSum (s : State) (o : Order) (waive : BitVec 24) : Nat :=
  ((List.range o.items.length).map fun n =>
    match (o.items[n]?).bind (Table.get? s.orderTable.items) with
    | some i => if waive.getLsbD n = true ∧ i.waived = false then i.charged else 0
    | none => 0).sum

/-- R202: the order part of READ PRICE. -/
def priceLayout (s : State) (slot : Nat) (o : Order) : List Byte :=
  [o.state.toByte] ++ n8 (flagSum [(0, o.collectedPartial), (1, s.price.amendment.any fun a => a.slot == slot)])
    ++ n32 o.gross ++ n8 o.discount ++ i32 o.adjustment ++ n32 o.final
    ++ n16 ((o.items.filterMap (Table.get? s.orderTable.items)).map fun i => i.delivered).sum

/-- R202: the item part of READ PRICE, with the quoted price of R173. -/
def priceItemLayout (s : State) (o : Order) (i : Item) (p : TariffEntry) : List Byte :=
  n8 i.sizeIndex ++ [i.surface.toByte] ++ n8 i.ordered ++ n8 i.delivered ++ n32 i.charged
    ++ n8 (flagSum [(0, i.waived)]) ++ n32 (if i.waived then 0 else priceOf s o i p)

/-- R202: the totals block. -/
def Totals.layout (t : Totals) : List Byte :=
  n16 t.ordersCollected ++ n16 t.printsCharged ++ n16 t.printsRejected ++ n16 t.remakesMade ++ n16 t.partialCollections
    ++ n32 t.takings

/-- R204: the segment record at a position of the map. Length bytes that cannot carry a joined stretch's length are a free
value (log entry 3). -/
def segmentLayout (s : State) (position : Nat) : List Byte :=
  match s.web.map[position]? with
  | none => List.replicate 14 0
  | some g =>
    [g.kind.toByte] ++ be32 g.start
      ++ (if g.length < 4294967296 then n32 g.length else be32 (Config.freeWord (s.freeCount + 3)))
      ++ n8 (flagSum [(0, g.closed), (1, g.suspect), (2, g.split), (3, g.merged), (4, g.spoiled), (5, g.read),
        (6, g.preReset)])
      ++ (match g.kind with
        | .print slot n copy => n16 (((s.order? slot).map fun o => o.ticket).getD 0) ++ n8 n ++ n8 copy
        | .patch | .leader | .blank => [0, 0, 0, 0])

/-- R136, R204: the reference segment's position, the reference end and d at the present odometer are these bytes; the two
words of an absent reference end are free values (log entry 3). -/
def IsReference (s : State) (bytes : List Byte) : Prop :=
  (∀ ahead k rest, s.web.map = ahead ++ k :: rest → (∀ g ∈ ahead, g.merged = true) → k.merged = false → k.closed = true →
      bytes = n8 ahead.length ++ be32 (k.start + BitVec.ofNat 32 (k.length + s.web.lpath))
        ++ i32 (signedDiff s.web.odometer (k.start + BitVec.ofNat 32 (k.length + s.web.lpath))))
    ∧ (NoReference s.web.map →
      bytes = [255] ++ be32 (Config.freeWord s.freeCount) ++ be32 (Config.freeWord (s.freeCount + 1)))

/-- R204: part 0 of READ WEB, with the bytes of the reference. -/
def webLayout (s : State) (position : Nat) (reference : List Byte) : List Byte :=
  be32 s.web.odometer ++ n32 s.web.lpath ++ [s.web.transport.toByte] ++ n16 s.web.stallTime ++ [s.web.stage.toByte]
    ++ n16 (match s.web.stage with
      | .first e | .second e => (signedDiff e s.timeBase).toNat
      | .off | .expired => 0)
    ++ n8 (flagSum [(0, s.web.stall), (1, s.web.fault.isSome)]) ++ [webFaultByte s.web.fault] ++ n8 s.web.map.length
    ++ n8 (s.web.map.countP Segment.isPrint)
    ++ (match s.web.unlisted with
      | none => List.replicate 9 0
      | some u => [1] ++ be32 u.start
          ++ if u.length < 4294967296 then n32 u.length else be32 (Config.freeWord (s.freeCount + 2)))
    ++ reference ++ n16 s.web.cutsTaken ++ segmentLayout s position

/-- R204: part 2 of READ WEB. -/
def densityLayout (s : State) : List Byte :=
  i16 s.density.offsets.c0 ++ i16 s.density.offsets.c1 ++ i16 s.density.offsets.c2
    ++ n16 s.density.targets.c0 ++ n16 s.density.targets.c1 ++ n16 s.density.targets.c2
    ++ n8 s.density.a ++ n8 s.density.q ++ n8 s.density.k ++ n8 s.density.implausible
    ++ n8 (flagSum [(0, s.density.fault), (1, s.density.patchUnread)])
    ++ n8 (s.web.map.countP fun g => g.kind == .patch && g.closed && !g.read)
    ++ n16 s.resampler.gains.c0 ++ n16 s.resampler.gains.c1 ++ n16 s.resampler.gains.c2

/-- R204: part 4 of READ WEB. The time left of a fetch not yet sent is a free value (log entry 3). -/
def channelsLayout (s : State) : List Byte :=
  (match s.fetch.inFlight with
    | none => List.replicate 7 0
    | some f => [1, f.tag] ++ n8 f.level ++ n16 f.row
        ++ (match s.fetch.timer with
          | none => be16 ((Config.freeWord s.freeCount).extractLsb' 0 16)
          | some e => n16 (signedDiff e s.timeBase).toNat))
    ++ (match s.fetch.lastFault with
      | none => List.replicate 9 0
      | some r => [1, r.cause.toByte] ++ n16 r.ticket ++ n8 r.item ++ n8 r.level ++ n16 r.row ++ [r.phase.toByte])
    ++ n16 s.fetch.faultCount ++ n8 s.channel.queue.length
    ++ n8 (s.channel.queue.countP fun l => l.owner == .selection)
    ++ (match s.channel.exposure with
      | none => List.replicate 7 0
      | some e => [1, e.kind.toByte] ++ n16 e.linesExposed ++ [if e.blanked then 1 else 0] ++ n16 e.repeatCount)
    ++ n8 (flagSum [(0, s.channel.enabled.c0), (1, s.channel.enabled.c1), (2, s.channel.enabled.c2)])
    ++ n8 s.channel.repeatTolerance

/-- R206: the values the enumerated fields of replies carry. -/
def FieldValues : Prop :=
  [OrderClass.express, .standard, .bulk].map OrderClass.toByte = [1, 2, 3]
    ∧ [OrderState.opened, .ready, .inPrint, .held, .complete, .withdrawn].map OrderState.toByte = [1, 2, 3, 4, 5, 6]
    ∧ [Requester.nobody, .orderLink, .tillLink].map Requester.toByte = [0, 1, 2]
    ∧ [Surface.gloss, .matt, .lustre].map Surface.toByte = [1, 2, 3] ∧ [Mode.fill, .fit].map Mode.toByte = [1, 2]
    ∧ [PrintGroup.small, .large].map PrintGroup.toByte = [1, 2]
    ∧ [BinGroup.small, .large, .any].map BinGroup.toByte = [1, 2, 3]
    ∧ [BinState.free, .filling, .full, .waiting, .clearance].map BinState.toByte = [1, 2, 3, 4, 5]
    ∧ [none, some Magazine.a, some .b].map magazineByte = [0, 1, 2]
    ∧ [Transport.run, .stop].map Transport.toByte = [1, 2]
    ∧ (∀ slot n copy, (SegmentKind.print slot n copy).toByte = 1)
    ∧ [SegmentKind.patch, .leader, .blank].map SegmentKind.toByte = [2, 3, 4]
    ∧ [ExposureKind.print, .patch].map ExposureKind.toByte = [1, 2]
    ∧ (∀ e, [StallStage.off, .first e, .second e, .expired].map StallStage.toByte = [0, 1, 2, 3])
    ∧ [none, some WebFaultCause.stall, some .syncLost].map webFaultByte = [0, 1, 2]
    ∧ [CutOutcome.matched, .early, .duringFault].map CutOutcome.toByte = [1, 2, 3]
    ∧ [Fate.nothing, .delivered, .remade, .writtenOff].map Fate.toByte = [0, 1, 2, 3]
    ∧ [ReadingClass.good, .outOfTolerance, .implausible].map ReadingClass.toByte = [1, 2, 3]
    ∧ (∀ reason, (FaultCause.rowFault reason).toByte = BitVec.ofNat 8 reason)
    ∧ [FaultCause.timeout, .wrongLength].map FaultCause.toByte = [16, 17]
    ∧ [FaultPhase.beforeStart, .during].map FaultPhase.toByte = [1, 2]

/-! ## Attention (R189 to R195, R203) -/

/-- R190 to R192: the causes of a link, highest priority first. -/
def priorities : Link → List Cause
  | .order => [.orderFaulted, .cancelDone, .tableLow]
  | .engine => [.webFault, .densityFault, .stall, .switchRequested, .paperNeeded, .magazineLow, .patchUnread]
  | .till => [.binShortage, .uncollected, .orderComplete, .cancelDone]

/-- R190, R192: the flags of an order for which a per-order cause is pending on a link. -/
def flagSet (link : Link) (c : Cause) (o : Order) : Bool :=
  match c, link with
  | .orderFaulted, _ => o.faultUnreported
  | .binShortage, _ => o.shortageUnreported
  | .orderComplete, _ => o.completeUnreported
  | .cancelDone, .order => o.cancelNotice && o.requester == .orderLink
  | .cancelDone, .till => o.cancelNotice && o.requester == .tillLink
  | .cancelDone, .engine => false
  | .tableLow, _ | .webFault, _ | .densityFault, _ | .stall, _ | .switchRequested, _ | .paperNeeded, _ | .magazineLow, _
  | .patchUnread, _ | .uncollected, _ => false

/-- R189: the first order of a per-order cause, the one in the lowest slot. -/
def FirstFlagged (s : State) (link : Link) (c : Cause) (slot : Nat) (o : Order) : Prop :=
  s.order? slot = some o ∧ flagSet link c o = true
    ∧ ∀ k, k < slot → ∀ p, s.order? k = some p → flagSet link c p = false

/-- How many order records are free. -/
def freeOrders (s : State) : Nat := (List.range 64).countP fun k => (s.order? k).isNone

/-- How many item records are free. -/
def freeItems (s : State) : Nat := (List.range 512).countP fun r => (Table.get? s.orderTable.items r).isNone

/-- R189 to R192: for how many subjects a cause is pending on a link, none where it is not pending. A cause without several
subjects counts one (log entry 17). -/
def pendingSubjects (s : State) (link : Link) : Cause → Nat
  | .orderFaulted => (List.range 64).countP fun k => (s.order? k).any (flagSet link .orderFaulted)
  | .cancelDone => (List.range 64).countP fun k => (s.order? k).any (flagSet link .cancelDone)
  | .binShortage => (List.range 64).countP fun k => (s.order? k).any (flagSet link .binShortage)
  | .orderComplete => (List.range 64).countP fun k => (s.order? k).any (flagSet link .orderComplete)
  | .tableLow => if freeOrders s < 4 ∨ freeItems s < 32 then 1 else 0
  | .webFault => if s.web.fault = none then 0 else 1
  | .densityFault => if s.density.fault = true then 1 else 0
  | .stall => if s.web.stall = true then 1 else 0
  | .switchRequested => if s.scheduler.switchRequested = none then 0 else 1
  | .paperNeeded =>
    if (s.scheduler.express ++ s.scheduler.standard ++ s.scheduler.bulk).any
        (fun k => (s.order? k).any fun o => o.paperWait.isSome) = true then 1 else 0
  | .magazineLow => (if s.scheduler.magA.low = true then 1 else 0) + if s.scheduler.magB.low = true then 1 else 0
  | .patchUnread => if s.density.patchUnread = true then 1 else 0
  | .uncollected => (List.range 20).countP fun n => (Table.get? s.sort.bins (n + 1)).any fun b => b.uncollected

/-- R189, R203, R40: the six bytes of the first subject of a cause that is pending on a link. -/
def IsSubject (s : State) (link : Link) (c : Cause) (bytes : List Byte) : Prop :=
  match c with
  | .orderFaulted | .cancelDone | .orderComplete =>
    ∃ slot o, FirstFlagged s link c slot o ∧ bytes = n16 o.ticket ++ n8 slot ++ [0, 0, 0]
  | .binShortage => ∃ slot o, FirstFlagged s link c slot o ∧ bytes = n16 o.ticket ++ n8 slot ++ n8 o.overflow ++ [0, 0]
  | .tableLow => bytes = n8 (freeOrders s) ++ n16 (freeItems s) ++ [0, 0, 0]
  | .webFault => ∃ cause, s.web.fault = some cause
      ∧ bytes = (match cause with | .stall => 1 | .syncLost => 2) :: [0, 0, 0, 0, 0]
  | .switchRequested => ∃ m, s.scheduler.switchRequested = some m
      ∧ bytes = (match m with | .a => 1 | .b => 2) :: [0, 0, 0, 0, 0]
  | .paperNeeded => ∃ ahead slot rest o need,
      s.scheduler.express ++ s.scheduler.standard ++ s.scheduler.bulk = ahead ++ slot :: rest
        ∧ (∀ k ∈ ahead, ∀ p, s.order? k = some p → p.paperWait = none) ∧ s.order? slot = some o
        ∧ o.paperWait = some need ∧ bytes = n16 need.width ++ [need.surface.toByte, 0, 0, 0]
  | .magazineLow => bytes = if s.scheduler.magA.low = true then 1 :: n32 s.scheduler.magA.remaining ++ [0]
      else 2 :: n32 s.scheduler.magB.remaining ++ [0]
  | .uncollected => ∃ n b, Table.get? s.sort.bins n = some b ∧ b.uncollected = true
      ∧ (∀ k, k < n → ∀ a, Table.get? s.sort.bins k = some a → a.uncollected = false)
      ∧ bytes = n8 n ++ n16 (b.ticket.getD 0) ++ [0, 0, 0]
  | .densityFault | .stall | .patchUnread => bytes = [0, 0, 0, 0, 0, 0]

/-- R193: the cause at a place of a link's priorities, counted from 0, is pending and unmasked. -/
def pendingAt (s : State) (link : Link) (place : Nat) : Bool :=
  match (priorities link)[place]?, (s.links.unit link).mask[place]? with
  | some c, some false => decide (pendingSubjects s link c ≠ 0)
  | _, _ => false

/-- R203: the causes of a link that are pending and unmasked, as a byte. -/
def pendingByte (s : State) (link : Link) : List Byte :=
  n8 (flagSum ((List.range 7).map fun k => (k, pendingAt s link k)))

/-- R203: a mask as a byte, a bit set for a cause that is MASKED. -/
def maskByte (mask : List Bool) : List Byte := n8 (flagSum ((List.range 7).map fun k => (k, mask[k]?.getD false)))

/-- R195: the attention output of a link is asserted. -/
def attentionAsserted (s : State) (link : Link) : Bool := (List.range 7).any (pendingAt s link)

/-! ## Invariants -/

/-- R13: the copy account of every item record holds. -/
def AccountsHold (s : State) : Prop :=
  ∀ p ∈ s.orderTable.items, p.2.ordered = p.2.waiting + p.2.onWeb + p.2.delivered + p.2.writtenOff

/-- An order that stands in a class list: READY or IN PRINT with window ended set (R31). -/
def Order.listed (o : Order) : Bool := (o.state == .ready || o.state == .inPrint) && o.windowEnded

/-- R31: a class list names each order of its class that is listed, once, and no other. The window of an OPEN order has not
started to run (R7, R8); an order that has started has left its window behind (R12, R33), and one IN PRINT has started; a
cancel notice stands on a WITHDRAWN order only (R21); a selected print is one of a listed order with a copy waiting (R33,
R43). -/
def ListsAgree (s : State) : Prop :=
  (∀ c, (s.scheduler.classList c).Nodup)
    ∧ (∀ c slot, slot ∈ s.scheduler.classList c ↔ ∃ o, s.order? slot = some o ∧ o.cls = c ∧ o.listed = true)
    ∧ (s.orderTable.orders.map Prod.fst).Pairwise (· < ·)
    ∧ (∀ slot o, s.order? slot = some o →
        (o.state = .opened → o.windowEnded = false ∧ o.eligibleAt = none)
          ∧ (o.started = true → o.windowEnded = true)
          ∧ (o.state = .inPrint → o.started = true)
          ∧ (o.cancelNotice = true → o.state = .withdrawn))
    ∧ (∀ slot n copy, s.scheduler.selection = some (.print slot n copy) →
        ∃ o r i, s.order? slot = some o ∧ o.listed = true ∧ o.items[n]? = some r
          ∧ Table.get? s.orderTable.items r = some i ∧ i.waiting ≠ 0)

/-- An open segment of a print or a patch. -/
def Segment.isOpenExposure (g : Segment) : Bool :=
  !g.closed && (match g.kind with | .print _ _ _ => true | .patch => true | .leader => false | .blank => false)

/-- The tail of the map is an open print or patch. -/
def Web.exposureAtTail (w : Web) : Bool :=
  match w.map.getLast? with
  | some g => g.isOpenExposure
  | none => false

/-- R111, R117, R52: the map holds at most 128 segments, all but the tail closed; a print or patch is being exposed exactly
when the tail is one and open; no leader is pending while anything but a BLANK is exposed; the unlisted stretch is present
only beside a full map with a closed tail; and while WEB FAULT holds nothing is exposed (R131). -/
def WebShape (s : State) : Prop :=
  s.web.map.length ≤ 128
    ∧ (∀ g ∈ s.web.map.dropLast, g.closed = true)
    ∧ s.channel.exposure.isSome = s.web.exposureAtTail
    ∧ (s.scheduler.leaderPending = true → s.channel.exposure = none ∧ s.web.leaderExposed = false)
    ∧ (s.web.unlisted.isSome = true → s.web.map.length = 128 ∧ ∀ g ∈ s.web.map, g.closed = true)
    ∧ (s.web.fault.isSome = true →
        s.channel.exposure = none ∧ s.web.leaderExposed = false)

/-- R128: STALL holds in SECOND and EXPIRED only; the monitor is OFF exactly while the transport is STOP or the map is
empty. -/
def StallAgrees (s : State) : Prop :=
  (s.web.stall = true ↔ (∃ t, s.web.stage = .second t) ∨ s.web.stage = .expired)
    ∧ (s.web.stage = .off ↔ s.web.transport = .stop ∨ s.web.map = [])

/-- R137, R139, R147: what the fields of a bin must be in its state. -/
def Bin.ok (b : Bin) : Prop :=
  1 ≤ b.capacity ∧ b.capacity ≤ 250 ∧ b.count ≤ b.capacity
    ∧ (b.state = .free → b.count = 0 ∧ b.ticket = none ∧ b.owner = none)
    ∧ (b.state = .clearance → 0 < b.count ∧ b.ticket.isSome = true ∧ b.owner = none)
    ∧ (b.state = .filling ∨ b.state = .full ∨ b.state = .waiting → b.ticket.isSome = true ∧ b.owner.isSome = true)
    ∧ (b.state = .filling → b.count < b.capacity)
    ∧ (b.state ≠ .waiting → b.timer = none ∧ b.uncollected = false)

/-- R137: the bin table holds bins 1 to 20, each with the fields its state asks for. -/
def BinsOk (s : State) : Prop :=
  s.sort.bins.map Prod.fst = (List.range 20).map (· + 1) ∧ ∀ p ∈ s.sort.bins, p.2.ok

/-- R139, R142, R146, R150: the bin table and the bin lists agree. A bin with an owner holds the ticket of that order, which is
in use and lists the bin; an order lists at most 4 bins, each once, only bins in FILLING, FULL or WAITING that it owns, so
that no bin stands in two lists; and an OPEN or WITHDRAWN order lists none. -/
def BinsAgree (s : State) : Prop :=
  (∀ n b slot, Table.get? s.sort.bins n = some b → b.owner = some slot →
      ∃ o, s.order? slot = some o ∧ b.ticket = some o.ticket ∧ n ∈ o.bins)
    ∧ ∀ slot o, s.order? slot = some o →
        o.bins.length ≤ 4 ∧ o.bins.Nodup
          ∧ (∀ n ∈ o.bins, ∃ b, Table.get? s.sort.bins n = some b ∧ b.owner = some slot
              ∧ (b.state = .filling ∨ b.state = .full ∨ b.state = .waiting))
          ∧ (o.state = .opened ∨ o.state = .withdrawn → o.bins = [])

/-- R2, R12, R13: on web of every item counts its PRINT segments in the map, and every PRINT segment is of an item of an order
in use. None is of an OPEN order, of a COMPLETE one, which has no copy waiting either (R15), or of an order with a cancel
notice (R21). -/
def CopiesCounted (s : State) : Prop :=
  (∀ slot o n r i, s.order? slot = some o → o.items[n]? = some r → Table.get? s.orderTable.items r = some i →
      i.onWeb = s.web.map.countP (Segment.isPrintOf slot n)
        ∧ (o.state = .opened ∨ o.state = .complete ∨ o.cancelNotice = true → i.onWeb = 0)
        ∧ (o.state = .complete → i.waiting = 0))
    ∧ ∀ g ∈ s.web.map, ∀ slot n copy, g.kind = .print slot n copy → ∃ o, s.order? slot = some o ∧ n < o.items.length

/-- R46, R49: a magazine record's ranges, and its low flag. -/
def MagazineRecord.ok (m : MagazineRecord) (endReserve : Nat) : Prop :=
  m.remaining ≤ 2500000 ∧ (m.width = 0 ∨ 89 ≤ m.width ∧ m.width ≤ 305) ∧ (m.present = true → m.width ≠ 0)
    ∧ (m.low = true ↔ m.present = true ∧ m.remaining ≤ endReserve)

/-- R46, R49: both magazine records are as they should be. -/
def MagazinesOk (s : State) : Prop :=
  s.scheduler.magA.ok s.scheduler.endReserve ∧ s.scheduler.magB.ok s.scheduler.endReserve

/-- R28, R29, R36, R53, R71, R91, R95, R119, R138: every setting within its range. -/
def SettingsInRange (s : State) : Prop :=
  s.orderTable.remakeLimit ≤ 3
    ∧ s.orderTable.windows.express ≤ 255 ∧ s.orderTable.windows.standard ≤ 255 ∧ s.orderTable.windows.bulk ≤ 255
    ∧ s.scheduler.patchCounter ≤ 255 ∧ s.scheduler.leaderLength ≤ 5000 ∧ s.scheduler.endReserve ≤ 65535
    ∧ (∀ c, 256 ≤ s.resampler.gains.get c ∧ s.resampler.gains.get c ≤ 767)
    ∧ s.channel.repeatTolerance ≤ 15 ∧ s.channel.queue.length ≤ 8
    ∧ (∀ c, -255 ≤ s.density.offsets.get c ∧ s.density.offsets.get c ≤ 255)
    ∧ (∀ c, s.density.targets.get c ≤ 1023)
    ∧ s.density.a ≤ 15 ∧ 1 ≤ s.density.q ∧ s.density.q ≤ 255 ∧ s.density.k ≤ 255 ∧ s.density.implausible ≤ 255
    ∧ (s.web.lpath = 0 ∨ 1000 ≤ s.web.lpath ∧ s.web.lpath ≤ 250000)
    ∧ 100 ≤ s.web.stallTime ∧ s.web.stallTime ≤ 10000
    ∧ s.sort.uncollectedTime ≤ 1440

/-- R182, R183: what a port holds in its phase: a request not yet complete, or a reply of 2 to 64 bytes not yet all sent. -/
def Port.ok : Port → Prop
  | .idle => True
  | .request got => got.length ≤ 63 ∧ frameComplete got = false
  | .reply bytes sent => 2 ≤ bytes.length ∧ bytes.length ≤ 64 ∧ sent < bytes.length
  | .spent => True

/-- R182, R189: every port as its phase asks, and one mask entry for every cause of each link. -/
def PortsOk (s : State) : Prop :=
  ∀ link, (s.port link).ok ∧ (s.links.unit link).mask.length = (causesOf link).length

/-- R1, R3: at most 64 records in slots 0 to 63, tickets 1 to 9,999 and unique among them, and the next-ticket counter in
the same range. -/
def TicketsOk (s : State) : Prop :=
  (s.orderTable.orders.map Prod.fst).Pairwise (· < ·)
    ∧ (∀ p ∈ s.orderTable.orders, p.1 < 64 ∧ 1 ≤ p.2.ticket ∧ p.2.ticket ≤ 9999)
    ∧ (s.orderTable.orders.map fun p => p.2.ticket).Nodup
    ∧ 1 ≤ s.orderTable.nextTicket ∧ s.orderTable.nextTicket ≤ 9999

/-- R2, R163: the item records in use are those the orders list, each in one order and once, and every order's gross is the
sum of its items' charged sums and at most 9,999,999. -/
def PoolAndGross (s : State) : Prop :=
  (s.orderTable.items.map Prod.fst).Pairwise (· < ·)
    ∧ (∀ p ∈ s.orderTable.items, p.1 < 512)
    ∧ (s.orderTable.orders.map Prod.fst).Pairwise (· < ·)
    ∧ (s.orderTable.orders.flatMap fun p => p.2.items).Perm (s.orderTable.items.map Prod.fst)
    ∧ (∀ p ∈ s.orderTable.orders, p.2.items.length ≤ 24 ∧ p.2.gross ≤ 9999999
        ∧ p.2.gross = ((p.2.items.filterMap (Table.get? s.orderTable.items)).map fun i => i.charged).sum)

end Sys2Proof.Machine
end

