-- ==== Sys2Proof/Certificates/Slice0/Obligations.lean ====
section
/-! DEFINITION. The statements about the model, chapter by chapter: the step and the resets, the invariants, the links, the
orders, the scheduler, the raster side, the web and the cutter, density, sorting and the till. -/

open Sys2Proof Sys2Proof.Machine

/-! ## The step and the resets -/

/-- A step takes the command at the front of the queue and runs it on the state with the queue's rest. On an empty queue only
the raster link goes on (R205): an idle link begins to send a fetch that waits, and otherwise begins to clock in a reply frame
while ready is asserted, which the source keeps asserted until its frame is read. That the empty queue stands for this, and
the free value the ready input takes, are the model's choices (log entries 2 and 27). -/
def Obligations.StepRunsFrontCommand : Prop :=
  ∀ s : State,
    (∀ c rest, s.pending = c :: rest → step s = exec c { s with pending := rest })
      ∧ (s.pending = [] → ∃ t, step s = .next t
          ∧ t.fetch.link.ready = (s.fetch.link.ready || Config.readyInput s.freeCount)
          ∧ (s.fetch.link.phase ≠ .idle → t.fetch.link.phase = s.fetch.link.phase)
          ∧ (∀ f, s.fetch.link.phase = .idle → s.fetch.inFlight = some f → s.fetch.timer = none →
              t.fetch.link.phase = .sending ([0x01#8, f.tag] ++ be32 f.handle ++ n8 f.level ++ n16 f.row))
          ∧ (s.fetch.link.phase = .idle → s.fetch.inFlight = none ∨ s.fetch.timer.isSome = true →
              t.fetch.link.phase = if t.fetch.link.ready = true then .receiving else .idle)
          ∧ t.freeCount = s.freeCount + 1
          ∧ OnlyChanges [.rasterLink, .freeCount] s t)

/-- What power-on leaves, as R30, R54, R55, R71, R75, R84, R110, R111, R112, R135, R156, R158, R177, R180, R181, R182, R197
and R205 state it. The waiting commands and the count of free values stay (log entry 22), and ready is seen low (log entry
27). -/
def Obligations.PowerOnResetValues : Prop :=
  ∀ s : State, ∃ t, exec .powerOnReset s = .next t
    ∧ (∀ slot, t.order? slot = none) ∧ t.orderTable.items = [] ∧ t.orderTable.nextTicket = 1
    ∧ (∀ i, i < 16 → Table.get? t.orderTable.sizes i =
        some { enabled := false, wp := 1, lp := 1, paperWidth := 89, group := .small })
    ∧ t.orderTable.windows = { express := 0, standard := 20, bulk := 60 } ∧ t.orderTable.remakeLimit = 2
    ∧ (∀ c, t.scheduler.classList c = []) ∧ t.scheduler.selection = none ∧ t.scheduler.patchCounter = 0
    ∧ t.scheduler.switchPatch = false ∧ t.scheduler.resetPatch = false
    ∧ (∀ m, (t.scheduler.magazine m).present = false ∧ (t.scheduler.magazine m).width = 0
        ∧ (t.scheduler.magazine m).surface = .gloss ∧ (t.scheduler.magazine m).remaining = 0
        ∧ (t.scheduler.magazine m).low = false)
    ∧ t.scheduler.active = none ∧ t.scheduler.switchRequested = none ∧ t.scheduler.leaderPending = false
    ∧ t.scheduler.leaderLength = 250 ∧ t.scheduler.endReserve = 500
    ∧ WorkEnded t ∧ (∀ c, t.resampler.gains.get c = 512)
    ∧ t.fetch.nextTag = 0 ∧ t.fetch.lastFault = none ∧ t.fetch.faultCount = 0
    ∧ t.fetch.link = { phase := .idle, ready := false }
    ∧ t.channel.queue = [] ∧ t.channel.exposure = none ∧ (∀ c, t.channel.enabled.get c = true)
    ∧ t.channel.repeatTolerance = 2
    ∧ (∀ c, t.density.offsets.get c = 0 ∧ t.density.targets.get c = 512) ∧ t.density.a = 4 ∧ t.density.q = 24
    ∧ t.density.k = 25 ∧ t.density.implausible = 0 ∧ t.density.fault = false ∧ t.density.patchUnread = false
    ∧ t.density.lastReading = none
    ∧ t.web.map = [] ∧ t.web.odometer = 0 ∧ t.web.lpath = 0 ∧ t.web.transport = .stop ∧ t.web.stallTime = 2000
    ∧ t.web.stage = .off ∧ t.web.stall = false ∧ t.web.fault = none ∧ t.web.unlisted = none ∧ t.web.cutsTaken = 0
    ∧ t.web.lastCut = none
    ∧ (∀ n, 1 ≤ n → n ≤ 20 → Table.get? t.sort.bins n =
        some { state := .free, group := .any, capacity := 50, count := 0, ticket := none, owner := none, timer := none
               uncollected := false })
    ∧ t.sort.trayCount = 0 ∧ t.sort.rejectCount = 0 ∧ t.sort.uncollectedTime = 120
    ∧ (∀ i, i < 16 → Table.get? t.price.tariff i = some { n1 := 0, n2 := 0, p1 := 0, p2 := 0, p3 := 0 })
    ∧ t.price.surcharges = { gloss := 0, matt := 0, lustre := 0 } ∧ t.price.lock = false ∧ t.price.amendment = none
    ∧ t.price.totals = Totals.zero ∧ t.price.closedDay = { totals := Totals.zero, number := 0, read := true }
    ∧ (∀ link, t.port link = .idle ∧ ∀ m ∈ (t.links.unit link).mask, m = false)
    ∧ t.timeBase = 0 ∧ t.pending = s.pending ∧ t.freeCount = s.freeCount

/-- The state after power-on meets every invariant below. -/
def Obligations.ResetMeetsInvariants : Prop :=
  AccountsHold State.reset ∧ ListsAgree State.reset ∧ WebShape State.reset ∧ StallAgrees State.reset
    ∧ BinsOk State.reset ∧ MagazinesOk State.reset ∧ SettingsInRange State.reset ∧ PortsOk State.reset
    ∧ TicketsOk State.reset ∧ PoolAndGross State.reset ∧ BinsAgree State.reset ∧ CopiesCounted State.reset

/-- Warm reset (R30, R54, R84, R92, R110, R133, R135, R205): exposure is flushed, the map is emptied, the transport stops,
the conditions end, the selection, the switch request, a pending leader and the active magazine go; a reply frame being
clocked in is cut off and a ROW FETCH being sent goes on, the level of ready last seen staying (log entry 27); the link ports
and the settings are untouched. The copies of the map are remade where R14 allows it and written off otherwise, with the
completion and draining checks of their orders; where the map holds no print, no order, item, bin or total changes. -/
def Obligations.WarmResetFlushesAndKeeps : Prop :=
  ∀ s : State, ∃ t, exec .warmReset s = .next t
    ∧ WorkEnded t ∧ t.scheduler.selection = none ∧ t.channel.queue = [] ∧ t.channel.exposure = none
    ∧ t.scheduler.active = none ∧ t.scheduler.switchRequested = none ∧ t.scheduler.leaderPending = false
    ∧ (∀ c, t.channel.enabled.get c = true)
    ∧ t.web.map = [] ∧ t.web.unlisted = none ∧ t.web.transport = .stop ∧ t.web.stage = .off ∧ t.web.stall = false
    ∧ t.web.fault = none
    ∧ (s.fetch.link.phase = .receiving → t.fetch.link.phase = .idle)
    ∧ (s.fetch.link.phase ≠ .receiving → t.fetch.link.phase = s.fetch.link.phase)
    ∧ t.fetch.link.ready = s.fetch.link.ready
    ∧ t.price.totals.printsRejected = s.price.totals.printsRejected
    ∧ (PoolAndGross s → CopiesOnWeb s.web.map s →
        CopiesDisposed s.web.map s t
          ∧ t.price.totals = { s.price.totals with
              remakesMade := if remadeIn s s.web.map = 0 then s.price.totals.remakesMade
                else min 65535 (s.price.totals.remakesMade + remadeIn s s.web.map) })
    ∧ OnlyChanges [.orders, .items, .classLists, .selection, .active, .switchRequest, .leaderPending, .attemptCause, .work,
        .rows, .fetch, .rasterLink, .lineQueue, .exposure, .enables, .map, .transport, .stall, .webFault, .unlisted, .bins,
        .totals] s t
    ∧ ((∀ g ∈ s.web.map, g.isPrint = false) →
        Same s t .orders ∧ Same s t .items ∧ Same s t .classLists ∧ Same s t .bins ∧ Same s t .totals)

/-! ## The invariants every step keeps -/

/-- R13: copies ordered equals waiting plus on web plus delivered plus written off, for every item record in use. R2, R12: on
web of an item is the number of its PRINT segments in the map, and every PRINT segment is of an item of an order in use, none
of an OPEN or COMPLETE order or of one with a cancel notice; a COMPLETE order has no copy waiting (R15, R21). -/
def Obligations.EveryStepKeepsCopyAccounts : Prop :=
  (∀ s t : State, AccountsHold s → step s = .next t → AccountsHold t)
    ∧ ∀ s t : State, CopiesCounted s ∧ ListsAgree s ∧ PoolAndGross s → step s = .next t → CopiesCounted t

/-- R31, R32: the class lists hold exactly the listed orders of their class, each once; with what that rests on: no OPEN order
has a window running, an order that has started or is IN PRINT has left its window behind, a cancel notice stands on a
WITHDRAWN order only, and a selected print is one of a listed order with a copy waiting. -/
def Obligations.EveryStepKeepsClassLists : Prop :=
  ∀ s t : State, ListsAgree s ∧ PoolAndGross s → step s = .next t → ListsAgree t

/-- R84, R111, R117, R52, R131: the shape of the web map, and its agreement with the exposure record, the pending leader,
the unlisted stretch and WEB FAULT. -/
def Obligations.EveryStepKeepsWebShape : Prop :=
  ∀ s t : State, WebShape s → step s = .next t → WebShape t

/-- R128: STALL holds exactly in SECOND and EXPIRED, and the monitor is OFF exactly while the transport is STOP or the map
is empty. -/
def Obligations.EveryStepKeepsStallStages : Prop :=
  ∀ s t : State, StallAgrees s → step s = .next t → StallAgrees t

/-- R137, R139, R147: every bin holds what its state asks for; a bin in FILLING, FULL or WAITING has an owner. R139: the owner
is an order in use whose ticket the bin holds and whose list names the bin; an order lists at most 4 bins, each once, only
bins in those states that it owns, so that no bin stands in two lists. An OPEN or WITHDRAWN order lists none. -/
def Obligations.EveryStepKeepsBins : Prop :=
  (∀ s t : State, BinsOk s → step s = .next t → BinsOk t)
    ∧ ∀ s t : State, BinsAgree s ∧ BinsOk s ∧ ListsAgree s ∧ PoolAndGross s ∧ CopiesCounted s → step s = .next t →
        BinsAgree t

/-- R46, R49 and the ranges of the settings: magazine records and every setting stay in range, and a low flag says whether
remaining is at most the end reserve. -/
def Obligations.EveryStepKeepsMagazinesAndSettings : Prop :=
  ∀ s t : State, MagazinesOk s ∧ SettingsInRange s → step s = .next t → MagazinesOk t ∧ SettingsInRange t

/-- R182, R183, R189: a port holds an incomplete request or a reply of 2 to 64 bytes not yet all sent, and every link
keeps one mask entry for each of its causes. -/
def Obligations.EveryStepKeepsPorts : Prop :=
  ∀ s t : State, PortsOk s → step s = .next t → PortsOk t

/-- R1, R3: at most 64 records, tickets 1 to 9,999 and unique among records in use. -/
def Obligations.EveryStepKeepsTickets : Prop :=
  ∀ s t : State, TicketsOk s → step s = .next t → TicketsOk t

/-- R2, R163: every item record in use belongs to one order and appears in it once, and every order's gross is the sum of
its items' charged sums. -/
def Obligations.EveryStepKeepsPoolAndGross : Prop :=
  ∀ s t : State, PoolAndGross s → step s = .next t → PoolAndGross t

/-! ## The links -/

/-- R199, R200: the code byte and the field bytes of every request are read back as that request; but for SET MASK their
number is the one R200 gives. -/
def Obligations.RequestFieldsRoundTrip : Prop :=
  ∀ i link c fields, i.request = some (link, c, fields) →
    decodeFields link c fields = some i ∧ RequestCode.ofByte? c.toByte = some c
      ∧ (c ≠ .setMask → fields.length = c.fieldLength link)

/-- R182, R183, R184: the byte that completes the frame of a request does what the request does. That a request command
delivers the rest of its frame, and a byte the whole request, is the model's reading (log entries 4, 5). -/
def Obligations.LastByteTakesRequest : Prop :=
  ∀ i s link c fields got byte, i.request = some (link, c, fields) → i.wellFormed = true →
    s.port link = .request got → got ++ [byte] = frameBytes c.toByte fields →
    exec (.linkByteComplete link byte) s = exec i s

/-- R186: a request answered with any status but OK and CLAMPED carries no reply fields and changes nothing in the device.
-/
def Obligations.RefusedRequestsChangeNothing : Prop :=
  ∀ i s t link c fields status out, i.request = some (link, c, fields) → Taking s link c fields →
    exec i s = .next t → Replied t link status out → status ≠ .ok → status ≠ .clamped →
    out = [] ∧ OnlyChanges [.port link] s t

/-- R200: the reply of a taken request has the length M of the table. -/
def Obligations.RepliesHaveTheTablesLength : Prop :=
  ∀ i s t link c fields status out, i.request = some (link, c, fields) → Taking s link c fields →
    exec i s = .next t → Replied t link status out → status = .ok ∨ status = .clamped →
    out.length = replyLength c fields

/-- R182, R183, R184, R185: the phases of a link port at select and at a byte; the port's own tests, in their order, on
the byte that completes a frame; a request command on a link it does not belong to; and the frames no block takes,
delivered whole (log entry 4). -/
def Obligations.PortPhasesAndTests : Prop :=
  (∀ (s : State) (link : Link) (byte : Byte),
      (s.port link = .idle → ∃ t, exec (.selectAsserted link) s = .next t ∧ t.port link = .request []
          ∧ OnlyChanges [.port link] s t)
        ∧ (∃ t, exec (.selectReleased link) s = .next t ∧ t.port link = .idle ∧ OnlyChanges [.port link] s t)
        ∧ (∀ got, s.port link = .request got → frameComplete (got ++ [byte]) = false →
            ∃ t, exec (.linkByteComplete link byte) s = .next t ∧ t.port link = .request (got ++ [byte])
              ∧ OnlyChanges [.port link] s t)
        ∧ (∀ bytes sent, s.port link = .reply bytes sent →
            ∃ t, exec (.linkByteComplete link byte) s = .next t
              ∧ t.port link = (if sent + 1 < bytes.length then .reply bytes (sent + 1) else .spent)
              ∧ OnlyChanges [.port link] s t)
        ∧ (s.port link = .idle ∨ s.port link = .spent → exec (.linkByteComplete link byte) s = .next s))
    ∧ (∀ s link got byte code len fields, s.port link = .request got → got ++ [byte] = code :: len :: fields →
      frameComplete (got ++ [byte]) = true →
      (len.toNat > 62 → RefusedWith (.linkByteComplete link byte) s link .malformed)
        ∧ (len.toNat ≤ 62 → RequestCode.ofByte? code = none →
            RefusedWith (.linkByteComplete link byte) s link .unknown)
        ∧ (∀ c, len.toNat ≤ 62 → RequestCode.ofByte? code = some c → c.belongs link = false →
            RefusedWith (.linkByteComplete link byte) s link .notOnThisLink)
        ∧ (∀ c, len.toNat ≤ 62 → RequestCode.ofByte? code = some c → c.belongs link = true →
            len.toNat ≠ c.fieldLength link → RefusedWith (.linkByteComplete link byte) s link .malformed))
    ∧ (∀ i s link c fields, i.request = some (link, c, fields) → Taking s link c fields →
        c.belongs link = false → RefusedWith i s link .notOnThisLink)
    ∧ (∀ s link code len fields, unknownFrame code len fields = true →
        s.receiving link (code :: len :: fields) = true →
        RefusedWith (.unknownRequest link code len fields) s link (if len.toNat > 62 then .malformed else .unknown))

/-- R189 to R193, R203: READ ATTENTION returns the unmasked pending cause of highest priority with its first subject, clears
an event for that subject, and frees the record at CANCEL DONE; NONE where no unmasked cause is pending. The causes are known
by their places in the list of their link, counted from 0, and the orders and bins by their slots and numbers. How many
subjects a single condition counts is the model's reading (log entry 17). -/
def Obligations.ReadAttentionReturnsAndClears : Prop :=
  ∀ s link, TicketsOk s → BinsOk s → PortsOk s → Taking s link .readAttention [] →
    ((∀ k, pendingAt s link k = false) →
        ∃ t, exec (.readAttention link) s = .next t ∧ OnlyChanges [.port link] s t
          ∧ Replied t link .ok ([0, 0, 0, 0, 0, 0, 0, 0, 0] ++ maskByte (s.links.unit link).mask))
      ∧ (∀ place c, (priorities link)[place]? = some c → pendingAt s link place = true →
          (∀ k, k < place → pendingAt s link k = false) →
          ∃ t subject, exec (.readAttention link) s = .next t
            ∧ IsSubject s link c subject
            ∧ Replied t link .ok
                (n8 (place + 1) ++ subject ++ n8 (pendingSubjects t link c) ++ pendingByte t link
                  ++ maskByte (s.links.unit link).mask)
            ∧ (c = .patchUnread → t.density.patchUnread = false ∧ OnlyChanges [.patchUnread, .port link] s t)
            ∧ (∀ slot o, c = .orderFaulted ∨ c = .binShortage ∨ c = .orderComplete → FirstFlagged s link c slot o →
                t.order? slot = some (match c with
                    | .orderFaulted => { o with faultUnreported := false }
                    | .binShortage => { o with shortageUnreported := false }
                    | _ => { o with completeUnreported := false })
                  ∧ OtherOrdersSame slot s t ∧ OnlyChanges [.orders, .port link] s t)
            ∧ (∀ slot o, c = .cancelDone → FirstFlagged s link c slot o →
                RecordFreed slot o s t ∧ OnlyChanges [.orders, .items, .port link] s t)
            ∧ (c ≠ .patchUnread → c ≠ .orderFaulted → c ≠ .binShortage → c ≠ .orderComplete → c ≠ .cancelDone →
                OnlyChanges [.port link] s t))

/-- R196, R195: SET MASK replaces the mask of its link and of no other, and its reply carries the mask and the attention
line; an entry that encodes neither value makes it MALFORMED. A mask changes no cause (R189). The attention output of a link
is asserted while an unmasked cause of the link is pending. -/
def Obligations.SetMaskReplacesTheLinksMask : Prop :=
  (∀ s link entries, TicketsOk s → BinsOk s → Taking s link .setMask entries → entries.length = (priorities link).length →
    ((∃ e ∈ entries, e ≠ 0#8 ∧ e ≠ 1#8) → RefusedWith (.setMask link entries) s link .malformed)
      ∧ ((∀ e ∈ entries, e = 0#8 ∨ e = 1#8) →
          ∃ t, exec (.setMask link entries) s = .next t
            ∧ (t.links.unit link).mask = entries.map (fun e => e == 1#8)
            ∧ (∀ c, pendingSubjects t link c = pendingSubjects s link c)
            ∧ Replied t link .ok
                (maskByte (entries.map fun e => e == 1#8) ++ [if attentionAsserted t link then 1 else 0])
            ∧ OnlyChanges [.mask link, .port link] s t))
    ∧ ∀ s link, TicketsOk s → BinsOk s → PortsOk s → s.attentionLine link = attentionAsserted s link

/-- Requests that name a ticket test it first: MALFORMED for 0 or above 9,999, NO ORDER where no record in use holds it.
-/
def Obligations.TicketTestsComeFirst : Prop :=
  ∀ i s link c fields ticket status, i.request = some (link, c, fields) → c.belongs link = true →
    ticketField i = some ticket → Taking s link c fields → TicketRefusal s ticket status →
    RefusedWith i s link status

/-! ## Orders and items -/

/-- R3, R4: OPEN ORDER is refused for a class that is none or a full table; otherwise the lowest free slot takes a new
record with a ticket no record holds. -/
def Obligations.OpenOrderTakesLowestSlotAndFreeTicket : Prop :=
  ∀ s cls, Taking s .order .openOrder [cls] →
    (cls ≠ 1#8 → cls ≠ 2#8 → cls ≠ 3#8 → RefusedWith (.openOrder .order cls) s .order .malformed)
      ∧ (cls = 1#8 ∨ cls = 2#8 ∨ cls = 3#8 → (∀ k, k < 64 → s.order? k ≠ none) →
          RefusedWith (.openOrder .order cls) s .order .full)
      ∧ (∀ c slot, (cls, c) ∈ [(1#8, OrderClass.express), (2#8, .standard), (3#8, .bulk)] → slot < 64 →
          s.order? slot = none → (∀ k, k < slot → s.order? k ≠ none) → TicketsOk s →
          ∃ t ticket, exec (.openOrder .order cls) s = .next t ∧ AssignsTicket s ticket
            ∧ t.order? slot = some
                { ticket := ticket, cls := c, state := .opened, eligibleAt := none, windowEnded := false, started := false
                  items := [], bins := [], overflow := 0, faulted := false, paperWait := none, earlyPickup := false
                  pickedUp := false, faultUnreported := false, completeUnreported := false, shortageUnreported := false
                  requester := .nobody, cancelNotice := false, collectedPartial := false, gross := 0, discount := 0
                  adjustment := 0, final := 0 }
            ∧ t.orderTable.nextTicket = (if ticket = 9999 then 1 else ticket + 1)
            ∧ Replied t .order .ok (n16 ticket ++ n8 slot)
            ∧ OtherOrdersSame slot s t ∧ OnlyChanges [.orders, .ticketCounter, .port .order] s t)

/-- R5, R6: ADD ITEM's tests in their order, and the item record it fills. -/
def Obligations.AddItemTestsAndAppends : Prop :=
  ∀ s ticket handle ws hs sizeIndex surface mode copies slot o,
    Taking s .order .addItem (be16 ticket ++ be32 handle ++ be16 ws ++ be16 hs ++ [sizeIndex, surface, mode, copies]) →
    Names s ticket slot o →
    (o.state ≠ .opened → o.state ≠ .ready →
        RefusedWith (.addItem .order ticket handle ws hs sizeIndex surface mode copies) s .order .wrongState)
      ∧ (o.state = .opened ∨ o.state = .ready →
          sizeIndex.toNat > 15
            ∨ (∀ e, Table.get? s.orderTable.sizes sizeIndex.toNat = some e → e.enabled = false)
            ∨ ws.toNat = 0 ∨ ws.toNat > 16384 ∨ hs.toNat = 0 ∨ hs.toNat > 16384
            ∨ surface ∉ [1#8, 2#8, 3#8] ∨ mode ∉ [1#8, 2#8] ∨ copies.toNat = 0 →
          RefusedWith (.addItem .order ticket handle ws hs sizeIndex surface mode copies) s .order .malformed)
      ∧ (∀ e u m, o.state = .opened ∨ o.state = .ready → sizeIndex.toNat ≤ 15 →
          Table.get? s.orderTable.sizes sizeIndex.toNat = some e → e.enabled = true →
          1 ≤ ws.toNat → ws.toNat ≤ 16384 → 1 ≤ hs.toNat → hs.toNat ≤ 16384 →
          (surface, u) ∈ [(1#8, Surface.gloss), (2#8, .matt), (3#8, .lustre)] →
          (mode, m) ∈ [(1#8, Mode.fill), (2#8, .fit)] → copies.toNat ≠ 0 →
          (24 ≤ o.items.length ∨ (∀ r, r < 512 → Table.get? s.orderTable.items r ≠ none) →
              RefusedWith (.addItem .order ticket handle ws hs sizeIndex surface mode copies) s .order .full)
            ∧ (∀ r, o.items.length < 24 → r < 512 → Table.get? s.orderTable.items r = none →
                (∀ k, k < r → Table.get? s.orderTable.items k ≠ none) →
                ∃ t, exec (.addItem .order ticket handle ws hs sizeIndex surface mode copies) s = .next t
                  ∧ Table.get? t.orderTable.items r = some
                      { handle := handle, ws := ws.toNat, hs := hs.toNat, sizeIndex := sizeIndex.toNat, surface := u
                        mode := m, ordered := min 99 copies.toNat, waiting := min 99 copies.toNat, onWeb := 0
                        delivered := 0, writtenOff := 0, remakesUsed := 0, charged := 0, waived := false
                        faulted := false }
                  ∧ t.order? slot = some { o with items := o.items ++ [r] }
                  ∧ Replied t .order (if copies.toNat > 99 then .clamped else .ok) (n8 o.items.length)
                  ∧ OtherItemsSame [r] s t ∧ OtherOrdersSame slot s t
                  ∧ OnlyChanges [.orders, .items, .attemptCause, .port .order] s t))

/-- R7: SUBMIT and its refusals; with a window length of 0 the expiry is part of it and the order joins its class list. -/
def Obligations.SubmitStartsTheWindow : Prop :=
  ∀ s ticket, Taking s .order .submit (be16 ticket) →
    (∀ status, TicketRefusal s ticket status → RefusedWith (.submit .order ticket) s .order status)
      ∧ (∀ slot o, Names s ticket slot o →
          (o.state ≠ .opened ∨ o.items = [] → RefusedWith (.submit .order ticket) s .order .wrongState)
            ∧ (∀ ms, o.state = .opened → o.items ≠ [] →
                ms = 1000 * (match o.cls with
                  | .express => s.orderTable.windows.express
                  | .standard => s.orderTable.windows.standard
                  | .bulk => s.orderTable.windows.bulk) →
                ∃ t, exec (.submit .order ticket) s = .next t
                  ∧ t.order? slot = some
                      { o with state := .ready, eligibleAt := some (s.timeBase + BitVec.ofNat 32 ms)
                               windowEnded := o.windowEnded || decide (ms = 0) }
                  ∧ AppendedToListIf (ms = 0) o.cls slot s t
                  ∧ Replied t .order .ok (n32 ms)
                  ∧ OtherOrdersSame slot s t ∧ OnlyChanges [.orders, .classLists, .attemptCause, .port .order] s t))

/-- R8, R148, R198, R77, R205: a collection window expires once the time base reaches eligible-at, and a READY order then
joins its class list; a WAITING bin's timer that reaches its expiry stops and sets UNCOLLECTED; before its time nothing
expires. A tick adds one to the time base. A raster frame that cannot be read is discarded after its header, the fetch in
flight and its timer untouched; what goes before it where a fetch is to be sent, RowsAreFetchedAndPlaced says. That an
expiry, or the reading of such a header, is a command, without effect before its time or on a header that can be read, is the
model's choice (log entries 1, 7), and the level of ready after it is log entry 27. -/
def Obligations.TimersExpireAndTimeAdvances : Prop :=
  (∀ (s : State) (slot : Fin 64) o e, s.order? slot = some o → o.eligibleAt = some e →
      (o.windowEnded = false → 0 ≤ signedDiff s.timeBase e →
          ∃ t, exec (.windowExpiry slot) s = .next t
            ∧ t.order? slot = some { o with windowEnded := true }
            ∧ AppendedToListIf (o.state = .ready) o.cls slot s t
            ∧ OtherOrdersSame slot s t ∧ OnlyChanges [.orders, .classLists, .attemptCause] s t)
        ∧ (o.windowEnded = true ∨ signedDiff s.timeBase e < 0 → exec (.windowExpiry slot) s = .next s))
    ∧ (∀ (s : State) (k : Fin 20) b e, Table.get? s.sort.bins (k.val + 1) = some b → b.state = .waiting → b.timer = some e →
      (0 ≤ signedDiff s.timeBase e →
          ∃ t, exec (.uncollectedExpiry k) s = .next t
            ∧ Table.get? t.sort.bins (k.val + 1) = some { b with timer := none, uncollected := true }
            ∧ OtherBinsSame [k.val + 1] s t ∧ OnlyChanges [.bins] s t)
        ∧ (signedDiff s.timeBase e < 0 → exec (.uncollectedExpiry k) s = .next s))
    ∧ (∀ s : State, ∃ t, exec .timeBaseTick s = .next t ∧ t.timeBase = s.timeBase + 1 ∧ OnlyChanges [.timeBase] s t)
    ∧ (∀ s code count,
      (CannotBeRead code count → NothingToSend s →
          ∃ t, exec (.rasterFrameUnreadable code count) s = .next t ∧ LinkReleased t ∧ OnlyChanges [.rasterLink] s t)
        ∧ (¬ CannotBeRead code count → exec (.rasterFrameUnreadable code count) s = .next s))

/-- R9, R43: HOLD moves a READY or IN PRINT order to HELD and out of its class list, and voids a selected print of it; a
print of it being exposed, with its work, goes on. -/
def Obligations.HoldLeavesListAndVoids : Prop :=
  ∀ s ticket slot o, Taking s .order .hold (be16 ticket) → Names s ticket slot o →
    (o.state ≠ .ready → o.state ≠ .inPrint → RefusedWith (.hold .order ticket) s .order .wrongState)
      ∧ (o.state = .ready ∨ o.state = .inPrint →
          ∃ t, exec (.hold .order ticket) s = .next t
            ∧ t.order? slot = some { o with state := .held, paperWait := none }
            ∧ RemovedFromList o.cls slot s t
            ∧ VoidedIf (s.scheduler.selects slot = true) s t
            ∧ Replied t .order .ok [4]
            ∧ OtherOrdersSame slot s t
            ∧ OnlyChanges [.orders, .classLists, .attemptCause, .selection, .lineQueue, .work, .rows, .fetch, .port .order]
                s t)

/-- R10: RELEASE and its refusals: the order goes to IN PRINT if started is set and to READY otherwise, and joins the tail
of its class list if its window has ended. -/
def Obligations.ReleaseRejoinsAtTheTail : Prop :=
  ∀ s ticket, Taking s .order .release (be16 ticket) →
    (∀ status, TicketRefusal s ticket status → RefusedWith (.release .order ticket) s .order status)
      ∧ (∀ slot o, Names s ticket slot o →
          (o.state ≠ .held → RefusedWith (.release .order ticket) s .order .wrongState)
            ∧ (o.state = .held →
                ∃ t, exec (.release .order ticket) s = .next t
                  ∧ t.order? slot = some { o with state := if o.started then .inPrint else .ready }
                  ∧ AppendedToListIf (o.windowEnded = true) o.cls slot s t
                  ∧ Replied t .order .ok [if o.started then 3 else 2]
                  ∧ OtherOrdersSame slot s t ∧ OnlyChanges [.orders, .classLists, .attemptCause, .port .order] s t))

/-- R18: CANCEL of an OPEN order frees its record and its items at once, with the outcome FINISHED and no notice; the size
entries its items named are held by other items only. -/
def Obligations.CancelOfAnOpenOrderFreesIt : Prop :=
  ∀ s link ticket, link = .order ∨ link = .till → Taking s link .cancel (be16 ticket) →
    (∀ status, TicketRefusal s ticket status → RefusedWith (.cancel link ticket) s link status)
      ∧ (∀ slot o, Names s ticket slot o → o.state = .opened →
          ∃ t, exec (.cancel link ticket) s = .next t
            ∧ RecordFreed slot o s t
            ∧ (∀ index, t.orderTable.sizeInUse index = true ↔
                ∃ p ∈ s.orderTable.items, p.1 ∉ o.items ∧ p.2.sizeIndex = index)
            ∧ Replied t link .ok [1]
            ∧ OnlyChanges [.orders, .items, .port link] s t)

/-- R19, R20, R171: CANCEL withdraws a READY, IN PRINT, HELD or COMPLETE order, with all that is done then; where no copy
of it is on the web the notice is raised at once. A WITHDRAWN order is refused WRONG STATE. -/
def Obligations.CancelWithdraws : Prop :=
  ∀ s link ticket slot o, link = .order ∨ link = .till → Taking s link .cancel (be16 ticket) →
    Names s ticket slot o →
    (o.state = .withdrawn → RefusedWith (.cancel link ticket) s link .wrongState)
      ∧ (o.state = .ready ∨ o.state = .inPrint ∨ o.state = .held ∨ o.state = .complete →
          ∃ t, exec (.cancel link ticket) s = .next t
            ∧ t.order? slot = some (Withdrawn o (if link = .order then .orderLink else .tillLink) false
                ((s.orderTable.itemsOf slot).all fun i => i.onWeb == 0))
            ∧ WaitingWrittenOff o s t ∧ RemovedFromList o.cls slot s t ∧ WithdrawalStopsExposure slot s t
            ∧ BinsReleased o.bins s t
            ∧ t.price.amendment = s.price.amendment.filter (fun a => a.slot != slot)
            ∧ Replied t link .ok [2]
            ∧ OtherOrdersSame slot s t
            ∧ OnlyChanges [.orders, .items, .classLists, .attemptCause, .selection, .work, .rows, .fetch, .lineQueue,
                .exposure, .bins, .amendment, .port link] s t)

/-- R22, R23, R24, R150, R174, R175: COLLECT of a COMPLETE order, and COLLECT PARTIAL of one: the final goes to the
takings, the bins are released and the record is freed. The outcome FINISHED of a COMPLETE order is log entry 18. -/
def Obligations.CollectTakesTheFinalAndFrees : Prop :=
  ∀ s ticket slot o, Names s ticket slot o →
    (Taking s .till .collect (be16 ticket) →
        (o.state ≠ .complete → RefusedWith (.collect .till ticket) s .till .wrongState)
          ∧ (o.state = .complete → s.price.amends slot = true → RefusedWith (.collect .till ticket) s .till .locked)
          ∧ (o.state = .complete → s.price.amends slot = false →
              ∃ t, exec (.collect .till ticket) s = .next t ∧ RecordFreed slot o s t ∧ BinsReleased o.bins s t
                ∧ t.price.totals = { s.price.totals with
                    ordersCollected := min 65535 (s.price.totals.ordersCollected + 1)
                    takings := if o.final = 0 then s.price.totals.takings
                      else min 999999999 (s.price.totals.takings + o.final) }
                ∧ Replied t .till .ok (n32 o.final)
                ∧ OnlyChanges [.orders, .items, .bins, .totals, .port .till] s t))
      ∧ (Taking s .till .collectPartial (be16 ticket) →
          (o.state = .complete → s.price.amends slot = true → RefusedWith (.collectPartial .till ticket) s .till .locked)
            ∧ (o.state = .complete → s.price.amends slot = false →
                ∃ t, exec (.collectPartial .till ticket) s = .next t ∧ RecordFreed slot o s t ∧ BinsReleased o.bins s t
                  ∧ t.price.totals = { s.price.totals with
                      ordersCollected := min 65535 (s.price.totals.ordersCollected + 1)
                      takings := if o.final = 0 then s.price.totals.takings
                        else min 999999999 (s.price.totals.takings + o.final) }
                  ∧ Replied t .till .ok (n32 o.final ++ [1])
                  ∧ OnlyChanges [.orders, .items, .bins, .totals, .port .till] s t))

/-- R23, R21, R175: COLLECT PARTIAL of a READY, IN PRINT or HELD order takes its final and withdraws it; where no copy of
it is on the web the record is freed in the same request. -/
def Obligations.CollectPartialWithdraws : Prop :=
  ∀ s ticket slot o, Taking s .till .collectPartial (be16 ticket) → Names s ticket slot o →
    (o.state = .opened ∨ o.state = .withdrawn → RefusedWith (.collectPartial .till ticket) s .till .wrongState)
      ∧ (o.state = .ready ∨ o.state = .inPrint ∨ o.state = .held → s.price.amends slot = true →
          RefusedWith (.collectPartial .till ticket) s .till .locked)
      ∧ (o.state = .ready ∨ o.state = .inPrint ∨ o.state = .held → s.price.amends slot = false →
          ∃ t, exec (.collectPartial .till ticket) s = .next t
            ∧ t.price.totals = { s.price.totals with
                ordersCollected := min 65535 (s.price.totals.ordersCollected + 1)
                partialCollections := min 65535 (s.price.totals.partialCollections + 1)
                takings := if o.final = 0 then s.price.totals.takings
                  else min 999999999 (s.price.totals.takings + o.final) }
            ∧ RemovedFromList o.cls slot s t ∧ WithdrawalStopsExposure slot s t ∧ BinsReleased o.bins s t
            ∧ (if (s.orderTable.itemsOf slot).all (fun i => i.onWeb == 0) = true then
                RecordFreed slot o s t ∧ Replied t .till .ok (n32 o.final ++ [1])
              else
                t.order? slot = some (Withdrawn o .nobody true false) ∧ WaitingWrittenOff o s t
                  ∧ OtherOrdersSame slot s t ∧ Replied t .till .ok (n32 o.final ++ [2]))
            ∧ OnlyChanges [.orders, .items, .classLists, .attemptCause, .selection, .work, .rows, .fetch, .lineQueue,
                .exposure, .bins, .totals, .port .till] s t)

/-- R25, R26, R46, R136, R155, R161, R173, R178, R201, R202, R204, R206: READ ORDER, READ ITEM, READ SIZE, READ BIN, READ
PRICE, READ TOTALS, READ MAGAZINE and READ WEB: their refusals MALFORMED for an item number, an index, a bin, a position or a
part, and the record they answer, laid out byte by byte; they change nothing. READ WEB uses up free values of the model, for
the bytes to which the manual gives no value (log entry 3). -/
def Obligations.ReadsAnswerAndChangeNothing : Prop :=
  FieldValues
    ∧ (∀ s link ticket slot o, Taking s link .readOrder (be16 ticket) → Names s ticket slot o →
      ∃ t, exec (.readOrder link ticket) s = .next t ∧ Replied t link .ok (orderLayout s slot o)
        ∧ OnlyChanges [.port link] s t)
    ∧ (∀ s ticket item slot o, Taking s .order .readItem (be16 ticket ++ [item]) → Names s ticket slot o →
        (o.items.length ≤ item.toNat → RefusedWith (.readItem .order ticket item) s .order .malformed)
          ∧ (∀ r i, o.items[item.toNat]? = some r → Table.get? s.orderTable.items r = some i →
              ∃ t, exec (.readItem .order ticket item) s = .next t ∧ Replied t .order .ok i.layout
                ∧ OnlyChanges [.port .order] s t))
    ∧ (∀ s index, Taking s .order .readSize [index] →
        (15 < index.toNat → RefusedWith (.readSize .order index) s .order .malformed)
          ∧ (∀ e, index.toNat ≤ 15 → Table.get? s.orderTable.sizes index.toNat = some e →
              ∃ t, exec (.readSize .order index) s = .next t ∧ Replied t .order .ok e.layout
                ∧ OnlyChanges [.port .order] s t))
    ∧ (∀ s bin, Taking s .till .readBin [bin] →
        (bin.toNat = 0 ∨ 20 < bin.toNat → RefusedWith (.readBin .till bin) s .till .malformed)
          ∧ (∀ b, 1 ≤ bin.toNat → bin.toNat ≤ 20 → Table.get? s.sort.bins bin.toNat = some b →
              ∃ t, exec (.readBin .till bin) s = .next t ∧ Replied t .till .ok (binLayout s b)
                ∧ OnlyChanges [.port .till] s t))
    ∧ (∀ s ticket item slot o, Taking s .till .readPrice (be16 ticket ++ [item]) → Names s ticket slot o →
        (item = 255#8 →
            ∃ t, exec (.readPrice .till ticket item) s = .next t ∧ Replied t .till .ok (priceLayout s slot o)
              ∧ OnlyChanges [.port .till] s t)
          ∧ (item ≠ 255#8 → o.items.length ≤ item.toNat →
              RefusedWith (.readPrice .till ticket item) s .till .malformed)
          ∧ (∀ r i p, item ≠ 255#8 → o.items[item.toNat]? = some r → Table.get? s.orderTable.items r = some i →
              Table.get? s.price.tariff i.sizeIndex = some p →
              ∃ t, exec (.readPrice .till ticket item) s = .next t
                ∧ Replied t .till .ok (priceLayout s slot o ++ priceItemLayout s o i p)
                ∧ OnlyChanges [.port .till] s t))
    ∧ (∀ s, Taking s .till .readTotals [] →
        ∃ t, exec (.readTotals .till) s = .next t
          ∧ Replied t .till .ok (s.price.totals.layout
              ++ n8 (flagSum [(0, s.price.lock), (1, s.price.amendment.isSome), (2, s.price.closedDay.read)])
              ++ n16 (match s.price.amendment with | some a => a.ticket | none => 0) ++ n16 s.price.closedDay.number)
          ∧ OnlyChanges [.port .till] s t)
    ∧ (∀ s leader due, Taking s .engine .readMagazine [] →
        (s.web.leaderExposed = true → leader = 2#8) →
        (s.web.leaderExposed = false → leader = if s.scheduler.leaderPending then 1 else 0) →
        (PatchDue s → due = 1#8) → (¬ PatchDue s → due = 0#8) →
        ∃ t, exec (.readMagazine .engine) s = .next t
          ∧ Replied t .engine .ok (s.scheduler.magA.layout ++ s.scheduler.magB.layout
              ++ [magazineByte s.scheduler.active, magazineByte s.scheduler.switchRequested, leader]
              ++ n8 s.scheduler.patchCounter ++ [due])
          ∧ OnlyChanges [.port .engine] s t)
    ∧ (∀ s position part, Taking s .engine .readWeb [position, part] →
        (127 < position.toNat ∨ 4 < part.toNat → RefusedWith (.readWeb .engine position part) s .engine .malformed)
          ∧ (∀ reference fields, position.toNat ≤ 127 → IsReference s reference →
              (part, fields) ∈
                [(0#8, webLayout s position.toNat reference),
                 (1#8, match s.web.lastCut with
                    | none => List.replicate 21 0
                    | some r => [1] ++ r.layout),
                 (2#8, densityLayout s),
                 (3#8, match s.density.lastReading with
                    | none => List.replicate 22 0
                    | some r => [1] ++ r.layout),
                 (4#8, channelsLayout s)] →
              ∃ t, exec (.readWeb .engine position part) s = .next t ∧ Replied t .engine .ok fields
                ∧ OnlyChanges [.freeCount, .port .engine] s t))

/-- R27: WRITE SIZE's tests in their order, and the entry it stores, each field clamped into its range. -/
def Obligations.WriteSizeTestsAndClamps : Prop :=
  ∀ s index enabled wp lp paperWidth group,
    Taking s .order .writeSize ([index, enabled] ++ be16 wp ++ be16 lp ++ be16 paperWidth ++ [group]) →
    (index.toNat > 15 ∨ group ∉ [1#8, 2#8] →
        RefusedWith (.writeSize .order index enabled wp lp paperWidth group) s .order .malformed)
      ∧ (index.toNat ≤ 15 → group ∈ [1#8, 2#8] → (∃ p ∈ s.orderTable.items, p.2.sizeIndex = index.toNat) →
          RefusedWith (.writeSize .order index enabled wp lp paperWidth group) s .order .locked)
      ∧ (∀ g, index.toNat ≤ 15 → (group, g) ∈ [(1#8, PrintGroup.small), (2#8, .large)] →
          (∀ p ∈ s.orderTable.items, p.2.sizeIndex ≠ index.toNat) →
          ∃ t, exec (.writeSize .order index enabled wp lp paperWidth group) s = .next t
            ∧ Table.get? t.orderTable.sizes index.toNat = some
                { enabled := enabled != 0, wp := max 1 (min 4096 wp.toNat), lp := max 1 (min 12000 lp.toNat)
                  paperWidth := max 89 (min 305 paperWidth.toNat), group := g }
            ∧ (∀ k, k ≠ index.toNat → Table.get? t.orderTable.sizes k = Table.get? s.orderTable.sizes k)
            ∧ Replied t .order
                (if 1 ≤ wp.toNat ∧ wp.toNat ≤ 4096 ∧ 1 ≤ lp.toNat ∧ lp.toNat ≤ 12000 ∧ 89 ≤ paperWidth.toNat
                  ∧ paperWidth.toNat ≤ 305 then .ok else .clamped)
                ([if enabled = 0 then 0 else 1] ++ n16 (max 1 (min 4096 wp.toNat)) ++ n16 (max 1 (min 12000 lp.toNat))
                  ++ n16 (max 89 (min 305 paperWidth.toNat)) ++ [group])
            ∧ OnlyChanges [.sizes, .port .order] s t)

/-- R28, R29, R149, R53, R119, R108, R71, R91, R49: the setting requests store every field clamped into its range, answer
CLAMPED where a field was clamped, and change nothing else. -/
def Obligations.SettingsAreClampedAndStored : Prop :=
  (∀ s e m b, Taking s .order .setWindows (be16 e ++ be16 m ++ be16 b) →
      ∃ t, exec (.setWindows .order e m b) s = .next t
        ∧ t.orderTable.windows =
            { express := min 255 e.toNat, standard := min 255 m.toNat, bulk := min 255 b.toNat }
        ∧ Replied t .order (if e.toNat ≤ 255 ∧ m.toNat ≤ 255 ∧ b.toNat ≤ 255 then .ok else .clamped)
            (n16 (min 255 e.toNat) ++ n16 (min 255 m.toNat) ++ n16 (min 255 b.toNat))
        ∧ OnlyChanges [.windows, .port .order] s t)
    ∧ (∀ s n, Taking s .order .setRemakeLimit [n] →
        ∃ t, exec (.setRemakeLimit .order n) s = .next t ∧ t.orderTable.remakeLimit = min 3 n.toNat
          ∧ Replied t .order (if n.toNat ≤ 3 then .ok else .clamped) (n8 (min 3 n.toNat))
          ∧ OnlyChanges [.remakeLimit, .port .order] s t)
    ∧ (∀ s m, Taking s .till .setUncollectedTime (be16 m) →
        ∃ t, exec (.setUncollectedTime .till m) s = .next t ∧ t.sort.uncollectedTime = min 1440 m.toNat
          ∧ Replied t .till (if m.toNat ≤ 1440 then .ok else .clamped) (n16 (min 1440 m.toNat))
          ∧ (∀ n b, Table.get? s.sort.bins n = some b → Table.get? t.sort.bins n =
              some (if m.toNat = 0 then { b with timer := none } else b))
          ∧ OnlyChanges [.bins, .uncollectedTime, .port .till] s t)
    ∧ (∀ s p d e t, Taking s .engine .setWeb (be32 p ++ be16 d ++ be16 e ++ be16 t) →
        ∃ u, exec (.setWeb .engine p d e t) s = .next u
          ∧ u.web.lpath = max 1000 (min 250000 p.toNat) ∧ u.web.stallTime = max 100 (min 10000 t.toNat)
          ∧ u.scheduler.leaderLength = min 5000 d.toNat ∧ u.scheduler.endReserve = e.toNat
          ∧ (∀ m, u.scheduler.magazine m = { s.scheduler.magazine m with
              low := (s.scheduler.magazine m).present && decide ((s.scheduler.magazine m).remaining ≤ e.toNat) })
          ∧ Replied u .engine
              (if 1000 ≤ p.toNat ∧ p.toNat ≤ 250000 ∧ d.toNat ≤ 5000 ∧ 100 ≤ t.toNat ∧ t.toNat ≤ 10000 then .ok
                else .clamped)
              (n32 (max 1000 (min 250000 p.toNat)) ++ n16 (min 5000 d.toNat) ++ n16 e.toNat
                ++ n16 (max 100 (min 10000 t.toNat)))
          ∧ OnlyChanges [.lpath, .stallTime, .paperSettings, .magazines, .attemptCause, .port .engine] s u)
    ∧ (∀ s k t0 t1 t2 a q r g0 g1 g2,
        Taking s .engine .setDensity
          (be16 k ++ be16 t0 ++ be16 t1 ++ be16 t2 ++ [a] ++ be16 q ++ [r] ++ be16 g0 ++ be16 g1 ++ be16 g2) →
        ∃ u, exec (.setDensity .engine k t0 t1 t2 a q r g0 g1 g2) s = .next u
          ∧ u.density.k = min 255 k.toNat
          ∧ u.density.targets = { c0 := min 1023 t0.toNat, c1 := min 1023 t1.toNat, c2 := min 1023 t2.toNat }
          ∧ u.density.a = min 15 a.toNat ∧ u.density.q = max 1 (min 255 q.toNat)
          ∧ u.channel.repeatTolerance = min 15 r.toNat
          ∧ u.resampler.gains = { c0 := max 256 (min 767 g0.toNat), c1 := max 256 (min 767 g1.toNat)
                                  c2 := max 256 (min 767 g2.toNat) }
          ∧ Replied u .engine
              (if k.toNat ≤ 255 ∧ t0.toNat ≤ 1023 ∧ t1.toNat ≤ 1023 ∧ t2.toNat ≤ 1023 ∧ a.toNat ≤ 15
                ∧ 1 ≤ q.toNat ∧ q.toNat ≤ 255 ∧ r.toNat ≤ 15 ∧ 256 ≤ g0.toNat ∧ g0.toNat ≤ 767 ∧ 256 ≤ g1.toNat
                ∧ g1.toNat ≤ 767 ∧ 256 ≤ g2.toNat ∧ g2.toNat ≤ 767 then .ok else .clamped)
              (n16 (min 255 k.toNat) ++ n16 (min 1023 t0.toNat) ++ n16 (min 1023 t1.toNat) ++ n16 (min 1023 t2.toNat)
                ++ n8 (min 15 a.toNat) ++ n16 (max 1 (min 255 q.toNat)) ++ n8 (min 15 r.toNat)
                ++ n16 (max 256 (min 767 g0.toNat)) ++ n16 (max 256 (min 767 g1.toNat))
                ++ n16 (max 256 (min 767 g2.toNat)))
          ∧ OnlyChanges [.densitySettings, .repeatTolerance, .gains, .attemptCause, .port .engine] s u)

/-! ## The scheduler and the magazines -/

/-- R47, R48, R49, R43, R45, R50: LOAD ROLL and UNLOAD ROLL, their tests in order and what they do to the magazine's
record; on the active magazine they void a standing selection. -/
def Obligations.LoadAndUnloadRoll : Prop :=
  (∀ s magazine width surface length,
      Taking s .engine .loadRoll ([magazine] ++ be16 width ++ [surface] ++ be32 length) →
      (magazine ∉ [1#8, 2#8] ∨ width.toNat < 89 ∨ width.toNat > 305 ∨ surface ∉ [1#8, 2#8, 3#8] →
          RefusedWith (.loadRoll .engine magazine width surface length) s .engine .malformed)
        ∧ (∀ m u, (magazine, m) ∈ [(1#8, Magazine.a), (2#8, .b)] → 89 ≤ width.toNat → width.toNat ≤ 305 →
            (surface, u) ∈ [(1#8, Surface.gloss), (2#8, .matt), (3#8, .lustre)] →
            (s.scheduler.active = some m → s.exposing = true →
                RefusedWith (.loadRoll .engine magazine width surface length) s .engine .wrongState)
              ∧ (s.scheduler.active ≠ some m ∨ s.exposing = false →
                  ∃ t r, exec (.loadRoll .engine magazine width surface length) s = .next t
                    ∧ r = ({ present := true, width := width.toNat, surface := u, remaining := min 2500000 length.toNat
                             low := decide (min 2500000 length.toNat ≤ s.scheduler.endReserve) } : MagazineRecord)
                    ∧ t.scheduler.magazine m = r ∧ t.scheduler.magazine m.other = s.scheduler.magazine m.other
                    ∧ t.scheduler.switchPatch = (s.scheduler.switchPatch || decide (s.scheduler.active = some m))
                    ∧ t.scheduler.patchCounter = s.scheduler.patchCounter
                    ∧ t.scheduler.resetPatch = s.scheduler.resetPatch
                    ∧ t.scheduler.attemptCause = true
                    ∧ VoidedIf (s.scheduler.active = some m) s t
                    ∧ Replied t .engine (if length.toNat ≤ 2500000 then .ok else .clamped) r.layout
                    ∧ OnlyChanges [.magazines, .patchCadence, .attemptCause, .selection, .lineQueue, .work, .rows, .fetch,
                        .port .engine] s t)))
    ∧ (∀ s magazine, Taking s .engine .unloadRoll [magazine] →
        (magazine ∉ [1#8, 2#8] → RefusedWith (.unloadRoll .engine magazine) s .engine .malformed)
          ∧ (∀ m, (magazine, m) ∈ [(1#8, Magazine.a), (2#8, .b)] →
              (s.scheduler.active = some m → s.exposing = true →
                  RefusedWith (.unloadRoll .engine magazine) s .engine .wrongState)
                ∧ (s.scheduler.active ≠ some m ∨ s.exposing = false →
                    ∃ t r, exec (.unloadRoll .engine magazine) s = .next t
                      ∧ r = { s.scheduler.magazine m with present := false, low := false }
                      ∧ t.scheduler.magazine m = r ∧ t.scheduler.magazine m.other = s.scheduler.magazine m.other
                      ∧ t.scheduler.switchRequested =
                          (if s.scheduler.switchRequested = some m then none else s.scheduler.switchRequested)
                      ∧ VoidedIf (s.scheduler.active = some m) s t
                      ∧ Replied t .engine .ok r.layout
                      ∧ OnlyChanges [.magazines, .switchRequest, .attemptCause, .selection, .lineQueue, .work, .rows,
                          .fetch, .port .engine] s t)))

/-- R51, R52, R45, R43: MAGAZINE SWITCHED and its refusals; it makes the magazine active, ends a switch request for it,
voids a standing selection, sets switch-patch and makes a leader pending unless the leader length is 0. -/
def Obligations.MagazineSwitchedTakesTheMagazine : Prop :=
  ∀ s magazine, Taking s .engine .magazineSwitched [magazine] →
    (magazine ∉ [1#8, 2#8] → RefusedWith (.magazineSwitched .engine magazine) s .engine .malformed)
      ∧ (magazine ∈ [1#8, 2#8] → s.exposing = true ∨ s.web.leaderExposed = true →
          RefusedWith (.magazineSwitched .engine magazine) s .engine .wrongState)
      ∧ (∀ m, (magazine, m) ∈ [(1#8, Magazine.a), (2#8, .b)] → s.exposing = false → s.web.leaderExposed = false →
          ∃ t, exec (.magazineSwitched .engine magazine) s = .next t
            ∧ t.scheduler.active = some m
            ∧ t.scheduler.switchRequested =
                (if s.scheduler.switchRequested = some m then none else s.scheduler.switchRequested)
            ∧ VoidedIf True s t
            ∧ t.scheduler.switchPatch = true ∧ t.scheduler.patchCounter = s.scheduler.patchCounter
            ∧ t.scheduler.resetPatch = s.scheduler.resetPatch
            ∧ t.scheduler.leaderPending = decide (s.scheduler.leaderLength ≠ 0)
            ∧ t.scheduler.attemptCause = true
            ∧ Replied t .engine .ok []
            ∧ OnlyChanges [.active, .switchRequest, .selection, .lineQueue, .work, .rows, .fetch, .patchCadence,
                .leaderPending, .attemptCause, .port .engine] s t)

/-- R33 to R39 step 1, R40, R41, R56 to R60, R66, R72: a selection attempt takes a due patch that fits; otherwise the first
order whose next print fits of the first class that the scan does not go past. The scan goes past a class of which no order
fits the active magazine and whose leading order, if it has one, does not fit the other magazine either; that leading order
takes its paper-wait mark. An order with no next print is passed over. The work taken starts at line 0 with both row slots
empty; a print's has the geometry of its mode and sizes, and its first needed row is requested; a patch requests nothing.
Where no attempt is due, nothing is done (log entry 1). -/
def Obligations.SelectionAttemptChooses : Prop :=
  (∀ s : State, ¬ AttemptMade s → exec .selectionAttempt s = .next s)
    ∧ (∀ s active, s.scheduler.active = some active → AttemptMade s →
      (PatchDue s → 100 + s.scheduler.endReserve ≤ (s.scheduler.magazine active).remaining →
        ∃ t, exec .selectionAttempt s = .next t ∧ t.scheduler.selection = some .patch
          ∧ t.resampler.work = some
              { owner := .selection, job := .patch ((s.scheduler.magazine active).width * 25 / 2), nextLine := 0 }
          ∧ t.resampler.rowA = none ∧ t.resampler.rowB = none ∧ Same s t .fetch ∧ Same s t .nextTag
          ∧ OnlyChanges [.selection, .work, .rows, .attemptCause] s t)
      ∧ (∀ c passed slot rest n i e, NoPatchTaken s active → (∀ h ∈ c.above, PassedOver s active h) →
          s.scheduler.classList c = passed ++ slot :: rest → NoneFits s active passed →
          HasNextPrint s slot n i e → FitsPaper (s.scheduler.magazine active) s.scheduler.endReserve i e →
          ∃ t geometry job work, exec .selectionAttempt s = .next t
            ∧ t.scheduler.selection = some (.print slot n (i.ordered - i.waiting + 1))
            ∧ (1 ≤ e.wp → 1 ≤ e.lp → IsGeometry i.mode i.ws i.hs e.wp e.lp geometry)
            ∧ job = ({ slot := slot, item := n, copy := i.ordered - i.waiting + 1, handle := i.handle, ws := i.ws
                       hs := i.hs, mode := i.mode, wp := e.wp, lp := e.lp, geometry := geometry } : PrintJob)
            ∧ work = ({ owner := .selection, nextLine := 0, job := .print job } : Work)
            ∧ t.resampler.work = some work
            ∧ t.resampler.rowA = none ∧ t.resampler.rowB = none
            ∧ (∀ lo hi, NeedsRows work lo hi → s.fetch.inFlight = none →
                t.fetch.inFlight = some { tag := s.fetch.nextTag, handle := i.handle, level := geometry.level, row := lo
                                          expected := geometry.wsN }
                  ∧ t.fetch.timer = none ∧ t.fetch.nextTag = s.fetch.nextTag + 1)
            ∧ ((∀ lo hi, ¬ NeedsRows work lo hi) ∨ s.fetch.inFlight.isSome = true →
                Same s t .fetch ∧ Same s t .nextTag)
            ∧ t.order? slot = (s.order? slot).map (fun o => { o with paperWait := none })
            ∧ LeadersMarked c.above [slot] s t
            ∧ OnlyChanges [.orders, .selection, .work, .rows, .fetch, .nextTag, .attemptCause] s t))

/-- R39 steps 2 to 4, R40, R50: of the first class that the scan does not go past, where no order fits the active magazine,
the leading order's next print fits the other magazine: SWITCH REQUESTED is raised for it. Where the scan goes past every
class nothing is selected and nothing requested. Every leading order the scan goes past takes the mark of the paper it
needs. R35: of all commands, those that bring about one of the events of R35 call for a new attempt, and an attempt made uses
up what called for it. What power-on leaves is log entry 16; a byte that completes a request's frame does what the request
does (LastByteTakesRequest). That the start conditions, a patch due and the end reserve are compared before and after the
whole command is log entry 20. -/
def Obligations.SelectionAttemptRequestsOrMarks : Prop :=
  (∀ s active, s.scheduler.active = some active → AttemptMade s → NoPatchTaken s active →
    (∀ c slot n i e, (∀ h ∈ c.above, PassedOver s active h) → NoneFits s active (s.scheduler.classList c) →
        Leads s c slot n i e → FitsPaper (s.scheduler.magazine active.other) s.scheduler.endReserve i e →
        ∃ t, exec .selectionAttempt s = .next t ∧ t.scheduler.switchRequested = some active.other
          ∧ t.order? slot = (s.order? slot).map (fun o => { o with paperWait := none })
          ∧ LeadersMarked c.above [slot] s t ∧ OnlyChanges [.orders, .switchRequest, .attemptCause] s t)
      ∧ ((∀ c, PassedOver s active c) →
          ∃ t, exec .selectionAttempt s = .next t ∧ LeadersMarked [.express, .standard, .bulk] [] s t
            ∧ OnlyChanges [.orders, .attemptCause] s t))
    ∧ ∀ c s t, c ≠ .powerOnReset → (∀ link byte, c ≠ .linkByteComplete link byte) → ListsAgree s → PoolAndGross s →
        CopiesCounted s → exec c s = .next t →
        (t.scheduler.attemptCause = true ↔ AttemptCalledFor c s t
          ∨ (s.scheduler.attemptCause = true ∧ ¬ (c = .selectionAttempt ∧ AttemptMade s)))

/-! ## The Resampler and the raster link -/

/-- R56, R61 to R70, R72, R84, R85: while fewer than 8 lines are queued and the rows it needs are held, the Resampler produces
the next line of its work, with the codes of the manual at the gains and offsets of the moment: code 0 on a border row and
outside a FIT image, held positions in FILL, target plus offset for a patch. A line of the selection or a line still to come
of the print being exposed joins the queue; any other is discarded. Next line advances, and the row pair is kept for the next
image line, over border rows: rows not needed are dropped and the lowest needed row not held is requested. The last line ends
the work and requests nothing. Otherwise no line is produced (log entry 1). -/
def Obligations.LineProductionQueuesOrDiscards : Prop :=
  (∀ s w codes, s.resampler.work = some w → LineCodes s w codes → s.channel.queue.length < 8 →
    ∃ t, exec .lineProduced s = .next t
      ∧ t.channel.queue =
          (match w.owner, s.channel.exposure with
            | .selection, _ => s.channel.queue ++
                [{ owner := .selection, number := w.nextLine, kind := w.job.kind, codes := codes }]
            | .exposed, some e =>
              if w.nextLine < e.linesExposed then s.channel.queue
              else s.channel.queue ++ [{ owner := .exposed, number := w.nextLine, kind := w.job.kind, codes := codes }]
            | .exposed, none => s.channel.queue
            | .trailing _, _ => s.channel.queue)
      ∧ (w.nextLine + 1 < (match w.job with | .print p => p.lp | .patch _ => 100) →
          t.resampler.work = some { w with nextLine := w.nextLine + 1 }
            ∧ RowsSeenTo { w with nextLine := w.nextLine + 1 } s t)
      ∧ ((match w.job with | .print p => p.lp | .patch _ => 100) ≤ w.nextLine + 1 →
          t.resampler.work = none ∧ t.resampler.rowA = none ∧ t.resampler.rowB = none
            ∧ Same s t .fetch ∧ Same s t .nextTag ∧ t.scheduler.attemptCause = true)
      ∧ OnlyChanges [.lineQueue, .work, .rows, .fetch, .nextTag, .attemptCause] s t)
    ∧ (∀ s : State, s.resampler.work = none ∨ 8 ≤ s.channel.queue.length
        ∨ (∃ w, s.resampler.work = some w ∧ ∀ codes, ¬ LineCodes s w codes) →
        exec .lineProduced s = .next s)

/-- R66, R76, R77, R205: a ROW FETCH frame is sent and its fetch's timer of 250 ms starts as its select period ends, also
where that fetch has been abandoned meanwhile; while a reply frame is clocked in nothing is sent. The bytes of a reply frame
spell ROW DATA, ROW FAULT or a frame that cannot be read. A fetch being sent or waiting goes before a reply frame that is not
begun. ROW DATA with the tag of the fetch in flight and the expected pixels puts its row in an empty row slot and ends the
fetch; the other row of the pair stays, a row needed twice stands in both slots, and the second row is then requested with
the next tag if it is not held. A frame with another tag, or with no
fetch in flight, is discarded. The empty slot taken and the select period as one event are log entries 24 and 6; the record
of the frame sent is 16, and that ready is looked at afresh after a reply frame is 27. -/
def Obligations.RowsAreFetchedAndPlaced : Prop :=
  (∀ s : State,
      (∀ f, s.fetch.link.phase = .idle → s.fetch.inFlight = some f → s.fetch.timer = none →
          ∃ t, exec .rowFetch s = .next t ∧ t.fetch.inFlight = some f ∧ t.fetch.timer = some (s.timeBase + 250)
            ∧ t.fetch.frameSent = some ([0x01#8, f.tag] ++ be32 f.handle ++ n8 f.level ++ n16 f.row)
            ∧ OnlyChanges [.fetch, .frameSent] s t)
        ∧ (∀ frame, s.fetch.link.phase = .sending frame →
            ∃ t, exec .rowFetch s = .next t ∧ t.fetch.frameSent = some frame
              ∧ t.fetch.link = { s.fetch.link with phase := .idle } ∧ t.fetch.inFlight = s.fetch.inFlight
              ∧ (∀ f, s.fetch.inFlight = some f → s.fetch.timer = none →
                  frame = [0x01#8, f.tag] ++ be32 f.handle ++ n8 f.level ++ n16 f.row →
                  t.fetch.timer = some (s.timeBase + 250))
              ∧ (s.fetch.inFlight = none ∨ s.fetch.timer.isSome = true
                  ∨ (∀ f, s.fetch.inFlight = some f → frame ≠ [0x01#8, f.tag] ++ be32 f.handle ++ n8 f.level ++ n16 f.row) →
                  Same s t .fetch)
              ∧ OnlyChanges [.fetch, .frameSent, .rasterLink] s t)
        ∧ (NothingToSend s → exec .rowFetch s = .next s)
        ∧ (∀ u, s.fetch.link.phase ≠ .receiving → exec .rowFetch s = .next u →
            (∀ tag pixels, exec (.rowData tag pixels) s = exec (.rowData tag pixels) u)
              ∧ (∀ tag reason, exec (.rowFault tag reason) s = exec (.rowFault tag reason) u)
              ∧ (∀ code count, CannotBeRead code count →
                  exec (.rasterFrameUnreadable code count) s = exec (.rasterFrameUnreadable code count) u)))
    ∧ (∀ tag pixels, 1 ≤ pixels.length → pixels.length ≤ 16384 →
        decodeReplyFrame ([0x81#8, tag] ++ n16 pixels.length ++ pixels.flatMap fun p => [p.c0, p.c1, p.c2]) =
          some (.rowData tag pixels))
    ∧ (∀ tag reason, decodeReplyFrame ([0x82#8, tag] ++ be16 reason) = some (.rowFault tag reason))
    ∧ (∀ tag code count, CannotBeRead code count →
        decodeReplyFrame ([code, tag] ++ be16 count) = some (.rasterFrameUnreadable code count))
    ∧ (∀ s f pixels p w other, NothingToSend s →
        s.fetch.inFlight = some f → pixels.length = f.expected → 1 ≤ f.expected → f.expected ≤ 16384 →
        s.resampler.work = some w → w.job = .print p →
        NeedsRows w (min f.row other) (max f.row other) →
        s.resampler.rowA = none ∨ (s.resampler.rowB = none ∧ (∃ a, s.resampler.rowA = some a ∧ a.index = other)
          ∧ f.row ≠ other) →
        ∃ t, exec (.rowData f.tag pixels) s = .next t
          ∧ RowHeld t f.row { index := f.row, pixels := pixels }
          ∧ (∀ row, RowHeld s other row → f.row ≠ other → RowHeld t other row)
          ∧ (f.row = other → ∃ a b, t.resampler.rowA = some a ∧ t.resampler.rowB = some b ∧ a.index = f.row
              ∧ b.index = f.row)
          ∧ ((∃ row, RowHeld s other row) ∨ f.row = other →
              t.fetch.inFlight = none ∧ t.fetch.timer = none ∧ t.fetch.nextTag = s.fetch.nextTag)
          ∧ ((∀ row, ¬ RowHeld s other row) → f.row ≠ other →
              t.fetch.inFlight = some { tag := s.fetch.nextTag, handle := p.handle, level := p.geometry.level, row := other
                                        expected := p.geometry.wsN }
                ∧ t.fetch.timer = none ∧ t.fetch.nextTag = s.fetch.nextTag + 1)
          ∧ LinkReleased t
          ∧ OnlyChanges [.rows, .fetch, .nextTag, .rasterLink, .attemptCause] s t)
    ∧ (∀ s tag, NothingToSend s → (∀ f, s.fetch.inFlight = some f → f.tag ≠ tag) →
        (∀ pixels, ∃ t, exec (.rowData tag pixels) s = .next t ∧ LinkReleased t ∧ OnlyChanges [.rasterLink] s t)
          ∧ (∀ reason, ∃ t, exec (.rowFault tag reason) s = .next t ∧ LinkReleased t ∧ OnlyChanges [.rasterLink] s t))

/-- R11, R15, R78, R80, R81, R82: a raster fault of a print of a READY, IN PRINT or HELD order stops the timer, is recorded
and counted, strikes the item and its order, and goes by the print's phase: a selection is voided, a print being exposed is
blanked and suspect, and of a closed print the segment still in the map is suspect. The order is HELD, or COMPLETE where
nothing of it is left. A closed print is known by its start odometer, and ready is looked at afresh after a reply frame (log
entries 15, 27). -/
def Obligations.RasterFaultStrikesItemAndOrder : Prop :=
  ∀ s f w p o i r command cause, s.fetch.inFlight = some f → IsRasterFault s f command cause →
    s.resampler.work = some w → w.job = .print p → (w.owner = .selection → s.scheduler.selects p.slot = true) →
    s.order? p.slot = some o → o.state = .ready ∨ o.state = .inPrint ∨ o.state = .held →
    o.items[p.item]? = some r → Table.get? s.orderTable.items r = some i →
    ∃ (t : State) (left : Bool), exec command s = .next t
      ∧ (left = true ↔ ∃ k ∈ o.items, ∃ j, Table.get? t.orderTable.items k = some j ∧ (j.waiting ≠ 0 ∨ j.onWeb ≠ 0))
      ∧ t.fetch.lastFault = some { cause := cause, ticket := o.ticket, item := p.item, level := f.level, row := f.row
                                   phase := if w.owner = .selection then .beforeStart else .during }
      ∧ t.fetch.faultCount = min 65535 (s.fetch.faultCount + 1)
      ∧ WorkEnded t
      ∧ Table.get? t.orderTable.items r = some
          { i with waiting := 0, writtenOff := i.writtenOff + i.waiting, faulted := true }
      ∧ OtherItemsSame [r] s t
      ∧ t.order? p.slot = some
          { o with
            state := if left then .held else .complete
            faulted := true
            faultUnreported := true
            completeUnreported := o.completeUnreported || !left
            paperWait := if o.state = .held ∧ left = true then o.paperWait else none }
      ∧ OtherOrdersSame p.slot s t
      ∧ (o.state ≠ .held ∨ left = false → RemovedFromList o.cls p.slot s t)
      ∧ (o.state = .held → left = true → Same s t .classLists)
      ∧ (∀ k b, Table.get? s.sort.bins k = some b → Table.get? t.sort.bins k =
          some (if left = false ∧ k ∈ o.bins then b.afterCompletion s else b))
      ∧ (w.owner = .selection → t.scheduler.selection = none ∧ t.web.map = s.web.map
          ∧ t.channel.queue = s.channel.queue.filter (fun l => l.owner != .selection))
      ∧ (w.owner = .exposed → ExposedMarkedSuspect s t ∧ (∀ l ∈ t.channel.queue, l.owner ≠ .exposed)
          ∧ t.channel.exposure = s.channel.exposure.map (fun e => { e with blanked := true }))
      ∧ (∀ start, w.owner = .trailing start → t.web.map =
          s.web.map.map (fun g => if g.start = start then { g with suspect := true } else g))
      ∧ (command ≠ .fetchTimeout → LinkReleased t)
      ∧ (command = .fetchTimeout ∨ NothingToSend s → Same s t .frameSent)
      ∧ OnlyChanges [.orders, .items, .classLists, .attemptCause, .selection, .work, .rows, .fetch, .lastFault, .frameSent,
          .rasterLink, .lineQueue, .exposure, .map, .bins] s t

/-! ## The strobe -/

/-- R49, R113, R114, R128: at every strobe, whatever it carries, the odometer increases by one and the active magazine's
remaining decreases by one, held at 0, if it is present, with its low flag set from the end reserve. A stall monitor that is
not OFF returns to FIRST, one stall time ahead, and STALL ends; the first segment in an empty map starts the monitor while
the transport is RUN; otherwise it stays OFF. -/
def Obligations.EveryStrobeAdvancesOdometerAndRoll : Prop :=
  ∀ s : State, ∃ t, exec .lineStrobe s = .next t
    ∧ t.web.odometer = s.web.odometer + 1
    ∧ (∀ m, t.scheduler.magazine m =
        if s.scheduler.active = some m ∧ (s.scheduler.magazine m).present = true then
          { s.scheduler.magazine m with
            remaining := (s.scheduler.magazine m).remaining - 1
            low := decide ((s.scheduler.magazine m).remaining - 1 ≤ s.scheduler.endReserve) }
        else s.scheduler.magazine m)
    ∧ (s.web.stage ≠ .off ∨ s.web.map = [] ∧ s.web.transport = .run →
        t.web.stage = .first (s.timeBase + BitVec.ofNat 32 s.web.stallTime) ∧ t.web.stall = false)
    ∧ (s.web.stage = .off → s.web.map ≠ [] ∨ s.web.transport = .stop → Same s t .stall)
    ∧ OnlyChanges [.orders, .items, .selection, .patchCadence, .magazines, .leaderPending, .attemptCause, .work, .rows,
        .fetch, .lineQueue, .exposure, .heads, .map, .odometer, .stall, .webFault, .unlisted, .leaderTarget, .mark] s t

/-- R42, R43, R52, R86, R93, R113 to R117, R122, R128, R131, R132: a strobe at which nothing is exposed but a leader, and no
selection begins: code 0 at every head. A selection that would begin but does not fit is voided; one that waits, waits on. A
leader being exposed grows and closes at the length it opened with; a pending leader opens while it may, closing an open
BLANK; otherwise the paper extends an open BLANK, opens a BLANK with a mark, or joins the unlisted stretch. Missed-cut
detection follows unless WEB FAULT holds, and raises it where it loses synchronism; the stall monitor returns to FIRST, or
starts with the first segment. The record of heads and mark is the model's own, as are the order in which a leader of length
0 goes, the moment of the fit test, and that only a detection that merges loses synchronism (log entries 8, 9, 12, 16). -/
def Obligations.IdleStrobesLayBlankOrLeader : Prop :=
  ∀ s : State, s.channel.exposure = none → WebShape s → ¬ SelectionTested s true →
    ∃ t laid after, exec .lineStrobe s = .next t
      ∧ PassedMerged s.web.lpath (s.web.odometer + 1) laid after
      ∧ (LosesSync s laid after → SyncLost after t)
      ∧ (¬ LosesSync s laid after →
          t.web.map = (if s.web.fault.isSome then laid else after) ∧ t.web.fault = s.web.fault
            ∧ (SelectionTested s false → VoidedIf True s t) ∧ (¬ SelectionTested s false → VoidedIf False s t))
      ∧ t.channel.heads = { c0 := [], c1 := [], c2 := [] } ∧ t.channel.exposure = none
      ∧ Same s t .orders ∧ Same s t .items ∧ Same s t .patchCadence
      ∧ (s.web.stage ≠ .off ∨ s.web.map = [] ∧ s.web.transport = .run →
          t.web.stage = .first (s.timeBase + BitVec.ofNat 32 s.web.stallTime) ∧ t.web.stall = false)
      ∧ (s.web.stage = .off → s.web.map ≠ [] ∨ s.web.transport = .stop → Same s t .stall)
      ∧ (s.scheduler.leaderPending = true → s.web.fault = none → s.web.map.length < 128 →
          s.scheduler.leaderLength ≠ 0 →
          laid = mapLast (fun g => if g.kind = .blank then { g with closed := true } else g) s.web.map ++
              [{ kind := .leader, start := s.web.odometer + 1, length := 1, closed := decide (s.scheduler.leaderLength ≤ 1)
                 suspect := false, split := false, merged := false, spoiled := false, read := false, preReset := false }]
            ∧ t.scheduler.leaderPending = false ∧ t.web.leaderTarget = s.scheduler.leaderLength ∧ t.web.mark = true
            ∧ t.channel.lastStrobeEnded = decide (s.scheduler.leaderLength ≤ 1))
      ∧ (s.scheduler.leaderPending = false ∨ s.web.fault.isSome = true ∨ s.web.map.length = 128
          ∨ s.scheduler.leaderLength = 0 →
          (∀ ahead g, s.web.map = ahead ++ [g] → g.closed = false → g.kind ≠ .leader →
              laid = ahead ++ [{ g with length := g.length + 1, closed := decide (2147483647 ≤ g.length + 1) }]
                ∧ t.web.mark = false ∧ t.channel.lastStrobeEnded = false)
            ∧ (∀ ahead g, s.web.map = ahead ++ [g] → g.closed = false → g.kind = .leader →
                laid = ahead ++ [{ g with length := g.length + 1, closed := decide (s.web.leaderTarget ≤ g.length + 1) }]
                  ∧ t.web.mark = false ∧ t.channel.lastStrobeEnded = decide (s.web.leaderTarget ≤ g.length + 1))
            ∧ ((∀ g ∈ s.web.map, g.closed = true) → s.web.map.length < 128 →
                laid = s.web.map ++
                    [{ kind := .blank, start := s.web.odometer + 1, length := 1, closed := false, suspect := false
                       split := false, merged := false, spoiled := false, read := false, preReset := false }]
                  ∧ t.web.mark = true ∧ t.channel.lastStrobeEnded = false)
            ∧ ((∀ g ∈ s.web.map, g.closed = true) → s.web.map.length = 128 →
                laid = s.web.map ∧ t.web.mark = s.web.unlisted.isNone ∧ t.channel.lastStrobeEnded = false
                  ∧ t.web.unlisted = some (match s.web.unlisted with
                      | some u => { u with length := u.length + 1 }
                      | none => { start := s.web.odometer + 1, length := 1 }))
            ∧ Same s t .leaderTarget
            ∧ (¬ LosesSync s laid after → t.scheduler.leaderPending =
                (s.scheduler.leaderPending
                  && !(s.web.fault.isNone && decide (s.web.map.length < 128) && s.scheduler.leaderLength == 0))))

/-- R12, R42, R45, R55, R84, R86, R87, R114 case 1, R115, R122: a standing selection begins at a strobe at which the start
conditions hold, no leader is pending or exposed, nothing is being exposed, it fits and its lines stand as R86 asks: line 0 is
exposed, its segment opens with a mark, its lines and its work become those of the print or patch being exposed (behind a
print of one line, a trailing work), the rows held and the fetch in flight stay, and for a print the copy moves to on web and
its order starts. Missed-cut detection follows; it can lose synchronism only behind a print of one line (log entries 8, 9,
12, 15, 16). -/
def Obligations.StrobeBeginsTheSelection : Prop :=
  ∀ s active l rest, s.scheduler.active = some active → s.channel.queue = l :: rest → l.owner = .selection → l.number = 0 →
    (∀ slot n copy o r i e laid, s.scheduler.selection = some (.print slot n copy) → s.order? slot = some o →
        o.items[n]? = some r → Table.get? s.orderTable.items r = some i → i.waiting ≠ 0 →
        Table.get? s.orderTable.sizes i.sizeIndex = some e → WouldBegin s e.lp →
        FitsPaper (s.scheduler.magazine active) s.scheduler.endReserve i e →
        laid = mapLast (fun g => if g.kind = .blank then { g with closed := true } else g) s.web.map ++
          [{ kind := .print slot n copy, start := s.web.odometer + 1, length := 1, closed := decide (e.lp ≤ 1)
             suspect := false, split := false, merged := false, spoiled := false, read := false, preReset := false }] →
        ∃ t after, exec .lineStrobe s = .next t
          ∧ PassedMerged s.web.lpath (s.web.odometer + 1) laid after
          ∧ (LosesSync s laid after → SyncLost after t)
          ∧ (¬ LosesSync s laid after → t.web.map = after ∧ t.web.fault = none
              ∧ t.channel.queue = rest.map (fun k => { k with owner := .exposed })
              ∧ t.resampler.work = s.resampler.work.map (fun w => if w.owner = .selection ∨ w.owner = .exposed then
                  { w with owner := if e.lp ≤ 1 then .trailing (s.web.odometer + 1) else .exposed } else w)
              ∧ Same s t .rows ∧ Same s t .fetch)
          ∧ Table.get? t.orderTable.items r = some { i with waiting := i.waiting - 1, onWeb := i.onWeb + 1 }
          ∧ OtherItemsSame [r] s t
          ∧ t.order? slot = some { o with started := true, state := if o.state = .ready then .inPrint else o.state }
          ∧ OtherOrdersSame slot s t
          ∧ t.scheduler.selection = none ∧ t.scheduler.patchCounter = min 255 (s.scheduler.patchCounter + 1)
          ∧ t.scheduler.switchPatch = s.scheduler.switchPatch ∧ t.scheduler.resetPatch = s.scheduler.resetPatch
          ∧ t.channel.heads = l.codes ∧ t.channel.lastStrobeEnded = decide (e.lp ≤ 1)
          ∧ t.channel.exposure = (if e.lp ≤ 1 then none else
              some { kind := .print, lineCount := e.lp, linesExposed := 1, blanked := false, repeatCount := 0
                     previous := l.codes })
          ∧ t.web.mark = true
          ∧ OnlyChanges [.orders, .items, .selection, .patchCadence, .magazines, .leaderPending, .attemptCause, .work, .rows,
              .fetch, .lineQueue, .exposure, .heads, .map, .odometer, .stall, .webFault, .mark] s t)
      ∧ (∀ laid, s.scheduler.selection = some .patch → WouldBegin s 100 →
        100 + s.scheduler.endReserve ≤ (s.scheduler.magazine active).remaining →
        laid = mapLast (fun g => if g.kind = .blank then { g with closed := true } else g) s.web.map ++
          [{ kind := .patch, start := s.web.odometer + 1, length := 1, closed := false, suspect := false
             split := false, merged := false, spoiled := false, read := false, preReset := false }] →
        ∃ t, exec .lineStrobe s = .next t
          ∧ t.scheduler.selection = none ∧ t.scheduler.patchCounter = 0 ∧ t.scheduler.switchPatch = false
          ∧ t.scheduler.resetPatch = false
          ∧ t.channel.heads = l.codes ∧ t.channel.queue = rest.map (fun k => { k with owner := .exposed })
          ∧ t.channel.lastStrobeEnded = false
          ∧ t.channel.exposure = some { kind := .patch, lineCount := 100, linesExposed := 1, blanked := false
                                        repeatCount := 0, previous := l.codes }
          ∧ PassedMerged s.web.lpath (s.web.odometer + 1) laid t.web.map ∧ t.web.fault = none
          ∧ t.resampler.work = s.resampler.work.map (fun w => if w.owner = .selection then { w with owner := .exposed } else w)
          ∧ t.web.mark = true
          ∧ OnlyChanges [.selection, .patchCadence, .magazines, .leaderPending, .attemptCause, .work, .lineQueue, .exposure,
              .heads, .map, .odometer, .stall, .mark] s t)

/-- R84, R87, R88, R89, R116, R122: a strobe of the print or patch being exposed. The line due is exposed, or the previous
codes are repeated and counted, with the segment suspect above the tolerance; a blanked print exposes code 0. A disabled
channel's head receives code 0. The segment grows by one and closes with the last line, and a work with lines still to produce
becomes a trailing work. Orders, items, the patch cadence and a pending leader are unchanged. Missed-cut detection follows,
and can lose synchronism at a last line on a full map. The previous codes are the line's and a blanked strobe leaves them as
they were, a trailing work is known by its segment's start, and detection must merge to lose synchronism (log entries 10, 12,
15). -/
def Obligations.StrobeExposesTheLineDue : Prop :=
  ∀ s e ahead g, s.channel.exposure = some e → s.web.map = ahead ++ [g] → WebShape s →
    ∃ t tail after, exec .lineStrobe s = .next t
      ∧ tail = { g with length := g.length + 1, closed := decide (e.lineCount ≤ e.linesExposed + 1)
                        suspect := tail.suspect }
      ∧ PassedMerged s.web.lpath (s.web.odometer + 1) (ahead ++ [tail]) after
      ∧ (LosesSync s (ahead ++ [tail]) after → SyncLost after t)
      ∧ (¬ LosesSync s (ahead ++ [tail]) after → t.web.map = after ∧ t.web.fault = none ∧ Same s t .selection
          ∧ t.resampler.work = s.resampler.work.map (fun w =>
              if w.owner = .exposed ∧ e.lineCount ≤ e.linesExposed + 1 then { w with owner := .trailing g.start } else w)
          ∧ Same s t .rows ∧ Same s t .fetch)
      ∧ t.channel.lastStrobeEnded = decide (e.lineCount ≤ e.linesExposed + 1) ∧ t.web.mark = false
      ∧ (e.lineCount ≤ e.linesExposed + 1 → t.channel.exposure = none)
      ∧ (e.blanked = true → tail.suspect = g.suspect
          ∧ (¬ LosesSync s (ahead ++ [tail]) after → t.channel.queue = s.channel.queue)
          ∧ (∀ c, t.channel.heads.get c = [])
          ∧ (e.linesExposed + 1 < e.lineCount →
              t.channel.exposure = some { e with linesExposed := e.linesExposed + 1 }))
      ∧ (∀ l rest, e.blanked = false → s.channel.queue = l :: rest → l.owner = .exposed → l.number = e.linesExposed →
          tail.suspect = g.suspect
            ∧ (¬ LosesSync s (ahead ++ [tail]) after → t.channel.queue = rest)
            ∧ (∀ c, t.channel.heads.get c = if s.channel.enabled.get c = true then l.codes.get c else [])
            ∧ (e.linesExposed + 1 < e.lineCount →
                t.channel.exposure = some { e with linesExposed := e.linesExposed + 1, previous := l.codes }))
      ∧ (e.blanked = false →
          (∀ l rest, s.channel.queue = l :: rest → l.owner ≠ .exposed ∨ l.number ≠ e.linesExposed) →
          tail.suspect = (g.suspect || decide (s.channel.repeatTolerance < min 65535 (e.repeatCount + 1)))
            ∧ (¬ LosesSync s (ahead ++ [tail]) after → t.channel.queue = s.channel.queue)
            ∧ (∀ c, t.channel.heads.get c = if s.channel.enabled.get c = true then e.previous.get c else [])
            ∧ (e.linesExposed + 1 < e.lineCount →
                t.channel.exposure = some { e with linesExposed := e.linesExposed + 1
                                                   repeatCount := min 65535 (e.repeatCount + 1) }))
      ∧ OnlyChanges [.magazines, .attemptCause, .work, .rows, .fetch, .selection, .lineQueue, .exposure, .heads, .map,
          .odometer, .stall, .webFault, .mark] s t

/-! ## Heads, transport and the stall monitor -/

/-- R89, R90, R120: HEAD FAULT and TRANSPORT STOP mark the print or patch being exposed suspect; HEAD FAULT disables a
channel and HEAD READY enables it; RUN starts the stall monitor on a map that is not empty, and STOP ends it. -/
def Obligations.HeadsAndTransport : Prop :=
  (∀ s channel, Taking s .engine .headFault [channel] →
      (channel.toNat > 2 → RefusedWith (.headFault .engine channel) s .engine .malformed)
        ∧ (∀ c : Fin 3, channel.toNat = c.val →
            ∃ t, exec (.headFault .engine channel) s = .next t
              ∧ (∀ k, t.channel.enabled.get k = if k = c then false else s.channel.enabled.get k)
              ∧ ExposedMarkedSuspect s t ∧ Replied t .engine .ok []
              ∧ OnlyChanges [.enables, .map, .attemptCause, .port .engine] s t))
    ∧ (∀ s channel, Taking s .engine .headReady [channel] →
        (channel.toNat > 2 → RefusedWith (.headReady .engine channel) s .engine .malformed)
          ∧ (∀ c : Fin 3, channel.toNat = c.val →
              ∃ t, exec (.headReady .engine channel) s = .next t
                ∧ (∀ k, t.channel.enabled.get k = if k = c then true else s.channel.enabled.get k)
                ∧ Replied t .engine .ok [] ∧ OnlyChanges [.enables, .attemptCause, .port .engine] s t))
    ∧ (∀ s value, Taking s .engine .transport [value] →
        (value ≠ 1#8 → value ≠ 2#8 → RefusedWith (.transport .engine value) s .engine .malformed)
          ∧ (value = 1#8 → ∃ t, exec (.transport .engine value) s = .next t ∧ t.web.transport = .run
              ∧ (s.web.stage = .off → s.web.map ≠ [] →
                  t.web.stage = .first (s.timeBase + BitVec.ofNat 32 s.web.stallTime) ∧ t.web.stall = false)
              ∧ (s.web.stage ≠ .off ∨ s.web.map = [] → Same s t .stall)
              ∧ Replied t .engine .ok [] ∧ OnlyChanges [.transport, .stall, .attemptCause, .port .engine] s t)
          ∧ (value = 2#8 → ∃ t, exec (.transport .engine value) s = .next t ∧ t.web.transport = .stop
              ∧ t.web.stage = .off ∧ t.web.stall = false ∧ ExposedMarkedSuspect s t ∧ Replied t .engine .ok []
              ∧ OnlyChanges [.transport, .stall, .map, .attemptCause, .port .engine] s t))

/-- R129, R130, R131, R92, R116: the FIRST stage's expiry raises STALL and marks the print or patch being exposed; the
SECOND stage's raises WEB FAULT unless it holds: the map is spoiled, what is exposed is abandoned, and selection, work,
lines and a pending leader go. Before its time a stage does not expire (log entry 1). -/
def Obligations.StallStagesExpire : Prop :=
  ∀ s e,
    (s.web.stage = .first e → 0 ≤ signedDiff s.timeBase e →
        ∃ t, exec .stallFirstExpiry s = .next t ∧ t.web.stall = true
          ∧ t.web.stage = .second (s.timeBase + BitVec.ofNat 32 s.web.stallTime) ∧ ExposedMarkedSuspect s t
          ∧ OnlyChanges [.stall, .map, .attemptCause] s t)
      ∧ (s.web.stage = .second e → 0 ≤ signedDiff s.timeBase e →
          ∃ t, exec .stallSecondExpiry s = .next t ∧ t.web.stage = .expired ∧ t.web.stall = s.web.stall
            ∧ (s.web.fault.isSome = true → OnlyChanges [.stall, .attemptCause] s t)
            ∧ (s.web.fault = none → t.web.fault = some .stall
                ∧ t.web.map = (mapLast (fun g => if g.kind = .blank then g else { g with closed := true }) s.web.map).map
                    (fun g => { g with spoiled := true })
                ∧ WorkEnded t ∧ t.scheduler.selection = none ∧ t.channel.queue = [] ∧ t.channel.exposure = none
                ∧ t.scheduler.leaderPending = false)
            ∧ OnlyChanges [.stall, .webFault, .map, .work, .rows, .fetch, .selection, .lineQueue, .exposure,
                .leaderPending, .attemptCause] s t)
      ∧ (signedDiff s.timeBase e < 0 →
          (s.web.stage = .first e → exec .stallFirstExpiry s = .next s)
            ∧ (s.web.stage = .second e → exec .stallSecondExpiry s = .next s))

/-! ## The cutter -/

/-- R117, R123, R125, R127, R128, R141 to R144, R146, R161 to R163, R15, R68: a cut within 25 WU of the reference end of a sound PRINT at
the head of the map: the print goes to the first bin of its order's list that takes it, else to the lowest FREE bin that
accepts it, which the order then owns, else to the tray. Its copy is counted delivered and charged at the price of its band
and surface. An order with nothing left is complete: it leaves its class list, its FILLING and FULL bins go to WAITING with
their timers, and its trailing work is aborted. The pop ends the stall monitor where it leaves the map empty, an unlisted
stretch joining the map first (log entry 13). -/
def Obligations.CutDeliversASoundPrint : Prop :=
  ∀ s g rest slot n copy o r i e p d dest bins complete gross,
    Taking s .engine .cut [] → s.web.fault = none → s.web.map = g :: rest →
    g.kind = .print slot n copy → g.closed = true → g.suspect = false → g.split = false → g.merged = false →
    g.spoiled = false → d = signedDiff s.web.odometer (g.start + BitVec.ofNat 32 (g.length + s.web.lpath)) →
    -25 ≤ d → d ≤ 25 → s.order? slot = some o → o.state ≠ .withdrawn → o.items[n]? = some r →
    Table.get? s.orderTable.items r = some i → i.onWeb ≠ 0 →
    Table.get? s.orderTable.sizes i.sizeIndex = some e → Table.get? s.price.tariff i.sizeIndex = some p → BinsOk s →
    dest = (match o.bins.find? (fun k => (Table.get? s.sort.bins k).any fun b =>
          b.state == .filling && b.group.accepts e.group && decide (b.count < b.capacity)) with
        | some k => k
        | none =>
          match (if o.bins.length < 4 then ((List.range 20).map (· + 1)).find? (fun k =>
              (Table.get? s.sort.bins k).any fun b => b.state == .free && b.group.accepts e.group) else none) with
          | some k => k
          | none => 21) →
    bins = (if (Table.get? s.sort.bins dest).any (fun b => b.state == .free) then o.bins ++ [dest] else o.bins) →
    gross = o.gross + min (if i.waived then 0 else priceOf s o i p) (9999999 - o.gross) →
    (complete = true ↔ (o.state = .ready ∨ o.state = .inPrint ∨ o.state = .held)
      ∧ ∀ k ∈ o.items, ∀ j, Table.get? s.orderTable.items k = some j → j.waiting = 0 ∧ j.onWeb = if k = r then 1 else 0) →
    ∃ t record, exec (.cut .engine) s = .next t
      ∧ Popped rest s t
      ∧ Table.get? t.orderTable.items r = some
          { i with onWeb := i.onWeb - 1, delivered := i.delivered + 1, charged := i.charged + (gross - o.gross) }
      ∧ OtherItemsSame [r] s t
      ∧ t.order? slot = some
          { o with
            gross := gross
            final := (max 0 (min 9999999 ((gross : Int) - (gross * o.discount / 100 : Nat) + o.adjustment))).toNat
            bins := bins
            overflow := if dest = 21 then min 255 (o.overflow + 1) else o.overflow
            shortageUnreported := o.shortageUnreported || decide (dest = 21)
            state := if complete then .complete else o.state
            completeUnreported := o.completeUnreported || complete
            paperWait := if complete then none else o.paperWait }
      ∧ OtherOrdersSame slot s t
      ∧ (complete = true → RemovedFromList o.cls slot s t) ∧ (complete = false → Same s t .classLists)
      ∧ (∀ k b, Table.get? s.sort.bins k = some b → Table.get? t.sort.bins k = some
          ((fun (c : Bin) => if complete = true ∧ k ∈ bins then c.afterCompletion s else c)
            (if k ≠ dest then b
              else if b.state = .free then
                { b with state := if b.capacity ≤ 1 then .full else .filling, count := 1, ticket := some o.ticket
                         owner := some slot, timer := none, uncollected := false }
              else { b with state := if b.capacity ≤ b.count + 1 then .full else .filling, count := b.count + 1 })))
      ∧ t.sort.trayCount = (if dest = 21 then min 65535 (s.sort.trayCount + 1) else s.sort.trayCount)
      ∧ t.price.totals = { s.price.totals with printsCharged := min 65535 (s.price.totals.printsCharged + 1) }
      ∧ TrailingEndsWith (fun k => k = slot ∧ complete = true) s t
      ∧ t.web.cutsTaken = min 65535 (s.web.cutsTaken + 1)
      ∧ record = { outcome := .matched, destination := dest, piece := .single g.kind, odometer := s.web.odometer
                   deviation := some d, ticket := o.ticket, fate := .delivered, remade := 0, writtenOff := 0 }
      ∧ t.web.lastCut = some record ∧ Replied t .engine .ok record.layout
      ∧ OnlyChanges [.orders, .items, .classLists, .attemptCause, .work, .rows, .fetch, .map, .stall, .unlisted, .cuts,
          .bins, .trayCount, .totals, .port .engine] s t

/-- R14, R15, R21, R105, R117, R118, R123, R125 to R128, R132, R145, R177: the piece a cut takes to the reject chute: at a match the
merged segments and the reference segment behind them, one segment or a merged group; during WEB FAULT the closed head segment
alone. A single PRINT is taken so where it is suspect, split or spoiled or its order is WITHDRAWN. One reject is counted. Each
PRINT copy is remade where it qualifies and written off otherwise, with the completion and draining checks of its order; an
unread PATCH raises PATCH UNREAD; a LEADER or BLANK changes nothing more. The pop ends the stall monitor where it leaves the
map empty; an unlisted stretch joins the map first, so that beside one the stage and its expiry stay even where the pop takes
the whole map: that order is the model's reading (log entry 13). -/
def Obligations.CutRejectsASinglePiece : Prop :=
  ∀ s piece rest d, Taking s .engine .cut [] → s.web.map = piece ++ rest →
    (s.web.fault.isSome = true ∧ d = none ∧ (∃ g, piece = [g] ∧ g.closed = true)
      ∨ s.web.fault = none ∧ (∃ merged g x, piece = merged ++ [g] ∧ (∀ k ∈ merged, k.merged = true) ∧ g.merged = false
          ∧ g.closed = true ∧ x = signedDiff s.web.odometer (g.start + BitVec.ofNat 32 (g.length + s.web.lpath))
          ∧ -25 ≤ x ∧ x ≤ 25 ∧ d = some x)) →
    (∀ g slot n copy, piece = [g] → g.kind = .print slot n copy →
        s.web.fault.isSome = true ∨ g.suspect = true ∨ g.split = true ∨ g.spoiled = true
          ∨ (∃ o, s.order? slot = some o ∧ o.state = .withdrawn)) →
    PoolAndGross s → CopiesOnWeb piece s →
    ∃ t record, exec (.cut .engine) s = .next t ∧ Popped rest s t
      ∧ CopiesDisposed piece s t ∧ TrailingEndsWith (CompletesBy piece s) s t
      ∧ t.sort.rejectCount = min 65535 (s.sort.rejectCount + 1)
      ∧ t.price.totals = { s.price.totals with
          printsRejected := if piece.countP Segment.isPrint = 0 then s.price.totals.printsRejected
            else min 65535 (s.price.totals.printsRejected + piece.countP Segment.isPrint)
          remakesMade := if remadeIn s piece = 0 then s.price.totals.remakesMade
            else min 65535 (s.price.totals.remakesMade + remadeIn s piece) }
      ∧ (t.density.patchUnread = true ↔ s.density.patchUnread = true
          ∨ ∃ g ∈ piece, g.kind = .patch ∧ g.read = false)
      ∧ t.web.cutsTaken = min 65535 (s.web.cutsTaken + 1)
      ∧ record.outcome = (if s.web.fault.isSome then .duringFault else .matched) ∧ record.destination = 0
      ∧ record.piece = (match piece with | [g] => .single g.kind | _ => .group piece.length)
      ∧ record.odometer = s.web.odometer ∧ record.deviation = d
      ∧ record.remade = remadeIn s piece ∧ record.writtenOff = piece.countP Segment.isPrint - remadeIn s piece
      ∧ (∀ g slot n copy o, piece = [g] → g.kind = .print slot n copy → s.order? slot = some o →
          record.ticket = o.ticket ∧ record.fate = if remadeIn s piece = 0 then .writtenOff else .remade)
      ∧ ((∀ g, piece = [g] → g.isPrint = false) → record.ticket = 0 ∧ record.fate = .nothing)
      ∧ t.web.lastCut = some record ∧ Replied t .engine .ok record.layout
      ∧ OnlyChanges [.orders, .items, .classLists, .attemptCause, .work, .rows, .fetch, .map, .stall, .unlisted, .cuts,
          .patchUnread, .bins, .rejectCount, .totals, .port .engine] s t
      ∧ (piece.countP Segment.isPrint = 0 →
          OnlyChanges [.attemptCause, .map, .stall, .unlisted, .cuts, .patchUnread, .rejectCount, .port .engine] s t)

/-- R121 to R124, R127, R131, R132, R145: missed-cut detection at a cut, and the cuts that pop nothing. Detection comes first:
a cut does what it does on the map that detection leaves. Where detection loses synchronism it raises WEB FAULT, and that cut
is early on the spoiled map (log entries 11, 12). Without a reference end or more than 25 WU before it a cut is early and
splits the head segment; during WEB FAULT a cut finds nothing where the map is empty or its head is the open tail. -/
def Obligations.CutThatPopsNothing : Prop :=
  ∀ s, Taking s .engine .cut [] →
    (∀ after, s.web.fault = none → WebShape s → PassedMerged s.web.lpath s.web.odometer s.web.map after →
        (¬ LosesSync s s.web.map after →
            exec (.cut .engine) s = exec (.cut .engine) { s with web := { s.web with map := after } })
          ∧ (LosesSync s s.web.map after →
              ∃ t record, exec (.cut .engine) s = .next t ∧ t.web.fault = some .syncLost
                ∧ t.web.map = (match after with
                    | [] => []
                    | g :: rest => { g with spoiled := true, split := true } :: rest.map fun k => { k with spoiled := true })
                ∧ WorkEnded t ∧ t.scheduler.selection = none ∧ t.channel.queue = [] ∧ t.channel.exposure = none
                ∧ t.scheduler.leaderPending = false
                ∧ t.sort.rejectCount = min 65535 (s.sort.rejectCount + 1)
                ∧ t.web.cutsTaken = min 65535 (s.web.cutsTaken + 1)
                ∧ record = { outcome := .early, destination := 0, piece := .nothing, odometer := s.web.odometer
                             deviation := none, ticket := 0, fate := .nothing, remade := 0, writtenOff := 0 }
                ∧ t.web.lastCut = some record ∧ Replied t .engine .ok record.layout
                ∧ OnlyChanges [.map, .webFault, .cuts, .rejectCount, .work, .rows, .fetch, .selection, .lineQueue,
                    .exposure, .leaderPending, .attemptCause, .port .engine] s t))
      ∧ (∀ d, s.web.fault = none →
        ((s.web.map = [] ∨ (∀ k ∈ s.web.map, k.merged = true)
            ∨ (∃ before k after, s.web.map = before ++ k :: after ∧ (∀ m ∈ before, m.merged = true) ∧ k.merged = false
                ∧ k.closed = false)) ∧ d = none
          ∨ (∃ before k after x, s.web.map = before ++ k :: after ∧ (∀ m ∈ before, m.merged = true) ∧ k.merged = false
              ∧ k.closed = true
              ∧ x = signedDiff s.web.odometer (k.start + BitVec.ofNat 32 (k.length + s.web.lpath)) ∧ x < -25
              ∧ d = some x)) →
        ∃ t record, exec (.cut .engine) s = .next t
          ∧ (s.web.map = [] → t.web.map = [])
          ∧ (∀ g rest, s.web.map = g :: rest → t.web.map = { g with split := true } :: rest)
          ∧ t.sort.rejectCount = min 65535 (s.sort.rejectCount + 1)
          ∧ t.web.cutsTaken = min 65535 (s.web.cutsTaken + 1)
          ∧ record = { outcome := .early, destination := 0, piece := .nothing, odometer := s.web.odometer
                       deviation := d, ticket := 0, fate := .nothing, remade := 0, writtenOff := 0 }
          ∧ t.web.lastCut = some record ∧ Replied t .engine .ok record.layout
          ∧ OnlyChanges [.map, .cuts, .rejectCount, .port .engine] s t)
      ∧ (s.web.fault.isSome = true → (∀ g rest, s.web.map = g :: rest → g.closed = false) →
          ∃ t record, exec (.cut .engine) s = .next t
            ∧ t.sort.rejectCount = min 65535 (s.sort.rejectCount + 1)
            ∧ t.web.cutsTaken = min 65535 (s.web.cutsTaken + 1)
            ∧ record = { outcome := .duringFault, destination := 0, piece := .nothing, odometer := s.web.odometer
                         deviation := none, ticket := 0, fate := .nothing, remade := 0, writtenOff := 0 }
            ∧ t.web.lastCut = some record ∧ Replied t .engine .ok record.layout
            ∧ OnlyChanges [.cuts, .rejectCount, .port .engine] s t)

/-- R14, R15, R21, R133, R134: WEB CLEARED is refused while something is exposed without WEB FAULT; otherwise the map is
emptied, WEB FAULT ends, and the reply counts the segments cleared and, of their PRINT copies, those remade and those written
off. Each copy is remade where it qualifies and written off otherwise, with the completion and draining checks of its order.
-/
def Obligations.WebClearedEmptiesTheMap : Prop :=
  ∀ s, Taking s .engine .webCleared [] →
    (s.web.fault = none → s.exposing = true ∨ s.web.leaderExposed = true →
        RefusedWith (.webCleared .engine) s .engine .wrongState)
      ∧ (s.web.fault.isSome = true ∨ (s.exposing = false ∧ s.web.leaderExposed = false) →
          ∃ t remade writtenOff, exec (.webCleared .engine) s = .next t
            ∧ t.web.map = [] ∧ t.web.unlisted = none ∧ t.web.fault = none ∧ t.web.stage = .off ∧ t.web.stall = false
            ∧ remade + writtenOff = s.web.map.countP Segment.isPrint
            ∧ (PoolAndGross s → CopiesOnWeb s.web.map s →
                remade = remadeIn s s.web.map ∧ CopiesDisposed s.web.map s t
                  ∧ TrailingEndsWith (CompletesBy s.web.map s) s t)
            ∧ t.price.totals = { s.price.totals with
                remakesMade := if remade = 0 then s.price.totals.remakesMade
                  else min 65535 (s.price.totals.remakesMade + remade) }
            ∧ Replied t .engine .ok (n8 s.web.map.length ++ n8 remade ++ n8 writtenOff)
            ∧ OnlyChanges [.orders, .items, .classLists, .attemptCause, .work, .rows, .fetch, .map, .stall, .webFault,
                .unlisted, .bins, .totals, .port .engine] s t)

/-! ## Density -/

/-- R96 to R101, R107: PATCH READING's tests, and the reading of the oldest closed unread patch: its class by the largest
error, the offsets steered where it is fit and not IMPLAUSIBLE, the prints up to the next PATCH marked unless it is GOOD,
the implausible count and DENSITY FAULT, and the record kept and sent. -/
def Obligations.PatchReadingSteersAndMarks : Prop :=
  ∀ s m0 m1 m2, Taking s .engine .patchReading (be16 m0 ++ be16 m1 ++ be16 m2) →
    (m0.toNat > 1023 ∨ m1.toNat > 1023 ∨ m2.toNat > 1023 →
        RefusedWith (.patchReading .engine m0 m1 m2) s .engine .malformed)
      ∧ (m0.toNat ≤ 1023 → m1.toNat ≤ 1023 → m2.toNat ≤ 1023 →
          (∀ g ∈ s.web.map, ¬ (g.kind = .patch ∧ g.closed = true ∧ g.read = false)) →
          RefusedWith (.patchReading .engine m0 m1 m2) s .engine .noOrder)
      ∧ (∀ ahead g behind after e0 e1 e2 largest cls fit offset, m0.toNat ≤ 1023 → m1.toNat ≤ 1023 → m2.toNat ≤ 1023 →
          s.web.map = ahead ++ g :: (behind ++ after) → g.kind = .patch → g.closed = true → g.read = false →
          (∀ k ∈ ahead, ¬ (k.kind = .patch ∧ k.closed = true ∧ k.read = false)) →
          (∀ k ∈ behind, k.kind ≠ .patch) → (∀ k rest, after = k :: rest → k.kind = .patch) →
          e0 = (s.density.targets.c0 : Int) - m0.toNat → e1 = (s.density.targets.c1 : Int) - m1.toNat →
          e2 = (s.density.targets.c2 : Int) - m2.toNat →
          largest = max e0.natAbs (max e1.natAbs e2.natAbs) →
          cls = (if largest ≤ s.density.q then ReadingClass.good else if largest ≤ 4 * s.density.q then .outOfTolerance
            else .implausible) →
          fit = (!g.suspect && !g.spoiled && !g.preReset) →
          offset = (fun (d e : Int) => if fit = true ∧ cls ≠ .implausible then
            max (-255) (min 255 (d + (e * s.density.a).tdiv 16)) else d) →
          ∃ t record, exec (.patchReading .engine m0 m1 m2) s = .next t
            ∧ t.density.offsets = { c0 := offset s.density.offsets.c0 e0, c1 := offset s.density.offsets.c1 e1
                                    c2 := offset s.density.offsets.c2 e2 }
            ∧ t.density.implausible = (if fit = false then s.density.implausible
                else if cls = .implausible then min 255 (s.density.implausible + 1) else 0)
            ∧ t.density.fault = (s.density.fault
                || (fit && cls == .implausible && decide (2 ≤ min 255 (s.density.implausible + 1))))
            ∧ t.web.map = ahead ++ { g with read := true } ::
                (behind.map (fun k => if cls ≠ .good ∧ k.isPrint = true then { k with suspect := true } else k) ++ after)
            ∧ record = ({ start := g.start, cls := cls, suspect := g.suspect, spoiled := g.spoiled
                          preReset := g.preReset, errors := { c0 := e0, c1 := e1, c2 := e2 }, offsets := t.density.offsets
                          implausible := t.density.implausible, fault := t.density.fault
                          marked := if cls = .good then 0
                            else behind.countP (fun k => k.isPrint && !k.suspect) } : Reading)
            ∧ t.density.lastReading = some record
            ∧ Replied t .engine .ok record.layout
            ∧ OnlyChanges [.offsets, .densityFault, .lastReading, .map, .attemptCause, .port .engine] s t)

/-- R103, R43, R45: DENSITY RESET clears the offsets, the implausible count and DENSITY FAULT, makes every unread PATCH
pre-reset, sets reset-patch and voids a standing selection. -/
def Obligations.DensityResetStartsAfresh : Prop :=
  ∀ s, Taking s .engine .densityReset [] →
    ∃ t, exec (.densityReset .engine) s = .next t
      ∧ (∀ c, t.density.offsets.get c = 0) ∧ t.density.implausible = 0 ∧ t.density.fault = false
      ∧ t.web.map = s.web.map.map (fun g => if g.kind = .patch ∧ g.read = false then { g with preReset := true } else g)
      ∧ t.scheduler.resetPatch = true ∧ t.scheduler.switchPatch = s.scheduler.switchPatch
      ∧ t.scheduler.patchCounter = s.scheduler.patchCounter
      ∧ VoidedIf True s t
      ∧ Replied t .engine .ok []
      ∧ OnlyChanges [.offsets, .densityFault, .map, .patchCadence, .selection, .lineQueue, .work, .rows, .fetch,
          .attemptCause, .port .engine] s t

/-! ## Sorting and time -/

/-- R151, R153: BIN EMPTIED in each state of the bin, with what it does to the owner's record; TRAY EMPTIED clears the
tray count and nothing else. -/
def Obligations.EmptyingBinsAndTray : Prop :=
  (∀ s bin, Taking s .engine .binEmptied [bin] →
      (bin.toNat = 0 ∨ bin.toNat > 20 → RefusedWith (.binEmptied .engine bin) s .engine .malformed)
        ∧ (∀ b, 1 ≤ bin.toNat → bin.toNat ≤ 20 → Table.get? s.sort.bins bin.toNat = some b →
            ∃ t b', exec (.binEmptied .engine bin) s = .next t
              ∧ b' = (match b.state with
                  | .free => b
                  | .filling | .full => { b with state := .filling, count := 0 }
                  | .waiting | .clearance => { b with state := .free, count := 0, ticket := none, owner := none
                                                      timer := none, uncollected := false })
              ∧ Table.get? t.sort.bins bin.toNat = some b' ∧ OtherBinsSame [bin.toNat] s t
              ∧ (∀ slot, t.order? slot = if b.owner = some slot then (s.order? slot).map (fun o =>
                  match b.state with
                  | .filling => { o with earlyPickup := true }
                  | .waiting => { o with bins := o.bins.filter (fun n => n != bin.toNat), pickedUp := true }
                  | .free | .full | .clearance => o) else s.order? slot)
              ∧ Replied t .engine .ok [b'.state.toByte]
              ∧ OnlyChanges [.orders, .bins, .port .engine] s t))
    ∧ (∀ s, Taking s .engine .trayEmptied [] →
        ∃ t, exec (.trayEmptied .engine) s = .next t ∧ t.sort.trayCount = 0 ∧ Replied t .engine .ok []
          ∧ OnlyChanges [.trayCount, .port .engine] s t)

/-- R154: SET BIN's tests in their order, and the group and the capacity, clamped to 1 to 250, that a FREE bin takes. -/
def Obligations.SetBinChangesAFreeBin : Prop :=
  ∀ s bin group capacity, Taking s .engine .setBin [bin, group, capacity] →
    (bin.toNat = 0 ∨ bin.toNat > 20 ∨ group ∉ [1#8, 2#8, 3#8] →
        RefusedWith (.setBin .engine bin group capacity) s .engine .malformed)
      ∧ (∀ b g, 1 ≤ bin.toNat → bin.toNat ≤ 20 → (group, g) ∈ [(1#8, BinGroup.small), (2#8, .large), (3#8, .any)] →
          Table.get? s.sort.bins bin.toNat = some b →
          (b.state ≠ .free → RefusedWith (.setBin .engine bin group capacity) s .engine .wrongState)
            ∧ (b.state = .free →
                ∃ t, exec (.setBin .engine bin group capacity) s = .next t
                  ∧ Table.get? t.sort.bins bin.toNat =
                      some { b with group := g, capacity := max 1 (min 250 capacity.toNat) }
                  ∧ OtherBinsSame [bin.toNat] s t
                  ∧ Replied t .engine (if 1 ≤ capacity.toNat ∧ capacity.toNat ≤ 250 then .ok else .clamped)
                      ([bin, group] ++ n8 (max 1 (min 250 capacity.toNat)))
                  ∧ OnlyChanges [.bins, .port .engine] s t))

/-! ## The price unit and the till -/

/-- R165, R166, R167, R169: AMEND OPEN, AMEND SET and AMEND DROP with their refusals. Opening stages the committed
discount and adjustment with an empty waive set; an edit changes one of them and previews the final, from the gross less the
charged sums of the items in the waive set that are not yet waived; dropping discards them. -/
def Obligations.AmendmentIsStaged : Prop :=
  ∀ s ticket slot o, Names s ticket slot o →
    (Taking s .till .amendOpen (be16 ticket) →
        (s.price.amendment.isSome = true → RefusedWith (.amendOpen .till ticket) s .till .locked)
          ∧ (s.price.amendment = none → o.state = .opened ∨ o.state = .withdrawn →
              RefusedWith (.amendOpen .till ticket) s .till .wrongState)
          ∧ (s.price.amendment = none → o.state ≠ .opened → o.state ≠ .withdrawn →
              ∃ t, exec (.amendOpen .till ticket) s = .next t
                ∧ t.price.amendment = some { ticket := o.ticket, slot := slot, discount := o.discount
                                             adjustment := o.adjustment, waive := 0 }
                ∧ Replied t .till .ok
                    (n8 o.discount ++ i32 o.adjustment ++ n32 o.gross ++ n32 o.final ++ n8 o.items.length)
                ∧ OnlyChanges [.amendment, .port .till] s t))
      ∧ (∀ kind value, Taking s .till .amendSet (be16 ticket ++ [kind] ++ be32 value) →
          ((∀ a, s.price.amendment = some a → a.slot ≠ slot) →
              RefusedWith (.amendSet .till ticket kind value) s .till .wrongState)
            ∧ (∀ a, s.price.amendment = some a → a.slot = slot →
                (kind.toNat = 0 ∨ kind.toNat > 4 ∨ (kind.toNat ≥ 3 ∧ o.items.length ≤ value.toNat) →
                    RefusedWith (.amendSet .till ticket kind value) s .till .malformed)
                  ∧ (∀ a', (kind = 1#8 ∧ a' = { a with discount := min 100 value.toNat })
                        ∨ (kind = 2#8 ∧ a' = { a with adjustment := max (-999999) (min 999999 value.toInt) })
                        ∨ (kind = 3#8 ∧ value.toNat < o.items.length
                            ∧ a' = { a with waive := a.waive ||| (1#24 <<< value.toNat) })
                        ∨ (kind = 4#8 ∧ value.toNat < o.items.length
                            ∧ a' = { a with waive := a.waive &&& ~~~(1#24 <<< value.toNat) }) →
                      ∃ t, exec (.amendSet .till ticket kind value) s = .next t
                        ∧ t.price.amendment = some a'
                        ∧ Replied t .till
                            (if (kind = 1#8 ∧ value.toNat > 100)
                                ∨ (kind = 2#8 ∧ (value.toInt < -999999 ∨ value.toInt > 999999)) then .clamped else .ok)
                            (n8 a'.discount ++ i32 a'.adjustment ++ waiveBytes a'.waive
                              ++ n32 (max 0 (min 9999999 (((o.gross - waivedSum s o a'.waive : Nat) : Int)
                                - ((o.gross - waivedSum s o a'.waive) * a'.discount / 100 : Nat)
                                + a'.adjustment))).toNat)
                        ∧ OnlyChanges [.amendment, .port .till] s t)))
      ∧ (Taking s .till .amendDrop (be16 ticket) →
          ((∀ a, s.price.amendment = some a → a.slot ≠ slot) →
              RefusedWith (.amendDrop .till ticket) s .till .wrongState)
            ∧ (∀ a, s.price.amendment = some a → a.slot = slot →
                ∃ t, exec (.amendDrop .till ticket) s = .next t ∧ t.price.amendment = none
                  ∧ Replied t .till .ok (n32 o.gross ++ n32 o.final) ∧ OnlyChanges [.amendment, .port .till] s t))

/-- R163, R164, R168: AMEND COMMIT commits the staged discount and adjustment, waives the items of the waive set not yet
waived and refunds their charged sums, recomputes the final and closes the amendment. -/
def Obligations.AmendCommitWaivesAndRefunds : Prop :=
  ∀ s ticket, Taking s .till .amendCommit (be16 ticket) →
    (∀ status, TicketRefusal s ticket status → RefusedWith (.amendCommit .till ticket) s .till status)
      ∧ (∀ slot o, Names s ticket slot o →
          ((∀ a, s.price.amendment = some a → a.slot ≠ slot) →
              RefusedWith (.amendCommit .till ticket) s .till .wrongState)
            ∧ (∀ a, s.price.amendment = some a → a.slot = slot → o.items.Nodup →
                ∃ t refund gross final, exec (.amendCommit .till ticket) s = .next t
                  ∧ refund = waivedSum s o a.waive
                  ∧ gross = o.gross - refund
                  ∧ final = (max 0 (min 9999999 ((gross : Int) - (gross * a.discount / 100 : Nat) + a.adjustment))).toNat
                  ∧ t.order? slot = some
                      { o with discount := a.discount, adjustment := a.adjustment, gross := gross, final := final }
                  ∧ (∀ n r i, o.items[n]? = some r → Table.get? s.orderTable.items r = some i →
                      Table.get? t.orderTable.items r = some
                        (if a.waive.getLsbD n = true ∧ i.waived = false then { i with waived := true, charged := 0 }
                          else i))
                  ∧ t.price.amendment = none
                  ∧ Replied t .till .ok (n32 refund ++ n32 gross ++ n32 final)
                  ∧ OtherOrdersSame slot s t ∧ OtherItemsSame o.items s t
                  ∧ OnlyChanges [.orders, .items, .amendment, .port .till] s t))

/-- R158, R159, R160, R179, R180: WRITE TARIFF's tests in their order and what it stores; LOCK TARIFF sets the lock and
nothing else. CLOSE DAY is LOCKED while an amendment is present and UNREAD while the closed-day record is unread; taken,
it moves the totals to the record under the next close number, clears them and the tariff lock. READ CLOSED DAY returns
the record and marks it read. -/
def Obligations.TariffAndDayClose : Prop :=
  (∀ s target index f0 f1 f2 f3 f4,
      Taking s .till .writeTariff ([target, index] ++ be16 f0 ++ be16 f1 ++ be16 f2 ++ be16 f3 ++ be16 f4) →
      ((target ≠ 1#8 ∧ target ≠ 2#8) ∨ (target = 1#8 ∧ index.toNat > 15) →
          RefusedWith (.writeTariff .till target index f0 f1 f2 f3 f4) s .till .malformed)
        ∧ ((target = 1#8 ∧ index.toNat ≤ 15) ∨ target = 2#8 → s.price.lock = true →
            RefusedWith (.writeTariff .till target index f0 f1 f2 f3 f4) s .till .locked)
        ∧ (target = 1#8 → index.toNat ≤ 15 → s.price.lock = false →
            f0.toNat = 0 ∨ f1.toNat < f0.toNat ∨ f1.toNat > 9999 →
            RefusedWith (.writeTariff .till target index f0 f1 f2 f3 f4) s .till .malformed)
        ∧ (target = 1#8 → index.toNat ≤ 15 → s.price.lock = false →
            1 ≤ f0.toNat → f0.toNat ≤ f1.toNat → f1.toNat ≤ 9999 →
            ∃ t, exec (.writeTariff .till target index f0 f1 f2 f3 f4) s = .next t
              ∧ (∀ k, Table.get? t.price.tariff k = if k = index.toNat then
                  some { n1 := f0.toNat, n2 := f1.toNat, p1 := f2.toNat, p2 := f3.toNat, p3 := f4.toNat }
                  else Table.get? s.price.tariff k)
              ∧ t.price.surcharges = s.price.surcharges ∧ Replied t .till .ok []
              ∧ OnlyChanges [.tariff, .port .till] s t)
        ∧ (target = 2#8 → s.price.lock = false →
            ∃ t, exec (.writeTariff .till target index f0 f1 f2 f3 f4) s = .next t
              ∧ t.price.surcharges = { gloss := f0.toNat, matt := f1.toNat, lustre := f2.toNat }
              ∧ t.price.tariff = s.price.tariff ∧ Replied t .till .ok [] ∧ OnlyChanges [.tariff, .port .till] s t))
    ∧ (∀ s, Taking s .till .lockTariff [] →
        ∃ t, exec (.lockTariff .till) s = .next t ∧ t.price.lock = true ∧ Replied t .till .ok []
          ∧ OnlyChanges [.tariffLock, .port .till] s t)
    ∧ (∀ s, Taking s .till .closeDay [] →
      (s.price.amendment.isSome = true → RefusedWith (.closeDay .till) s .till .locked)
        ∧ (s.price.amendment = none → s.price.closedDay.read = false → RefusedWith (.closeDay .till) s .till .unread)
        ∧ (s.price.amendment = none → s.price.closedDay.read = true →
            ∃ t number, exec (.closeDay .till) s = .next t
              ∧ number = (if s.price.closedDay.number = 65535 then 1 else s.price.closedDay.number + 1)
              ∧ t.price.closedDay = { totals := s.price.totals, number := number, read := false }
              ∧ t.price.totals = { ordersCollected := 0, printsCharged := 0, printsRejected := 0, remakesMade := 0
                                   partialCollections := 0, takings := 0 }
              ∧ t.price.lock = false ∧ Replied t .till .ok (n16 number)
              ∧ OnlyChanges [.closedDay, .totals, .tariffLock, .port .till] s t))
    ∧ (∀ s, Taking s .till .readClosedDay [] →
        ∃ t, exec (.readClosedDay .till) s = .next t
          ∧ t.price.closedDay = { s.price.closedDay with read := true }
          ∧ Replied t .till .ok (s.price.closedDay.totals.layout ++ n16 s.price.closedDay.number)
          ∧ OnlyChanges [.closedDay, .port .till] s t)

/-! ## Image arithmetic -/

/-- R57 to R60: the geometry of a print has the fetch level, served dimensions, step and offsets of the formulas of the manual:
floor and minimum in FILL, ceiling and maximum in FIT, the level table, a dimension of at least 1, the step clamped to 4,096
to 1,048,576, offsets truncated toward zero. R61: without the lower clamp of the step, every position of a FILL print lies
inside its source image. -/
def Obligations.FillPositionsLieInside : Prop :=
  ∀ ws hs wp lp, 1 ≤ ws → ws ≤ 16384 → 1 ≤ hs → hs ≤ 16384 → 1 ≤ wp → wp ≤ 4096 → 1 ≤ lp → lp ≤ 12000 →
    (∀ mode g, IsGeometry mode ws hs wp lp g ↔ g = geometryOf mode ws hs wp lp)
      ∧ ∀ g step j k, IsGeometry .fill ws hs wp lp g → IsStep .fill g.wsN g.hsN wp lp step → 4096 ≤ step →
          j < wp → k < lp →
          Inside g.wsN (g.ox + j * g.step) ∧ Inside g.hsN (g.oy + k * g.step)
            ∧ insideDim g.wsN (g.x j) = true ∧ insideDim g.hsN (g.y k) = true

/-- R64, R65, R69, R70: an interpolated value lies between its neighbours, and equals the first where the fraction is 0;
the linear code runs from 0 to 1,528 over the gains; and an exposure code is the linear code plus the offset, held within
0 to 1023. -/
def Obligations.CodesStayInRange : Prop :=
  (∀ a b f, a ≤ 255 → b ≤ 255 → f ≤ 255 → min a b ≤ blend a b f ∧ blend a b f ≤ max a b ∧ blend a b 0 = a)
    ∧ (∀ v gain, v ≤ 255 → 256 ≤ gain → gain ≤ 767 → linearCode v gain = ((255 - v) * gain + 64) / 128
        ∧ linearCode v gain ≤ 1528 ∧ linearCode 255 gain = 0 ∧ linearCode v 512 = 4 * (255 - v)
        ∧ linearCode v 256 = 2 * (255 - v))
    ∧ (∀ v gain offset, ((exposureCode v gain offset).toNat : Int) =
        max 0 (min 1023 ((linearCode v gain : Int) + offset)))
end

