-- ==== Sys2Proof/Laws/State.lean ====
section
/-! SUPPORT. What each update of the state leaves as it was, field by field, each true by unfolding the update once. -/

namespace Sys2Proof.Laws

open Sys2Proof.Machine

/-! ### modifyOrder -/

@[simp] theorem modifyOrder_scheduler (s : State) (slot : Nat) (f : Order → Order) :
    (s.modifyOrder slot f).scheduler = s.scheduler := rfl
@[simp] theorem modifyOrder_resampler (s : State) (slot : Nat) (f : Order → Order) :
    (s.modifyOrder slot f).resampler = s.resampler := rfl
@[simp] theorem modifyOrder_fetch (s : State) (slot : Nat) (f : Order → Order) :
    (s.modifyOrder slot f).fetch = s.fetch := rfl
@[simp] theorem modifyOrder_channel (s : State) (slot : Nat) (f : Order → Order) :
    (s.modifyOrder slot f).channel = s.channel := rfl
@[simp] theorem modifyOrder_density (s : State) (slot : Nat) (f : Order → Order) :
    (s.modifyOrder slot f).density = s.density := rfl
@[simp] theorem modifyOrder_web (s : State) (slot : Nat) (f : Order → Order) :
    (s.modifyOrder slot f).web = s.web := rfl
@[simp] theorem modifyOrder_sort (s : State) (slot : Nat) (f : Order → Order) :
    (s.modifyOrder slot f).sort = s.sort := rfl
@[simp] theorem modifyOrder_price (s : State) (slot : Nat) (f : Order → Order) :
    (s.modifyOrder slot f).price = s.price := rfl
@[simp] theorem modifyOrder_links (s : State) (slot : Nat) (f : Order → Order) :
    (s.modifyOrder slot f).links = s.links := rfl
@[simp] theorem modifyOrder_timeBase (s : State) (slot : Nat) (f : Order → Order) :
    (s.modifyOrder slot f).timeBase = s.timeBase := rfl
@[simp] theorem modifyOrder_freeCount (s : State) (slot : Nat) (f : Order → Order) :
    (s.modifyOrder slot f).freeCount = s.freeCount := rfl
@[simp] theorem modifyOrder_pending (s : State) (slot : Nat) (f : Order → Order) :
    (s.modifyOrder slot f).pending = s.pending := rfl
@[simp] theorem modifyOrder_orderTable_items (s : State) (slot : Nat) (f : Order → Order) :
    (s.modifyOrder slot f).orderTable.items = s.orderTable.items := rfl
@[simp] theorem modifyOrder_orderTable_nextTicket (s : State) (slot : Nat) (f : Order → Order) :
    (s.modifyOrder slot f).orderTable.nextTicket = s.orderTable.nextTicket := rfl
@[simp] theorem modifyOrder_orderTable_sizes (s : State) (slot : Nat) (f : Order → Order) :
    (s.modifyOrder slot f).orderTable.sizes = s.orderTable.sizes := rfl
@[simp] theorem modifyOrder_orderTable_windows (s : State) (slot : Nat) (f : Order → Order) :
    (s.modifyOrder slot f).orderTable.windows = s.orderTable.windows := rfl
@[simp] theorem modifyOrder_orderTable_remakeLimit (s : State) (slot : Nat) (f : Order → Order) :
    (s.modifyOrder slot f).orderTable.remakeLimit = s.orderTable.remakeLimit := rfl

/-! ### abortWork -/

@[simp] theorem abortWork_orderTable (s : State) :
    (s.abortWork).orderTable = s.orderTable := rfl
@[simp] theorem abortWork_scheduler (s : State) :
    (s.abortWork).scheduler = s.scheduler := rfl
@[simp] theorem abortWork_channel (s : State) :
    (s.abortWork).channel = s.channel := rfl
@[simp] theorem abortWork_density (s : State) :
    (s.abortWork).density = s.density := rfl
@[simp] theorem abortWork_web (s : State) :
    (s.abortWork).web = s.web := rfl
@[simp] theorem abortWork_sort (s : State) :
    (s.abortWork).sort = s.sort := rfl
@[simp] theorem abortWork_price (s : State) :
    (s.abortWork).price = s.price := rfl
@[simp] theorem abortWork_links (s : State) :
    (s.abortWork).links = s.links := rfl
@[simp] theorem abortWork_timeBase (s : State) :
    (s.abortWork).timeBase = s.timeBase := rfl
@[simp] theorem abortWork_freeCount (s : State) :
    (s.abortWork).freeCount = s.freeCount := rfl
@[simp] theorem abortWork_pending (s : State) :
    (s.abortWork).pending = s.pending := rfl
@[simp] theorem abortWork_resampler_gains (s : State) :
    (s.abortWork).resampler.gains = s.resampler.gains := rfl
@[simp] theorem abortWork_fetch_nextTag (s : State) :
    (s.abortWork).fetch.nextTag = s.fetch.nextTag := rfl
@[simp] theorem abortWork_fetch_lastFault (s : State) :
    (s.abortWork).fetch.lastFault = s.fetch.lastFault := rfl
@[simp] theorem abortWork_fetch_faultCount (s : State) :
    (s.abortWork).fetch.faultCount = s.fetch.faultCount := rfl
@[simp] theorem abortWork_fetch_frameSent (s : State) :
    (s.abortWork).fetch.frameSent = s.fetch.frameSent := rfl
@[simp] theorem abortWork_fetch_link (s : State) :
    (s.abortWork).fetch.link = s.fetch.link := rfl

/-! ### flush -/

@[simp] theorem flush_orderTable (s : State) :
    (s.flush).orderTable = s.orderTable := rfl
@[simp] theorem flush_density (s : State) :
    (s.flush).density = s.density := rfl
@[simp] theorem flush_sort (s : State) :
    (s.flush).sort = s.sort := rfl
@[simp] theorem flush_price (s : State) :
    (s.flush).price = s.price := rfl
@[simp] theorem flush_links (s : State) :
    (s.flush).links = s.links := rfl
@[simp] theorem flush_timeBase (s : State) :
    (s.flush).timeBase = s.timeBase := rfl
@[simp] theorem flush_freeCount (s : State) :
    (s.flush).freeCount = s.freeCount := rfl
@[simp] theorem flush_pending (s : State) :
    (s.flush).pending = s.pending := rfl
@[simp] theorem flush_scheduler_express (s : State) :
    (s.flush).scheduler.express = s.scheduler.express := rfl
@[simp] theorem flush_scheduler_standard (s : State) :
    (s.flush).scheduler.standard = s.scheduler.standard := rfl
@[simp] theorem flush_scheduler_bulk (s : State) :
    (s.flush).scheduler.bulk = s.scheduler.bulk := rfl
@[simp] theorem flush_scheduler_patchCounter (s : State) :
    (s.flush).scheduler.patchCounter = s.scheduler.patchCounter := rfl
@[simp] theorem flush_scheduler_switchPatch (s : State) :
    (s.flush).scheduler.switchPatch = s.scheduler.switchPatch := rfl
@[simp] theorem flush_scheduler_resetPatch (s : State) :
    (s.flush).scheduler.resetPatch = s.scheduler.resetPatch := rfl
@[simp] theorem flush_scheduler_magA (s : State) :
    (s.flush).scheduler.magA = s.scheduler.magA := rfl
@[simp] theorem flush_scheduler_magB (s : State) :
    (s.flush).scheduler.magB = s.scheduler.magB := rfl
@[simp] theorem flush_scheduler_active (s : State) :
    (s.flush).scheduler.active = s.scheduler.active := rfl
@[simp] theorem flush_scheduler_switchRequested (s : State) :
    (s.flush).scheduler.switchRequested = s.scheduler.switchRequested := rfl
@[simp] theorem flush_scheduler_leaderPending (s : State) :
    (s.flush).scheduler.leaderPending = s.scheduler.leaderPending := rfl
@[simp] theorem flush_scheduler_leaderLength (s : State) :
    (s.flush).scheduler.leaderLength = s.scheduler.leaderLength := rfl
@[simp] theorem flush_scheduler_endReserve (s : State) :
    (s.flush).scheduler.endReserve = s.scheduler.endReserve := rfl
@[simp] theorem flush_resampler_gains (s : State) :
    (s.flush).resampler.gains = s.resampler.gains := rfl
@[simp] theorem flush_fetch_nextTag (s : State) :
    (s.flush).fetch.nextTag = s.fetch.nextTag := rfl
@[simp] theorem flush_fetch_lastFault (s : State) :
    (s.flush).fetch.lastFault = s.fetch.lastFault := rfl
@[simp] theorem flush_fetch_faultCount (s : State) :
    (s.flush).fetch.faultCount = s.fetch.faultCount := rfl
@[simp] theorem flush_fetch_frameSent (s : State) :
    (s.flush).fetch.frameSent = s.fetch.frameSent := rfl
@[simp] theorem flush_fetch_link (s : State) :
    (s.flush).fetch.link = s.fetch.link := rfl
@[simp] theorem flush_channel_enabled (s : State) :
    (s.flush).channel.enabled = s.channel.enabled := rfl
@[simp] theorem flush_channel_repeatTolerance (s : State) :
    (s.flush).channel.repeatTolerance = s.channel.repeatTolerance := rfl
@[simp] theorem flush_channel_lastStrobeEnded (s : State) :
    (s.flush).channel.lastStrobeEnded = s.channel.lastStrobeEnded := rfl
@[simp] theorem flush_channel_heads (s : State) :
    (s.flush).channel.heads = s.channel.heads := rfl
@[simp] theorem flush_web_odometer (s : State) :
    (s.flush).web.odometer = s.web.odometer := rfl
@[simp] theorem flush_web_lpath (s : State) :
    (s.flush).web.lpath = s.web.lpath := rfl
@[simp] theorem flush_web_transport (s : State) :
    (s.flush).web.transport = s.web.transport := rfl
@[simp] theorem flush_web_stallTime (s : State) :
    (s.flush).web.stallTime = s.web.stallTime := rfl
@[simp] theorem flush_web_stage (s : State) :
    (s.flush).web.stage = s.web.stage := rfl
@[simp] theorem flush_web_stall (s : State) :
    (s.flush).web.stall = s.web.stall := rfl
@[simp] theorem flush_web_fault (s : State) :
    (s.flush).web.fault = s.web.fault := rfl
@[simp] theorem flush_web_unlisted (s : State) :
    (s.flush).web.unlisted = s.web.unlisted := rfl
@[simp] theorem flush_web_cutsTaken (s : State) :
    (s.flush).web.cutsTaken = s.web.cutsTaken := rfl
@[simp] theorem flush_web_lastCut (s : State) :
    (s.flush).web.lastCut = s.web.lastCut := rfl
@[simp] theorem flush_web_leaderTarget (s : State) :
    (s.flush).web.leaderTarget = s.web.leaderTarget := rfl
@[simp] theorem flush_web_mark (s : State) :
    (s.flush).web.mark = s.web.mark := rfl

/-! ### markExposedSuspect -/

@[simp] theorem markExposedSuspect_orderTable (s : State) :
    (s.markExposedSuspect).orderTable = s.orderTable := rfl
@[simp] theorem markExposedSuspect_scheduler (s : State) :
    (s.markExposedSuspect).scheduler = s.scheduler := rfl
@[simp] theorem markExposedSuspect_resampler (s : State) :
    (s.markExposedSuspect).resampler = s.resampler := rfl
@[simp] theorem markExposedSuspect_fetch (s : State) :
    (s.markExposedSuspect).fetch = s.fetch := rfl
@[simp] theorem markExposedSuspect_channel (s : State) :
    (s.markExposedSuspect).channel = s.channel := rfl
@[simp] theorem markExposedSuspect_density (s : State) :
    (s.markExposedSuspect).density = s.density := rfl
@[simp] theorem markExposedSuspect_sort (s : State) :
    (s.markExposedSuspect).sort = s.sort := rfl
@[simp] theorem markExposedSuspect_price (s : State) :
    (s.markExposedSuspect).price = s.price := rfl
@[simp] theorem markExposedSuspect_links (s : State) :
    (s.markExposedSuspect).links = s.links := rfl
@[simp] theorem markExposedSuspect_timeBase (s : State) :
    (s.markExposedSuspect).timeBase = s.timeBase := rfl
@[simp] theorem markExposedSuspect_freeCount (s : State) :
    (s.markExposedSuspect).freeCount = s.freeCount := rfl
@[simp] theorem markExposedSuspect_pending (s : State) :
    (s.markExposedSuspect).pending = s.pending := rfl
@[simp] theorem markExposedSuspect_web_odometer (s : State) :
    (s.markExposedSuspect).web.odometer = s.web.odometer := by unfold State.markExposedSuspect; split <;> rfl
@[simp] theorem markExposedSuspect_web_lpath (s : State) :
    (s.markExposedSuspect).web.lpath = s.web.lpath := by unfold State.markExposedSuspect; split <;> rfl
@[simp] theorem markExposedSuspect_web_transport (s : State) :
    (s.markExposedSuspect).web.transport = s.web.transport := by unfold State.markExposedSuspect; split <;> rfl
@[simp] theorem markExposedSuspect_web_stallTime (s : State) :
    (s.markExposedSuspect).web.stallTime = s.web.stallTime := by unfold State.markExposedSuspect; split <;> rfl
@[simp] theorem markExposedSuspect_web_stage (s : State) :
    (s.markExposedSuspect).web.stage = s.web.stage := by unfold State.markExposedSuspect; split <;> rfl
@[simp] theorem markExposedSuspect_web_stall (s : State) :
    (s.markExposedSuspect).web.stall = s.web.stall := by unfold State.markExposedSuspect; split <;> rfl
@[simp] theorem markExposedSuspect_web_fault (s : State) :
    (s.markExposedSuspect).web.fault = s.web.fault := by unfold State.markExposedSuspect; split <;> rfl
@[simp] theorem markExposedSuspect_web_unlisted (s : State) :
    (s.markExposedSuspect).web.unlisted = s.web.unlisted := by unfold State.markExposedSuspect; split <;> rfl
@[simp] theorem markExposedSuspect_web_cutsTaken (s : State) :
    (s.markExposedSuspect).web.cutsTaken = s.web.cutsTaken := by unfold State.markExposedSuspect; split <;> rfl
@[simp] theorem markExposedSuspect_web_lastCut (s : State) :
    (s.markExposedSuspect).web.lastCut = s.web.lastCut := by unfold State.markExposedSuspect; split <;> rfl
@[simp] theorem markExposedSuspect_web_leaderTarget (s : State) :
    (s.markExposedSuspect).web.leaderTarget = s.web.leaderTarget := by unfold State.markExposedSuspect; split <;> rfl
@[simp] theorem markExposedSuspect_web_mark (s : State) :
    (s.markExposedSuspect).web.mark = s.web.mark := by unfold State.markExposedSuspect; split <;> rfl

/-! ### blankOf -/

@[simp] theorem blankOf_orderTable (s : State) (slot : Nat) :
    (s.blankOf slot).orderTable = s.orderTable := rfl
@[simp] theorem blankOf_scheduler (s : State) (slot : Nat) :
    (s.blankOf slot).scheduler = s.scheduler := rfl
@[simp] theorem blankOf_resampler (s : State) (slot : Nat) :
    (s.blankOf slot).resampler = s.resampler := rfl
@[simp] theorem blankOf_fetch (s : State) (slot : Nat) :
    (s.blankOf slot).fetch = s.fetch := rfl
@[simp] theorem blankOf_density (s : State) (slot : Nat) :
    (s.blankOf slot).density = s.density := rfl
@[simp] theorem blankOf_web (s : State) (slot : Nat) :
    (s.blankOf slot).web = s.web := rfl
@[simp] theorem blankOf_sort (s : State) (slot : Nat) :
    (s.blankOf slot).sort = s.sort := rfl
@[simp] theorem blankOf_price (s : State) (slot : Nat) :
    (s.blankOf slot).price = s.price := rfl
@[simp] theorem blankOf_links (s : State) (slot : Nat) :
    (s.blankOf slot).links = s.links := rfl
@[simp] theorem blankOf_timeBase (s : State) (slot : Nat) :
    (s.blankOf slot).timeBase = s.timeBase := rfl
@[simp] theorem blankOf_freeCount (s : State) (slot : Nat) :
    (s.blankOf slot).freeCount = s.freeCount := rfl
@[simp] theorem blankOf_pending (s : State) (slot : Nat) :
    (s.blankOf slot).pending = s.pending := rfl
@[simp] theorem blankOf_channel_enabled (s : State) (slot : Nat) :
    (s.blankOf slot).channel.enabled = s.channel.enabled := by unfold State.blankOf; split <;> rfl
@[simp] theorem blankOf_channel_repeatTolerance (s : State) (slot : Nat) :
    (s.blankOf slot).channel.repeatTolerance = s.channel.repeatTolerance := by unfold State.blankOf; split <;> rfl
@[simp] theorem blankOf_channel_lastStrobeEnded (s : State) (slot : Nat) :
    (s.blankOf slot).channel.lastStrobeEnded = s.channel.lastStrobeEnded := by unfold State.blankOf; split <;> rfl
@[simp] theorem blankOf_channel_heads (s : State) (slot : Nat) :
    (s.blankOf slot).channel.heads = s.channel.heads := by unfold State.blankOf; split <;> rfl

/-! ### releaseBins -/

@[simp] theorem releaseBins_scheduler (s : State) (slot : Nat) :
    (s.releaseBins slot).scheduler = s.scheduler := rfl
@[simp] theorem releaseBins_resampler (s : State) (slot : Nat) :
    (s.releaseBins slot).resampler = s.resampler := rfl
@[simp] theorem releaseBins_fetch (s : State) (slot : Nat) :
    (s.releaseBins slot).fetch = s.fetch := rfl
@[simp] theorem releaseBins_channel (s : State) (slot : Nat) :
    (s.releaseBins slot).channel = s.channel := rfl
@[simp] theorem releaseBins_density (s : State) (slot : Nat) :
    (s.releaseBins slot).density = s.density := rfl
@[simp] theorem releaseBins_web (s : State) (slot : Nat) :
    (s.releaseBins slot).web = s.web := rfl
@[simp] theorem releaseBins_price (s : State) (slot : Nat) :
    (s.releaseBins slot).price = s.price := rfl
@[simp] theorem releaseBins_links (s : State) (slot : Nat) :
    (s.releaseBins slot).links = s.links := rfl
@[simp] theorem releaseBins_timeBase (s : State) (slot : Nat) :
    (s.releaseBins slot).timeBase = s.timeBase := rfl
@[simp] theorem releaseBins_freeCount (s : State) (slot : Nat) :
    (s.releaseBins slot).freeCount = s.freeCount := rfl
@[simp] theorem releaseBins_pending (s : State) (slot : Nat) :
    (s.releaseBins slot).pending = s.pending := rfl
@[simp] theorem releaseBins_orderTable_items (s : State) (slot : Nat) :
    (s.releaseBins slot).orderTable.items = s.orderTable.items := rfl
@[simp] theorem releaseBins_orderTable_nextTicket (s : State) (slot : Nat) :
    (s.releaseBins slot).orderTable.nextTicket = s.orderTable.nextTicket := rfl
@[simp] theorem releaseBins_orderTable_sizes (s : State) (slot : Nat) :
    (s.releaseBins slot).orderTable.sizes = s.orderTable.sizes := rfl
@[simp] theorem releaseBins_orderTable_windows (s : State) (slot : Nat) :
    (s.releaseBins slot).orderTable.windows = s.orderTable.windows := rfl
@[simp] theorem releaseBins_orderTable_remakeLimit (s : State) (slot : Nat) :
    (s.releaseBins slot).orderTable.remakeLimit = s.orderTable.remakeLimit := rfl
@[simp] theorem releaseBins_sort_trayCount (s : State) (slot : Nat) :
    (s.releaseBins slot).sort.trayCount = s.sort.trayCount := rfl
@[simp] theorem releaseBins_sort_rejectCount (s : State) (slot : Nat) :
    (s.releaseBins slot).sort.rejectCount = s.sort.rejectCount := rfl
@[simp] theorem releaseBins_sort_uncollectedTime (s : State) (slot : Nat) :
    (s.releaseBins slot).sort.uncollectedTime = s.sort.uncollectedTime := rfl

/-! ### binsToWaiting -/

@[simp] theorem binsToWaiting_orderTable (s : State) (slot : Nat) :
    (s.binsToWaiting slot).orderTable = s.orderTable := rfl
@[simp] theorem binsToWaiting_scheduler (s : State) (slot : Nat) :
    (s.binsToWaiting slot).scheduler = s.scheduler := rfl
@[simp] theorem binsToWaiting_resampler (s : State) (slot : Nat) :
    (s.binsToWaiting slot).resampler = s.resampler := rfl
@[simp] theorem binsToWaiting_fetch (s : State) (slot : Nat) :
    (s.binsToWaiting slot).fetch = s.fetch := rfl
@[simp] theorem binsToWaiting_channel (s : State) (slot : Nat) :
    (s.binsToWaiting slot).channel = s.channel := rfl
@[simp] theorem binsToWaiting_density (s : State) (slot : Nat) :
    (s.binsToWaiting slot).density = s.density := rfl
@[simp] theorem binsToWaiting_web (s : State) (slot : Nat) :
    (s.binsToWaiting slot).web = s.web := rfl
@[simp] theorem binsToWaiting_price (s : State) (slot : Nat) :
    (s.binsToWaiting slot).price = s.price := rfl
@[simp] theorem binsToWaiting_links (s : State) (slot : Nat) :
    (s.binsToWaiting slot).links = s.links := rfl
@[simp] theorem binsToWaiting_timeBase (s : State) (slot : Nat) :
    (s.binsToWaiting slot).timeBase = s.timeBase := rfl
@[simp] theorem binsToWaiting_freeCount (s : State) (slot : Nat) :
    (s.binsToWaiting slot).freeCount = s.freeCount := rfl
@[simp] theorem binsToWaiting_pending (s : State) (slot : Nat) :
    (s.binsToWaiting slot).pending = s.pending := rfl
@[simp] theorem binsToWaiting_sort_trayCount (s : State) (slot : Nat) :
    (s.binsToWaiting slot).sort.trayCount = s.sort.trayCount := rfl
@[simp] theorem binsToWaiting_sort_rejectCount (s : State) (slot : Nat) :
    (s.binsToWaiting slot).sort.rejectCount = s.sort.rejectCount := rfl
@[simp] theorem binsToWaiting_sort_uncollectedTime (s : State) (slot : Nat) :
    (s.binsToWaiting slot).sort.uncollectedTime = s.sort.uncollectedTime := rfl

/-! ### freeRecord -/

@[simp] theorem freeRecord_scheduler (s : State) (slot : Nat) :
    (s.freeRecord slot).scheduler = s.scheduler := rfl
@[simp] theorem freeRecord_resampler (s : State) (slot : Nat) :
    (s.freeRecord slot).resampler = s.resampler := rfl
@[simp] theorem freeRecord_fetch (s : State) (slot : Nat) :
    (s.freeRecord slot).fetch = s.fetch := rfl
@[simp] theorem freeRecord_channel (s : State) (slot : Nat) :
    (s.freeRecord slot).channel = s.channel := rfl
@[simp] theorem freeRecord_density (s : State) (slot : Nat) :
    (s.freeRecord slot).density = s.density := rfl
@[simp] theorem freeRecord_web (s : State) (slot : Nat) :
    (s.freeRecord slot).web = s.web := rfl
@[simp] theorem freeRecord_sort (s : State) (slot : Nat) :
    (s.freeRecord slot).sort = s.sort := rfl
@[simp] theorem freeRecord_price (s : State) (slot : Nat) :
    (s.freeRecord slot).price = s.price := rfl
@[simp] theorem freeRecord_links (s : State) (slot : Nat) :
    (s.freeRecord slot).links = s.links := rfl
@[simp] theorem freeRecord_timeBase (s : State) (slot : Nat) :
    (s.freeRecord slot).timeBase = s.timeBase := rfl
@[simp] theorem freeRecord_freeCount (s : State) (slot : Nat) :
    (s.freeRecord slot).freeCount = s.freeCount := rfl
@[simp] theorem freeRecord_pending (s : State) (slot : Nat) :
    (s.freeRecord slot).pending = s.pending := rfl
@[simp] theorem freeRecord_orderTable_nextTicket (s : State) (slot : Nat) :
    (s.freeRecord slot).orderTable.nextTicket = s.orderTable.nextTicket := rfl
@[simp] theorem freeRecord_orderTable_sizes (s : State) (slot : Nat) :
    (s.freeRecord slot).orderTable.sizes = s.orderTable.sizes := rfl
@[simp] theorem freeRecord_orderTable_windows (s : State) (slot : Nat) :
    (s.freeRecord slot).orderTable.windows = s.orderTable.windows := rfl
@[simp] theorem freeRecord_orderTable_remakeLimit (s : State) (slot : Nat) :
    (s.freeRecord slot).orderTable.remakeLimit = s.orderTable.remakeLimit := rfl

/-! ### setPort -/

@[simp] theorem setPort_orderTable (s : State) (link : Link) (p : Port) :
    (s.setPort link p).orderTable = s.orderTable := rfl
@[simp] theorem setPort_scheduler (s : State) (link : Link) (p : Port) :
    (s.setPort link p).scheduler = s.scheduler := rfl
@[simp] theorem setPort_resampler (s : State) (link : Link) (p : Port) :
    (s.setPort link p).resampler = s.resampler := rfl
@[simp] theorem setPort_fetch (s : State) (link : Link) (p : Port) :
    (s.setPort link p).fetch = s.fetch := rfl
@[simp] theorem setPort_channel (s : State) (link : Link) (p : Port) :
    (s.setPort link p).channel = s.channel := rfl
@[simp] theorem setPort_density (s : State) (link : Link) (p : Port) :
    (s.setPort link p).density = s.density := rfl
@[simp] theorem setPort_web (s : State) (link : Link) (p : Port) :
    (s.setPort link p).web = s.web := rfl
@[simp] theorem setPort_sort (s : State) (link : Link) (p : Port) :
    (s.setPort link p).sort = s.sort := rfl
@[simp] theorem setPort_price (s : State) (link : Link) (p : Port) :
    (s.setPort link p).price = s.price := rfl
@[simp] theorem setPort_timeBase (s : State) (link : Link) (p : Port) :
    (s.setPort link p).timeBase = s.timeBase := rfl
@[simp] theorem setPort_freeCount (s : State) (link : Link) (p : Port) :
    (s.setPort link p).freeCount = s.freeCount := rfl
@[simp] theorem setPort_pending (s : State) (link : Link) (p : Port) :
    (s.setPort link p).pending = s.pending := rfl

/-! ### setMask -/

@[simp] theorem setMask_orderTable (s : State) (link : Link) (mask : List Bool) :
    (s.setMask link mask).orderTable = s.orderTable := rfl
@[simp] theorem setMask_scheduler (s : State) (link : Link) (mask : List Bool) :
    (s.setMask link mask).scheduler = s.scheduler := rfl
@[simp] theorem setMask_resampler (s : State) (link : Link) (mask : List Bool) :
    (s.setMask link mask).resampler = s.resampler := rfl
@[simp] theorem setMask_fetch (s : State) (link : Link) (mask : List Bool) :
    (s.setMask link mask).fetch = s.fetch := rfl
@[simp] theorem setMask_channel (s : State) (link : Link) (mask : List Bool) :
    (s.setMask link mask).channel = s.channel := rfl
@[simp] theorem setMask_density (s : State) (link : Link) (mask : List Bool) :
    (s.setMask link mask).density = s.density := rfl
@[simp] theorem setMask_web (s : State) (link : Link) (mask : List Bool) :
    (s.setMask link mask).web = s.web := rfl
@[simp] theorem setMask_sort (s : State) (link : Link) (mask : List Bool) :
    (s.setMask link mask).sort = s.sort := rfl
@[simp] theorem setMask_price (s : State) (link : Link) (mask : List Bool) :
    (s.setMask link mask).price = s.price := rfl
@[simp] theorem setMask_timeBase (s : State) (link : Link) (mask : List Bool) :
    (s.setMask link mask).timeBase = s.timeBase := rfl
@[simp] theorem setMask_freeCount (s : State) (link : Link) (mask : List Bool) :
    (s.setMask link mask).freeCount = s.freeCount := rfl
@[simp] theorem setMask_pending (s : State) (link : Link) (mask : List Bool) :
    (s.setMask link mask).pending = s.pending := rfl

/-! ### noteCauses -/

@[simp] theorem noteCauses_orderTable (s : State) (t : State) :
    (s.noteCauses t).orderTable = t.orderTable := rfl
@[simp] theorem noteCauses_resampler (s : State) (t : State) :
    (s.noteCauses t).resampler = t.resampler := rfl
@[simp] theorem noteCauses_fetch (s : State) (t : State) :
    (s.noteCauses t).fetch = t.fetch := rfl
@[simp] theorem noteCauses_channel (s : State) (t : State) :
    (s.noteCauses t).channel = t.channel := rfl
@[simp] theorem noteCauses_density (s : State) (t : State) :
    (s.noteCauses t).density = t.density := rfl
@[simp] theorem noteCauses_web (s : State) (t : State) :
    (s.noteCauses t).web = t.web := rfl
@[simp] theorem noteCauses_sort (s : State) (t : State) :
    (s.noteCauses t).sort = t.sort := rfl
@[simp] theorem noteCauses_price (s : State) (t : State) :
    (s.noteCauses t).price = t.price := rfl
@[simp] theorem noteCauses_links (s : State) (t : State) :
    (s.noteCauses t).links = t.links := rfl
@[simp] theorem noteCauses_timeBase (s : State) (t : State) :
    (s.noteCauses t).timeBase = t.timeBase := rfl
@[simp] theorem noteCauses_freeCount (s : State) (t : State) :
    (s.noteCauses t).freeCount = t.freeCount := rfl
@[simp] theorem noteCauses_pending (s : State) (t : State) :
    (s.noteCauses t).pending = t.pending := rfl
@[simp] theorem noteCauses_scheduler_express (s : State) (t : State) :
    (s.noteCauses t).scheduler.express = t.scheduler.express := rfl
@[simp] theorem noteCauses_scheduler_standard (s : State) (t : State) :
    (s.noteCauses t).scheduler.standard = t.scheduler.standard := rfl
@[simp] theorem noteCauses_scheduler_bulk (s : State) (t : State) :
    (s.noteCauses t).scheduler.bulk = t.scheduler.bulk := rfl
@[simp] theorem noteCauses_scheduler_selection (s : State) (t : State) :
    (s.noteCauses t).scheduler.selection = t.scheduler.selection := rfl
@[simp] theorem noteCauses_scheduler_patchCounter (s : State) (t : State) :
    (s.noteCauses t).scheduler.patchCounter = t.scheduler.patchCounter := rfl
@[simp] theorem noteCauses_scheduler_switchPatch (s : State) (t : State) :
    (s.noteCauses t).scheduler.switchPatch = t.scheduler.switchPatch := rfl
@[simp] theorem noteCauses_scheduler_resetPatch (s : State) (t : State) :
    (s.noteCauses t).scheduler.resetPatch = t.scheduler.resetPatch := rfl
@[simp] theorem noteCauses_scheduler_magA (s : State) (t : State) :
    (s.noteCauses t).scheduler.magA = t.scheduler.magA := rfl
@[simp] theorem noteCauses_scheduler_magB (s : State) (t : State) :
    (s.noteCauses t).scheduler.magB = t.scheduler.magB := rfl
@[simp] theorem noteCauses_scheduler_active (s : State) (t : State) :
    (s.noteCauses t).scheduler.active = t.scheduler.active := rfl
@[simp] theorem noteCauses_scheduler_switchRequested (s : State) (t : State) :
    (s.noteCauses t).scheduler.switchRequested = t.scheduler.switchRequested := rfl
@[simp] theorem noteCauses_scheduler_leaderPending (s : State) (t : State) :
    (s.noteCauses t).scheduler.leaderPending = t.scheduler.leaderPending := rfl
@[simp] theorem noteCauses_scheduler_leaderLength (s : State) (t : State) :
    (s.noteCauses t).scheduler.leaderLength = t.scheduler.leaderLength := rfl
@[simp] theorem noteCauses_scheduler_endReserve (s : State) (t : State) :
    (s.noteCauses t).scheduler.endReserve = t.scheduler.endReserve := rfl

/-! ### markPaper -/

@[simp] theorem markPaper_scheduler (s : State) (slot : Nat) (need : Option PaperNeed) :
    (s.markPaper slot need).scheduler = s.scheduler := rfl
@[simp] theorem markPaper_resampler (s : State) (slot : Nat) (need : Option PaperNeed) :
    (s.markPaper slot need).resampler = s.resampler := rfl
@[simp] theorem markPaper_fetch (s : State) (slot : Nat) (need : Option PaperNeed) :
    (s.markPaper slot need).fetch = s.fetch := rfl
@[simp] theorem markPaper_channel (s : State) (slot : Nat) (need : Option PaperNeed) :
    (s.markPaper slot need).channel = s.channel := rfl
@[simp] theorem markPaper_density (s : State) (slot : Nat) (need : Option PaperNeed) :
    (s.markPaper slot need).density = s.density := rfl
@[simp] theorem markPaper_web (s : State) (slot : Nat) (need : Option PaperNeed) :
    (s.markPaper slot need).web = s.web := rfl
@[simp] theorem markPaper_sort (s : State) (slot : Nat) (need : Option PaperNeed) :
    (s.markPaper slot need).sort = s.sort := rfl
@[simp] theorem markPaper_price (s : State) (slot : Nat) (need : Option PaperNeed) :
    (s.markPaper slot need).price = s.price := rfl
@[simp] theorem markPaper_links (s : State) (slot : Nat) (need : Option PaperNeed) :
    (s.markPaper slot need).links = s.links := rfl
@[simp] theorem markPaper_timeBase (s : State) (slot : Nat) (need : Option PaperNeed) :
    (s.markPaper slot need).timeBase = s.timeBase := rfl
@[simp] theorem markPaper_freeCount (s : State) (slot : Nat) (need : Option PaperNeed) :
    (s.markPaper slot need).freeCount = s.freeCount := rfl
@[simp] theorem markPaper_pending (s : State) (slot : Nat) (need : Option PaperNeed) :
    (s.markPaper slot need).pending = s.pending := rfl
@[simp] theorem markPaper_orderTable_items (s : State) (slot : Nat) (need : Option PaperNeed) :
    (s.markPaper slot need).orderTable.items = s.orderTable.items := rfl
@[simp] theorem markPaper_orderTable_nextTicket (s : State) (slot : Nat) (need : Option PaperNeed) :
    (s.markPaper slot need).orderTable.nextTicket = s.orderTable.nextTicket := rfl
@[simp] theorem markPaper_orderTable_sizes (s : State) (slot : Nat) (need : Option PaperNeed) :
    (s.markPaper slot need).orderTable.sizes = s.orderTable.sizes := rfl
@[simp] theorem markPaper_orderTable_windows (s : State) (slot : Nat) (need : Option PaperNeed) :
    (s.markPaper slot need).orderTable.windows = s.orderTable.windows := rfl
@[simp] theorem markPaper_orderTable_remakeLimit (s : State) (slot : Nat) (need : Option PaperNeed) :
    (s.markPaper slot need).orderTable.remakeLimit = s.orderTable.remakeLimit := rfl

/-! ### dropZeroLeader -/

@[simp] theorem dropZeroLeader_orderTable (s : State) :
    (s.dropZeroLeader).orderTable = s.orderTable := rfl
@[simp] theorem dropZeroLeader_resampler (s : State) :
    (s.dropZeroLeader).resampler = s.resampler := rfl
@[simp] theorem dropZeroLeader_fetch (s : State) :
    (s.dropZeroLeader).fetch = s.fetch := rfl
@[simp] theorem dropZeroLeader_channel (s : State) :
    (s.dropZeroLeader).channel = s.channel := rfl
@[simp] theorem dropZeroLeader_density (s : State) :
    (s.dropZeroLeader).density = s.density := rfl
@[simp] theorem dropZeroLeader_web (s : State) :
    (s.dropZeroLeader).web = s.web := rfl
@[simp] theorem dropZeroLeader_sort (s : State) :
    (s.dropZeroLeader).sort = s.sort := rfl
@[simp] theorem dropZeroLeader_price (s : State) :
    (s.dropZeroLeader).price = s.price := rfl
@[simp] theorem dropZeroLeader_links (s : State) :
    (s.dropZeroLeader).links = s.links := rfl
@[simp] theorem dropZeroLeader_timeBase (s : State) :
    (s.dropZeroLeader).timeBase = s.timeBase := rfl
@[simp] theorem dropZeroLeader_freeCount (s : State) :
    (s.dropZeroLeader).freeCount = s.freeCount := rfl
@[simp] theorem dropZeroLeader_pending (s : State) :
    (s.dropZeroLeader).pending = s.pending := rfl
@[simp] theorem dropZeroLeader_scheduler_express (s : State) :
    (s.dropZeroLeader).scheduler.express = s.scheduler.express := rfl
@[simp] theorem dropZeroLeader_scheduler_standard (s : State) :
    (s.dropZeroLeader).scheduler.standard = s.scheduler.standard := rfl
@[simp] theorem dropZeroLeader_scheduler_bulk (s : State) :
    (s.dropZeroLeader).scheduler.bulk = s.scheduler.bulk := rfl
@[simp] theorem dropZeroLeader_scheduler_selection (s : State) :
    (s.dropZeroLeader).scheduler.selection = s.scheduler.selection := rfl
@[simp] theorem dropZeroLeader_scheduler_patchCounter (s : State) :
    (s.dropZeroLeader).scheduler.patchCounter = s.scheduler.patchCounter := rfl
@[simp] theorem dropZeroLeader_scheduler_switchPatch (s : State) :
    (s.dropZeroLeader).scheduler.switchPatch = s.scheduler.switchPatch := rfl
@[simp] theorem dropZeroLeader_scheduler_resetPatch (s : State) :
    (s.dropZeroLeader).scheduler.resetPatch = s.scheduler.resetPatch := rfl
@[simp] theorem dropZeroLeader_scheduler_magA (s : State) :
    (s.dropZeroLeader).scheduler.magA = s.scheduler.magA := rfl
@[simp] theorem dropZeroLeader_scheduler_magB (s : State) :
    (s.dropZeroLeader).scheduler.magB = s.scheduler.magB := rfl
@[simp] theorem dropZeroLeader_scheduler_active (s : State) :
    (s.dropZeroLeader).scheduler.active = s.scheduler.active := rfl
@[simp] theorem dropZeroLeader_scheduler_switchRequested (s : State) :
    (s.dropZeroLeader).scheduler.switchRequested = s.scheduler.switchRequested := rfl
@[simp] theorem dropZeroLeader_scheduler_leaderLength (s : State) :
    (s.dropZeroLeader).scheduler.leaderLength = s.scheduler.leaderLength := rfl
@[simp] theorem dropZeroLeader_scheduler_endReserve (s : State) :
    (s.dropZeroLeader).scheduler.endReserve = s.scheduler.endReserve := rfl
@[simp] theorem dropZeroLeader_scheduler_attemptCause (s : State) :
    (s.dropZeroLeader).scheduler.attemptCause = s.scheduler.attemptCause := rfl

/-! ### openLeader -/

@[simp] theorem openLeader_orderTable (s : State) :
    (s.openLeader).orderTable = s.orderTable := rfl
@[simp] theorem openLeader_resampler (s : State) :
    (s.openLeader).resampler = s.resampler := rfl
@[simp] theorem openLeader_fetch (s : State) :
    (s.openLeader).fetch = s.fetch := rfl
@[simp] theorem openLeader_channel (s : State) :
    (s.openLeader).channel = s.channel := rfl
@[simp] theorem openLeader_density (s : State) :
    (s.openLeader).density = s.density := rfl
@[simp] theorem openLeader_sort (s : State) :
    (s.openLeader).sort = s.sort := rfl
@[simp] theorem openLeader_price (s : State) :
    (s.openLeader).price = s.price := rfl
@[simp] theorem openLeader_links (s : State) :
    (s.openLeader).links = s.links := rfl
@[simp] theorem openLeader_timeBase (s : State) :
    (s.openLeader).timeBase = s.timeBase := rfl
@[simp] theorem openLeader_freeCount (s : State) :
    (s.openLeader).freeCount = s.freeCount := rfl
@[simp] theorem openLeader_pending (s : State) :
    (s.openLeader).pending = s.pending := rfl
@[simp] theorem openLeader_scheduler_express (s : State) :
    (s.openLeader).scheduler.express = s.scheduler.express := rfl
@[simp] theorem openLeader_scheduler_standard (s : State) :
    (s.openLeader).scheduler.standard = s.scheduler.standard := rfl
@[simp] theorem openLeader_scheduler_bulk (s : State) :
    (s.openLeader).scheduler.bulk = s.scheduler.bulk := rfl
@[simp] theorem openLeader_scheduler_selection (s : State) :
    (s.openLeader).scheduler.selection = s.scheduler.selection := rfl
@[simp] theorem openLeader_scheduler_patchCounter (s : State) :
    (s.openLeader).scheduler.patchCounter = s.scheduler.patchCounter := rfl
@[simp] theorem openLeader_scheduler_switchPatch (s : State) :
    (s.openLeader).scheduler.switchPatch = s.scheduler.switchPatch := rfl
@[simp] theorem openLeader_scheduler_resetPatch (s : State) :
    (s.openLeader).scheduler.resetPatch = s.scheduler.resetPatch := rfl
@[simp] theorem openLeader_scheduler_magA (s : State) :
    (s.openLeader).scheduler.magA = s.scheduler.magA := rfl
@[simp] theorem openLeader_scheduler_magB (s : State) :
    (s.openLeader).scheduler.magB = s.scheduler.magB := rfl
@[simp] theorem openLeader_scheduler_active (s : State) :
    (s.openLeader).scheduler.active = s.scheduler.active := rfl
@[simp] theorem openLeader_scheduler_switchRequested (s : State) :
    (s.openLeader).scheduler.switchRequested = s.scheduler.switchRequested := rfl
@[simp] theorem openLeader_scheduler_leaderLength (s : State) :
    (s.openLeader).scheduler.leaderLength = s.scheduler.leaderLength := rfl
@[simp] theorem openLeader_scheduler_endReserve (s : State) :
    (s.openLeader).scheduler.endReserve = s.scheduler.endReserve := rfl
@[simp] theorem openLeader_scheduler_attemptCause (s : State) :
    (s.openLeader).scheduler.attemptCause = s.scheduler.attemptCause := rfl
@[simp] theorem openLeader_web_odometer (s : State) :
    (s.openLeader).web.odometer = s.web.odometer := rfl
@[simp] theorem openLeader_web_lpath (s : State) :
    (s.openLeader).web.lpath = s.web.lpath := rfl
@[simp] theorem openLeader_web_transport (s : State) :
    (s.openLeader).web.transport = s.web.transport := rfl
@[simp] theorem openLeader_web_stallTime (s : State) :
    (s.openLeader).web.stallTime = s.web.stallTime := rfl
@[simp] theorem openLeader_web_stage (s : State) :
    (s.openLeader).web.stage = s.web.stage := rfl
@[simp] theorem openLeader_web_stall (s : State) :
    (s.openLeader).web.stall = s.web.stall := rfl
@[simp] theorem openLeader_web_fault (s : State) :
    (s.openLeader).web.fault = s.web.fault := rfl
@[simp] theorem openLeader_web_unlisted (s : State) :
    (s.openLeader).web.unlisted = s.web.unlisted := rfl
@[simp] theorem openLeader_web_cutsTaken (s : State) :
    (s.openLeader).web.cutsTaken = s.web.cutsTaken := rfl
@[simp] theorem openLeader_web_lastCut (s : State) :
    (s.openLeader).web.lastCut = s.web.lastCut := rfl

/-! ### countReject -/

@[simp] theorem countReject_orderTable (s : State) :
    (s.countReject).orderTable = s.orderTable := rfl
@[simp] theorem countReject_scheduler (s : State) :
    (s.countReject).scheduler = s.scheduler := rfl
@[simp] theorem countReject_resampler (s : State) :
    (s.countReject).resampler = s.resampler := rfl
@[simp] theorem countReject_fetch (s : State) :
    (s.countReject).fetch = s.fetch := rfl
@[simp] theorem countReject_channel (s : State) :
    (s.countReject).channel = s.channel := rfl
@[simp] theorem countReject_density (s : State) :
    (s.countReject).density = s.density := rfl
@[simp] theorem countReject_web (s : State) :
    (s.countReject).web = s.web := rfl
@[simp] theorem countReject_price (s : State) :
    (s.countReject).price = s.price := rfl
@[simp] theorem countReject_links (s : State) :
    (s.countReject).links = s.links := rfl
@[simp] theorem countReject_timeBase (s : State) :
    (s.countReject).timeBase = s.timeBase := rfl
@[simp] theorem countReject_freeCount (s : State) :
    (s.countReject).freeCount = s.freeCount := rfl
@[simp] theorem countReject_pending (s : State) :
    (s.countReject).pending = s.pending := rfl
@[simp] theorem countReject_sort_bins (s : State) :
    (s.countReject).sort.bins = s.sort.bins := rfl
@[simp] theorem countReject_sort_trayCount (s : State) :
    (s.countReject).sort.trayCount = s.sort.trayCount := rfl
@[simp] theorem countReject_sort_uncollectedTime (s : State) :
    (s.countReject).sort.uncollectedTime = s.sort.uncollectedTime := rfl

/-! ### notePatches -/

@[simp] theorem notePatches_orderTable (s : State) (popped : List Segment) :
    (s.notePatches popped).orderTable = s.orderTable := rfl
@[simp] theorem notePatches_scheduler (s : State) (popped : List Segment) :
    (s.notePatches popped).scheduler = s.scheduler := rfl
@[simp] theorem notePatches_resampler (s : State) (popped : List Segment) :
    (s.notePatches popped).resampler = s.resampler := rfl
@[simp] theorem notePatches_fetch (s : State) (popped : List Segment) :
    (s.notePatches popped).fetch = s.fetch := rfl
@[simp] theorem notePatches_channel (s : State) (popped : List Segment) :
    (s.notePatches popped).channel = s.channel := rfl
@[simp] theorem notePatches_web (s : State) (popped : List Segment) :
    (s.notePatches popped).web = s.web := rfl
@[simp] theorem notePatches_sort (s : State) (popped : List Segment) :
    (s.notePatches popped).sort = s.sort := rfl
@[simp] theorem notePatches_price (s : State) (popped : List Segment) :
    (s.notePatches popped).price = s.price := rfl
@[simp] theorem notePatches_links (s : State) (popped : List Segment) :
    (s.notePatches popped).links = s.links := rfl
@[simp] theorem notePatches_timeBase (s : State) (popped : List Segment) :
    (s.notePatches popped).timeBase = s.timeBase := rfl
@[simp] theorem notePatches_freeCount (s : State) (popped : List Segment) :
    (s.notePatches popped).freeCount = s.freeCount := rfl
@[simp] theorem notePatches_pending (s : State) (popped : List Segment) :
    (s.notePatches popped).pending = s.pending := rfl
@[simp] theorem notePatches_density_offsets (s : State) (popped : List Segment) :
    (s.notePatches popped).density.offsets = s.density.offsets := rfl
@[simp] theorem notePatches_density_targets (s : State) (popped : List Segment) :
    (s.notePatches popped).density.targets = s.density.targets := rfl
@[simp] theorem notePatches_density_a (s : State) (popped : List Segment) :
    (s.notePatches popped).density.a = s.density.a := rfl
@[simp] theorem notePatches_density_q (s : State) (popped : List Segment) :
    (s.notePatches popped).density.q = s.density.q := rfl
@[simp] theorem notePatches_density_k (s : State) (popped : List Segment) :
    (s.notePatches popped).density.k = s.density.k := rfl
@[simp] theorem notePatches_density_implausible (s : State) (popped : List Segment) :
    (s.notePatches popped).density.implausible = s.density.implausible := rfl
@[simp] theorem notePatches_density_fault (s : State) (popped : List Segment) :
    (s.notePatches popped).density.fault = s.density.fault := rfl
@[simp] theorem notePatches_density_lastReading (s : State) (popped : List Segment) :
    (s.notePatches popped).density.lastReading = s.density.lastReading := rfl

/-! ### popSegments -/

@[simp] theorem popSegments_orderTable (s : State) (k : Nat) :
    (s.popSegments k).orderTable = s.orderTable := rfl
@[simp] theorem popSegments_scheduler (s : State) (k : Nat) :
    (s.popSegments k).scheduler = s.scheduler := rfl
@[simp] theorem popSegments_resampler (s : State) (k : Nat) :
    (s.popSegments k).resampler = s.resampler := rfl
@[simp] theorem popSegments_fetch (s : State) (k : Nat) :
    (s.popSegments k).fetch = s.fetch := rfl
@[simp] theorem popSegments_channel (s : State) (k : Nat) :
    (s.popSegments k).channel = s.channel := rfl
@[simp] theorem popSegments_density (s : State) (k : Nat) :
    (s.popSegments k).density = s.density := rfl
@[simp] theorem popSegments_sort (s : State) (k : Nat) :
    (s.popSegments k).sort = s.sort := rfl
@[simp] theorem popSegments_price (s : State) (k : Nat) :
    (s.popSegments k).price = s.price := rfl
@[simp] theorem popSegments_links (s : State) (k : Nat) :
    (s.popSegments k).links = s.links := rfl
@[simp] theorem popSegments_timeBase (s : State) (k : Nat) :
    (s.popSegments k).timeBase = s.timeBase := rfl
@[simp] theorem popSegments_freeCount (s : State) (k : Nat) :
    (s.popSegments k).freeCount = s.freeCount := rfl
@[simp] theorem popSegments_pending (s : State) (k : Nat) :
    (s.popSegments k).pending = s.pending := rfl

/-! ### transportRun -/

@[simp] theorem transportRun_orderTable (s : State) :
    (s.transportRun).orderTable = s.orderTable := rfl
@[simp] theorem transportRun_scheduler (s : State) :
    (s.transportRun).scheduler = s.scheduler := rfl
@[simp] theorem transportRun_resampler (s : State) :
    (s.transportRun).resampler = s.resampler := rfl
@[simp] theorem transportRun_fetch (s : State) :
    (s.transportRun).fetch = s.fetch := rfl
@[simp] theorem transportRun_channel (s : State) :
    (s.transportRun).channel = s.channel := rfl
@[simp] theorem transportRun_density (s : State) :
    (s.transportRun).density = s.density := rfl
@[simp] theorem transportRun_sort (s : State) :
    (s.transportRun).sort = s.sort := rfl
@[simp] theorem transportRun_price (s : State) :
    (s.transportRun).price = s.price := rfl
@[simp] theorem transportRun_links (s : State) :
    (s.transportRun).links = s.links := rfl
@[simp] theorem transportRun_timeBase (s : State) :
    (s.transportRun).timeBase = s.timeBase := rfl
@[simp] theorem transportRun_freeCount (s : State) :
    (s.transportRun).freeCount = s.freeCount := rfl
@[simp] theorem transportRun_pending (s : State) :
    (s.transportRun).pending = s.pending := rfl

/-! ### transportStop -/

@[simp] theorem transportStop_orderTable (s : State) :
    (s.transportStop).orderTable = s.orderTable := rfl
@[simp] theorem transportStop_scheduler (s : State) :
    (s.transportStop).scheduler = s.scheduler := rfl
@[simp] theorem transportStop_resampler (s : State) :
    (s.transportStop).resampler = s.resampler := rfl
@[simp] theorem transportStop_fetch (s : State) :
    (s.transportStop).fetch = s.fetch := rfl
@[simp] theorem transportStop_channel (s : State) :
    (s.transportStop).channel = s.channel := rfl
@[simp] theorem transportStop_density (s : State) :
    (s.transportStop).density = s.density := rfl
@[simp] theorem transportStop_sort (s : State) :
    (s.transportStop).sort = s.sort := rfl
@[simp] theorem transportStop_price (s : State) :
    (s.transportStop).price = s.price := rfl
@[simp] theorem transportStop_links (s : State) :
    (s.transportStop).links = s.links := rfl
@[simp] theorem transportStop_timeBase (s : State) :
    (s.transportStop).timeBase = s.timeBase := rfl
@[simp] theorem transportStop_freeCount (s : State) :
    (s.transportStop).freeCount = s.freeCount := rfl
@[simp] theorem transportStop_pending (s : State) :
    (s.transportStop).pending = s.pending := rfl

/-! ### stallFirst -/

@[simp] theorem stallFirst_orderTable (s : State) :
    (s.stallFirst).orderTable = s.orderTable := rfl
@[simp] theorem stallFirst_scheduler (s : State) :
    (s.stallFirst).scheduler = s.scheduler := rfl
@[simp] theorem stallFirst_resampler (s : State) :
    (s.stallFirst).resampler = s.resampler := rfl
@[simp] theorem stallFirst_fetch (s : State) :
    (s.stallFirst).fetch = s.fetch := rfl
@[simp] theorem stallFirst_channel (s : State) :
    (s.stallFirst).channel = s.channel := rfl
@[simp] theorem stallFirst_density (s : State) :
    (s.stallFirst).density = s.density := rfl
@[simp] theorem stallFirst_sort (s : State) :
    (s.stallFirst).sort = s.sort := rfl
@[simp] theorem stallFirst_price (s : State) :
    (s.stallFirst).price = s.price := rfl
@[simp] theorem stallFirst_links (s : State) :
    (s.stallFirst).links = s.links := rfl
@[simp] theorem stallFirst_timeBase (s : State) :
    (s.stallFirst).timeBase = s.timeBase := rfl
@[simp] theorem stallFirst_freeCount (s : State) :
    (s.stallFirst).freeCount = s.freeCount := rfl
@[simp] theorem stallFirst_pending (s : State) :
    (s.stallFirst).pending = s.pending := rfl

/-! ### served -/

@[simp] theorem served_orderTable (s : State) :
    (s.served).orderTable = s.orderTable := rfl
@[simp] theorem served_scheduler (s : State) :
    (s.served).scheduler = s.scheduler := rfl
@[simp] theorem served_resampler (s : State) :
    (s.served).resampler = s.resampler := rfl
@[simp] theorem served_channel (s : State) :
    (s.served).channel = s.channel := rfl
@[simp] theorem served_density (s : State) :
    (s.served).density = s.density := rfl
@[simp] theorem served_web (s : State) :
    (s.served).web = s.web := rfl
@[simp] theorem served_sort (s : State) :
    (s.served).sort = s.sort := rfl
@[simp] theorem served_price (s : State) :
    (s.served).price = s.price := rfl
@[simp] theorem served_links (s : State) :
    (s.served).links = s.links := rfl
@[simp] theorem served_timeBase (s : State) :
    (s.served).timeBase = s.timeBase := rfl
@[simp] theorem served_freeCount (s : State) :
    (s.served).freeCount = s.freeCount := rfl
@[simp] theorem served_pending (s : State) :
    (s.served).pending = s.pending := rfl

/-! ### rasterTick -/

@[simp] theorem rasterTick_orderTable (s : State) :
    (s.rasterTick).orderTable = s.orderTable := rfl
@[simp] theorem rasterTick_scheduler (s : State) :
    (s.rasterTick).scheduler = s.scheduler := rfl
@[simp] theorem rasterTick_resampler (s : State) :
    (s.rasterTick).resampler = s.resampler := rfl
@[simp] theorem rasterTick_channel (s : State) :
    (s.rasterTick).channel = s.channel := rfl
@[simp] theorem rasterTick_density (s : State) :
    (s.rasterTick).density = s.density := rfl
@[simp] theorem rasterTick_web (s : State) :
    (s.rasterTick).web = s.web := rfl
@[simp] theorem rasterTick_sort (s : State) :
    (s.rasterTick).sort = s.sort := rfl
@[simp] theorem rasterTick_price (s : State) :
    (s.rasterTick).price = s.price := rfl
@[simp] theorem rasterTick_links (s : State) :
    (s.rasterTick).links = s.links := rfl
@[simp] theorem rasterTick_timeBase (s : State) :
    (s.rasterTick).timeBase = s.timeBase := rfl
@[simp] theorem rasterTick_pending (s : State) :
    (s.rasterTick).pending = s.pending := rfl
@[simp] theorem rasterTick_fetch_inFlight (s : State) :
    (s.rasterTick).fetch.inFlight = s.fetch.inFlight := rfl
@[simp] theorem rasterTick_fetch_nextTag (s : State) :
    (s.rasterTick).fetch.nextTag = s.fetch.nextTag := rfl
@[simp] theorem rasterTick_fetch_timer (s : State) :
    (s.rasterTick).fetch.timer = s.fetch.timer := rfl
@[simp] theorem rasterTick_fetch_lastFault (s : State) :
    (s.rasterTick).fetch.lastFault = s.fetch.lastFault := rfl
@[simp] theorem rasterTick_fetch_faultCount (s : State) :
    (s.rasterTick).fetch.faultCount = s.fetch.faultCount := rfl
@[simp] theorem rasterTick_fetch_frameSent (s : State) :
    (s.rasterTick).fetch.frameSent = s.fetch.frameSent := rfl

/-! ### toTray -/

@[simp] theorem toTray_scheduler (s : State) (slot : Nat) :
    (s.toTray slot).scheduler = s.scheduler := rfl
@[simp] theorem toTray_resampler (s : State) (slot : Nat) :
    (s.toTray slot).resampler = s.resampler := rfl
@[simp] theorem toTray_fetch (s : State) (slot : Nat) :
    (s.toTray slot).fetch = s.fetch := rfl
@[simp] theorem toTray_channel (s : State) (slot : Nat) :
    (s.toTray slot).channel = s.channel := rfl
@[simp] theorem toTray_density (s : State) (slot : Nat) :
    (s.toTray slot).density = s.density := rfl
@[simp] theorem toTray_web (s : State) (slot : Nat) :
    (s.toTray slot).web = s.web := rfl
@[simp] theorem toTray_price (s : State) (slot : Nat) :
    (s.toTray slot).price = s.price := rfl
@[simp] theorem toTray_links (s : State) (slot : Nat) :
    (s.toTray slot).links = s.links := rfl
@[simp] theorem toTray_timeBase (s : State) (slot : Nat) :
    (s.toTray slot).timeBase = s.timeBase := rfl
@[simp] theorem toTray_freeCount (s : State) (slot : Nat) :
    (s.toTray slot).freeCount = s.freeCount := rfl
@[simp] theorem toTray_pending (s : State) (slot : Nat) :
    (s.toTray slot).pending = s.pending := rfl
@[simp] theorem toTray_orderTable_items (s : State) (slot : Nat) :
    (s.toTray slot).orderTable.items = s.orderTable.items := rfl
@[simp] theorem toTray_orderTable_nextTicket (s : State) (slot : Nat) :
    (s.toTray slot).orderTable.nextTicket = s.orderTable.nextTicket := rfl
@[simp] theorem toTray_orderTable_sizes (s : State) (slot : Nat) :
    (s.toTray slot).orderTable.sizes = s.orderTable.sizes := rfl
@[simp] theorem toTray_orderTable_windows (s : State) (slot : Nat) :
    (s.toTray slot).orderTable.windows = s.orderTable.windows := rfl
@[simp] theorem toTray_orderTable_remakeLimit (s : State) (slot : Nat) :
    (s.toTray slot).orderTable.remakeLimit = s.orderTable.remakeLimit := rfl
@[simp] theorem toTray_sort_bins (s : State) (slot : Nat) :
    (s.toTray slot).sort.bins = s.sort.bins := rfl
@[simp] theorem toTray_sort_rejectCount (s : State) (slot : Nat) :
    (s.toTray slot).sort.rejectCount = s.sort.rejectCount := rfl
@[simp] theorem toTray_sort_uncollectedTime (s : State) (slot : Nat) :
    (s.toTray slot).sort.uncollectedTime = s.sort.uncollectedTime := rfl

/-! ### answered -/

@[simp] theorem answered_orderTable (s : State) (link : Link) (r : State × Reply) :
    (s.answered link r).orderTable = r.1.orderTable := rfl
@[simp] theorem answered_resampler (s : State) (link : Link) (r : State × Reply) :
    (s.answered link r).resampler = r.1.resampler := rfl
@[simp] theorem answered_fetch (s : State) (link : Link) (r : State × Reply) :
    (s.answered link r).fetch = r.1.fetch := rfl
@[simp] theorem answered_channel (s : State) (link : Link) (r : State × Reply) :
    (s.answered link r).channel = r.1.channel := rfl
@[simp] theorem answered_density (s : State) (link : Link) (r : State × Reply) :
    (s.answered link r).density = r.1.density := rfl
@[simp] theorem answered_web (s : State) (link : Link) (r : State × Reply) :
    (s.answered link r).web = r.1.web := rfl
@[simp] theorem answered_sort (s : State) (link : Link) (r : State × Reply) :
    (s.answered link r).sort = r.1.sort := rfl
@[simp] theorem answered_price (s : State) (link : Link) (r : State × Reply) :
    (s.answered link r).price = r.1.price := rfl
@[simp] theorem answered_timeBase (s : State) (link : Link) (r : State × Reply) :
    (s.answered link r).timeBase = r.1.timeBase := rfl
@[simp] theorem answered_freeCount (s : State) (link : Link) (r : State × Reply) :
    (s.answered link r).freeCount = r.1.freeCount := rfl
@[simp] theorem answered_pending (s : State) (link : Link) (r : State × Reply) :
    (s.answered link r).pending = r.1.pending := rfl
@[simp] theorem answered_scheduler_express (s : State) (link : Link) (r : State × Reply) :
    (s.answered link r).scheduler.express = r.1.scheduler.express := rfl
@[simp] theorem answered_scheduler_standard (s : State) (link : Link) (r : State × Reply) :
    (s.answered link r).scheduler.standard = r.1.scheduler.standard := rfl
@[simp] theorem answered_scheduler_bulk (s : State) (link : Link) (r : State × Reply) :
    (s.answered link r).scheduler.bulk = r.1.scheduler.bulk := rfl
@[simp] theorem answered_scheduler_selection (s : State) (link : Link) (r : State × Reply) :
    (s.answered link r).scheduler.selection = r.1.scheduler.selection := rfl
@[simp] theorem answered_scheduler_patchCounter (s : State) (link : Link) (r : State × Reply) :
    (s.answered link r).scheduler.patchCounter = r.1.scheduler.patchCounter := rfl
@[simp] theorem answered_scheduler_switchPatch (s : State) (link : Link) (r : State × Reply) :
    (s.answered link r).scheduler.switchPatch = r.1.scheduler.switchPatch := rfl
@[simp] theorem answered_scheduler_resetPatch (s : State) (link : Link) (r : State × Reply) :
    (s.answered link r).scheduler.resetPatch = r.1.scheduler.resetPatch := rfl
@[simp] theorem answered_scheduler_magA (s : State) (link : Link) (r : State × Reply) :
    (s.answered link r).scheduler.magA = r.1.scheduler.magA := rfl
@[simp] theorem answered_scheduler_magB (s : State) (link : Link) (r : State × Reply) :
    (s.answered link r).scheduler.magB = r.1.scheduler.magB := rfl
@[simp] theorem answered_scheduler_active (s : State) (link : Link) (r : State × Reply) :
    (s.answered link r).scheduler.active = r.1.scheduler.active := rfl
@[simp] theorem answered_scheduler_switchRequested (s : State) (link : Link) (r : State × Reply) :
    (s.answered link r).scheduler.switchRequested = r.1.scheduler.switchRequested := rfl
@[simp] theorem answered_scheduler_leaderPending (s : State) (link : Link) (r : State × Reply) :
    (s.answered link r).scheduler.leaderPending = r.1.scheduler.leaderPending := rfl
@[simp] theorem answered_scheduler_leaderLength (s : State) (link : Link) (r : State × Reply) :
    (s.answered link r).scheduler.leaderLength = r.1.scheduler.leaderLength := rfl
@[simp] theorem answered_scheduler_endReserve (s : State) (link : Link) (r : State × Reply) :
    (s.answered link r).scheduler.endReserve = r.1.scheduler.endReserve := rfl

end Sys2Proof.Laws
end

