-- ==== Sys2Proof/Laws/Ops.lean ====
section
/-! SUPPORT. What the shared operations of Machine/Ops.lean and of the families leave as it was. -/

namespace Sys2Proof.Laws

open Sys2Proof.Machine

/-! ### delist -/

@[simp] theorem delist_resampler (s : State) (slot : Nat) :
    (s.delist slot).resampler = s.resampler := by
  rfl
@[simp] theorem delist_fetch (s : State) (slot : Nat) :
    (s.delist slot).fetch = s.fetch := by
  rfl
@[simp] theorem delist_channel (s : State) (slot : Nat) :
    (s.delist slot).channel = s.channel := by
  rfl
@[simp] theorem delist_density (s : State) (slot : Nat) :
    (s.delist slot).density = s.density := by
  rfl
@[simp] theorem delist_web (s : State) (slot : Nat) :
    (s.delist slot).web = s.web := by
  rfl
@[simp] theorem delist_sort (s : State) (slot : Nat) :
    (s.delist slot).sort = s.sort := by
  rfl
@[simp] theorem delist_price (s : State) (slot : Nat) :
    (s.delist slot).price = s.price := by
  rfl
@[simp] theorem delist_links (s : State) (slot : Nat) :
    (s.delist slot).links = s.links := by
  rfl
@[simp] theorem delist_timeBase (s : State) (slot : Nat) :
    (s.delist slot).timeBase = s.timeBase := by
  rfl
@[simp] theorem delist_freeCount (s : State) (slot : Nat) :
    (s.delist slot).freeCount = s.freeCount := by
  rfl
@[simp] theorem delist_pending (s : State) (slot : Nat) :
    (s.delist slot).pending = s.pending := by
  rfl
@[simp] theorem delist_orderTable_items (s : State) (slot : Nat) :
    (s.delist slot).orderTable.items = s.orderTable.items := by
  rfl
@[simp] theorem delist_orderTable_nextTicket (s : State) (slot : Nat) :
    (s.delist slot).orderTable.nextTicket = s.orderTable.nextTicket := by
  rfl
@[simp] theorem delist_orderTable_sizes (s : State) (slot : Nat) :
    (s.delist slot).orderTable.sizes = s.orderTable.sizes := by
  rfl
@[simp] theorem delist_orderTable_windows (s : State) (slot : Nat) :
    (s.delist slot).orderTable.windows = s.orderTable.windows := by
  rfl
@[simp] theorem delist_orderTable_remakeLimit (s : State) (slot : Nat) :
    (s.delist slot).orderTable.remakeLimit = s.orderTable.remakeLimit := by
  rfl
@[simp] theorem delist_scheduler_selection (s : State) (slot : Nat) :
    (s.delist slot).scheduler.selection = s.scheduler.selection := by
  simp only [State.delist]; split <;> rfl
@[simp] theorem delist_scheduler_patchCounter (s : State) (slot : Nat) :
    (s.delist slot).scheduler.patchCounter = s.scheduler.patchCounter := by
  simp only [State.delist]; split <;> rfl
@[simp] theorem delist_scheduler_switchPatch (s : State) (slot : Nat) :
    (s.delist slot).scheduler.switchPatch = s.scheduler.switchPatch := by
  simp only [State.delist]; split <;> rfl
@[simp] theorem delist_scheduler_resetPatch (s : State) (slot : Nat) :
    (s.delist slot).scheduler.resetPatch = s.scheduler.resetPatch := by
  simp only [State.delist]; split <;> rfl
@[simp] theorem delist_scheduler_magA (s : State) (slot : Nat) :
    (s.delist slot).scheduler.magA = s.scheduler.magA := by
  simp only [State.delist]; split <;> rfl
@[simp] theorem delist_scheduler_magB (s : State) (slot : Nat) :
    (s.delist slot).scheduler.magB = s.scheduler.magB := by
  simp only [State.delist]; split <;> rfl
@[simp] theorem delist_scheduler_active (s : State) (slot : Nat) :
    (s.delist slot).scheduler.active = s.scheduler.active := by
  simp only [State.delist]; split <;> rfl
@[simp] theorem delist_scheduler_switchRequested (s : State) (slot : Nat) :
    (s.delist slot).scheduler.switchRequested = s.scheduler.switchRequested := by
  simp only [State.delist]; split <;> rfl
@[simp] theorem delist_scheduler_leaderPending (s : State) (slot : Nat) :
    (s.delist slot).scheduler.leaderPending = s.scheduler.leaderPending := by
  simp only [State.delist]; split <;> rfl
@[simp] theorem delist_scheduler_leaderLength (s : State) (slot : Nat) :
    (s.delist slot).scheduler.leaderLength = s.scheduler.leaderLength := by
  simp only [State.delist]; split <;> rfl
@[simp] theorem delist_scheduler_endReserve (s : State) (slot : Nat) :
    (s.delist slot).scheduler.endReserve = s.scheduler.endReserve := by
  simp only [State.delist]; split <;> rfl

/-! ### enlist -/

@[simp] theorem enlist_orderTable (s : State) (slot : Nat) :
    (s.enlist slot).orderTable = s.orderTable := by
  rfl
@[simp] theorem enlist_resampler (s : State) (slot : Nat) :
    (s.enlist slot).resampler = s.resampler := by
  rfl
@[simp] theorem enlist_fetch (s : State) (slot : Nat) :
    (s.enlist slot).fetch = s.fetch := by
  rfl
@[simp] theorem enlist_channel (s : State) (slot : Nat) :
    (s.enlist slot).channel = s.channel := by
  rfl
@[simp] theorem enlist_density (s : State) (slot : Nat) :
    (s.enlist slot).density = s.density := by
  rfl
@[simp] theorem enlist_web (s : State) (slot : Nat) :
    (s.enlist slot).web = s.web := by
  rfl
@[simp] theorem enlist_sort (s : State) (slot : Nat) :
    (s.enlist slot).sort = s.sort := by
  rfl
@[simp] theorem enlist_price (s : State) (slot : Nat) :
    (s.enlist slot).price = s.price := by
  rfl
@[simp] theorem enlist_links (s : State) (slot : Nat) :
    (s.enlist slot).links = s.links := by
  rfl
@[simp] theorem enlist_timeBase (s : State) (slot : Nat) :
    (s.enlist slot).timeBase = s.timeBase := by
  rfl
@[simp] theorem enlist_freeCount (s : State) (slot : Nat) :
    (s.enlist slot).freeCount = s.freeCount := by
  rfl
@[simp] theorem enlist_pending (s : State) (slot : Nat) :
    (s.enlist slot).pending = s.pending := by
  rfl
@[simp] theorem enlist_scheduler_selection (s : State) (slot : Nat) :
    (s.enlist slot).scheduler.selection = s.scheduler.selection := by
  simp only [State.enlist]; split <;> rfl
@[simp] theorem enlist_scheduler_patchCounter (s : State) (slot : Nat) :
    (s.enlist slot).scheduler.patchCounter = s.scheduler.patchCounter := by
  simp only [State.enlist]; split <;> rfl
@[simp] theorem enlist_scheduler_switchPatch (s : State) (slot : Nat) :
    (s.enlist slot).scheduler.switchPatch = s.scheduler.switchPatch := by
  simp only [State.enlist]; split <;> rfl
@[simp] theorem enlist_scheduler_resetPatch (s : State) (slot : Nat) :
    (s.enlist slot).scheduler.resetPatch = s.scheduler.resetPatch := by
  simp only [State.enlist]; split <;> rfl
@[simp] theorem enlist_scheduler_magA (s : State) (slot : Nat) :
    (s.enlist slot).scheduler.magA = s.scheduler.magA := by
  simp only [State.enlist]; split <;> rfl
@[simp] theorem enlist_scheduler_magB (s : State) (slot : Nat) :
    (s.enlist slot).scheduler.magB = s.scheduler.magB := by
  simp only [State.enlist]; split <;> rfl
@[simp] theorem enlist_scheduler_active (s : State) (slot : Nat) :
    (s.enlist slot).scheduler.active = s.scheduler.active := by
  simp only [State.enlist]; split <;> rfl
@[simp] theorem enlist_scheduler_switchRequested (s : State) (slot : Nat) :
    (s.enlist slot).scheduler.switchRequested = s.scheduler.switchRequested := by
  simp only [State.enlist]; split <;> rfl
@[simp] theorem enlist_scheduler_leaderPending (s : State) (slot : Nat) :
    (s.enlist slot).scheduler.leaderPending = s.scheduler.leaderPending := by
  simp only [State.enlist]; split <;> rfl
@[simp] theorem enlist_scheduler_leaderLength (s : State) (slot : Nat) :
    (s.enlist slot).scheduler.leaderLength = s.scheduler.leaderLength := by
  simp only [State.enlist]; split <;> rfl
@[simp] theorem enlist_scheduler_endReserve (s : State) (slot : Nat) :
    (s.enlist slot).scheduler.endReserve = s.scheduler.endReserve := by
  simp only [State.enlist]; split <;> rfl

/-! ### planRows -/

@[simp] theorem planRows_orderTable (s : State) :
    (s.planRows).orderTable = s.orderTable := by
  rfl
@[simp] theorem planRows_scheduler (s : State) :
    (s.planRows).scheduler = s.scheduler := by
  rfl
@[simp] theorem planRows_channel (s : State) :
    (s.planRows).channel = s.channel := by
  rfl
@[simp] theorem planRows_density (s : State) :
    (s.planRows).density = s.density := by
  rfl
@[simp] theorem planRows_web (s : State) :
    (s.planRows).web = s.web := by
  rfl
@[simp] theorem planRows_sort (s : State) :
    (s.planRows).sort = s.sort := by
  rfl
@[simp] theorem planRows_price (s : State) :
    (s.planRows).price = s.price := by
  rfl
@[simp] theorem planRows_links (s : State) :
    (s.planRows).links = s.links := by
  rfl
@[simp] theorem planRows_timeBase (s : State) :
    (s.planRows).timeBase = s.timeBase := by
  rfl
@[simp] theorem planRows_freeCount (s : State) :
    (s.planRows).freeCount = s.freeCount := by
  rfl
@[simp] theorem planRows_pending (s : State) :
    (s.planRows).pending = s.pending := by
  rfl
@[simp] theorem planRows_resampler_work (s : State) :
    (s.planRows).resampler.work = s.resampler.work := by
  simp only [State.planRows, Resampler.keepRows]; split; · rfl
  · split <;> rfl
@[simp] theorem planRows_resampler_gains (s : State) :
    (s.planRows).resampler.gains = s.resampler.gains := by
  simp only [State.planRows, Resampler.keepRows]; split; · rfl
  · split <;> rfl
@[simp] theorem planRows_fetch_lastFault (s : State) :
    (s.planRows).fetch.lastFault = s.fetch.lastFault := by
  simp only [State.planRows, RasterFetch.request]; split; · split <;> rfl
  · rfl
@[simp] theorem planRows_fetch_faultCount (s : State) :
    (s.planRows).fetch.faultCount = s.fetch.faultCount := by
  simp only [State.planRows, RasterFetch.request]; split; · split <;> rfl
  · rfl
@[simp] theorem planRows_fetch_frameSent (s : State) :
    (s.planRows).fetch.frameSent = s.fetch.frameSent := by
  simp only [State.planRows, RasterFetch.request]; split; · split <;> rfl
  · rfl
@[simp] theorem planRows_fetch_link (s : State) :
    (s.planRows).fetch.link = s.fetch.link := by
  simp only [State.planRows, RasterFetch.request]; split; · split <;> rfl
  · rfl

/-! ### takeWork -/

@[simp] theorem takeWork_orderTable (s : State) (job : Job) :
    (s.takeWork job).orderTable = s.orderTable := by
  simp [State.takeWork]
@[simp] theorem takeWork_scheduler (s : State) (job : Job) :
    (s.takeWork job).scheduler = s.scheduler := by
  simp [State.takeWork]
@[simp] theorem takeWork_channel (s : State) (job : Job) :
    (s.takeWork job).channel = s.channel := by
  simp [State.takeWork]
@[simp] theorem takeWork_density (s : State) (job : Job) :
    (s.takeWork job).density = s.density := by
  simp [State.takeWork]
@[simp] theorem takeWork_web (s : State) (job : Job) :
    (s.takeWork job).web = s.web := by
  simp [State.takeWork]
@[simp] theorem takeWork_sort (s : State) (job : Job) :
    (s.takeWork job).sort = s.sort := by
  simp [State.takeWork]
@[simp] theorem takeWork_price (s : State) (job : Job) :
    (s.takeWork job).price = s.price := by
  simp [State.takeWork]
@[simp] theorem takeWork_links (s : State) (job : Job) :
    (s.takeWork job).links = s.links := by
  simp [State.takeWork]
@[simp] theorem takeWork_timeBase (s : State) (job : Job) :
    (s.takeWork job).timeBase = s.timeBase := by
  simp [State.takeWork]
@[simp] theorem takeWork_freeCount (s : State) (job : Job) :
    (s.takeWork job).freeCount = s.freeCount := by
  simp [State.takeWork]
@[simp] theorem takeWork_pending (s : State) (job : Job) :
    (s.takeWork job).pending = s.pending := by
  simp [State.takeWork]
@[simp] theorem takeWork_resampler_gains (s : State) (job : Job) :
    (s.takeWork job).resampler.gains = s.resampler.gains := by
  simp [State.takeWork]
@[simp] theorem takeWork_fetch_lastFault (s : State) (job : Job) :
    (s.takeWork job).fetch.lastFault = s.fetch.lastFault := by
  simp [State.takeWork]
@[simp] theorem takeWork_fetch_faultCount (s : State) (job : Job) :
    (s.takeWork job).fetch.faultCount = s.fetch.faultCount := by
  simp [State.takeWork]
@[simp] theorem takeWork_fetch_frameSent (s : State) (job : Job) :
    (s.takeWork job).fetch.frameSent = s.fetch.frameSent := by
  simp [State.takeWork]
@[simp] theorem takeWork_fetch_link (s : State) (job : Job) :
    (s.takeWork job).fetch.link = s.fetch.link := by
  simp [State.takeWork]

/-! ### placeRow -/

@[simp] theorem placeRow_orderTable (s : State) (row : Row) :
    (s.placeRow row).orderTable = s.orderTable := by
  simp [State.placeRow, RasterFetch.abandon]
@[simp] theorem placeRow_scheduler (s : State) (row : Row) :
    (s.placeRow row).scheduler = s.scheduler := by
  simp [State.placeRow, RasterFetch.abandon]
@[simp] theorem placeRow_channel (s : State) (row : Row) :
    (s.placeRow row).channel = s.channel := by
  simp [State.placeRow, RasterFetch.abandon]
@[simp] theorem placeRow_density (s : State) (row : Row) :
    (s.placeRow row).density = s.density := by
  simp [State.placeRow, RasterFetch.abandon]
@[simp] theorem placeRow_web (s : State) (row : Row) :
    (s.placeRow row).web = s.web := by
  simp [State.placeRow, RasterFetch.abandon]
@[simp] theorem placeRow_sort (s : State) (row : Row) :
    (s.placeRow row).sort = s.sort := by
  simp [State.placeRow, RasterFetch.abandon]
@[simp] theorem placeRow_price (s : State) (row : Row) :
    (s.placeRow row).price = s.price := by
  simp [State.placeRow, RasterFetch.abandon]
@[simp] theorem placeRow_links (s : State) (row : Row) :
    (s.placeRow row).links = s.links := by
  simp [State.placeRow, RasterFetch.abandon]
@[simp] theorem placeRow_timeBase (s : State) (row : Row) :
    (s.placeRow row).timeBase = s.timeBase := by
  simp [State.placeRow, RasterFetch.abandon]
@[simp] theorem placeRow_freeCount (s : State) (row : Row) :
    (s.placeRow row).freeCount = s.freeCount := by
  simp [State.placeRow, RasterFetch.abandon]
@[simp] theorem placeRow_pending (s : State) (row : Row) :
    (s.placeRow row).pending = s.pending := by
  simp [State.placeRow, RasterFetch.abandon]
@[simp] theorem placeRow_fetch_lastFault (s : State) (row : Row) :
    (s.placeRow row).fetch.lastFault = s.fetch.lastFault := by
  simp [State.placeRow, RasterFetch.abandon]
@[simp] theorem placeRow_fetch_faultCount (s : State) (row : Row) :
    (s.placeRow row).fetch.faultCount = s.fetch.faultCount := by
  simp [State.placeRow, RasterFetch.abandon]
@[simp] theorem placeRow_fetch_frameSent (s : State) (row : Row) :
    (s.placeRow row).fetch.frameSent = s.fetch.frameSent := by
  simp [State.placeRow, RasterFetch.abandon]
@[simp] theorem placeRow_fetch_link (s : State) (row : Row) :
    (s.placeRow row).fetch.link = s.fetch.link := by
  simp [State.placeRow, RasterFetch.abandon]
@[simp] theorem placeRow_resampler_work (s : State) (row : Row) :
    (s.placeRow row).resampler.work = s.resampler.work := by
  simp only [State.placeRow]; split <;> simp
@[simp] theorem placeRow_resampler_gains (s : State) (row : Row) :
    (s.placeRow row).resampler.gains = s.resampler.gains := by
  simp only [State.placeRow]; split <;> simp

/-! ### voidSelection -/

@[simp] theorem voidSelection_orderTable (s : State) :
    (s.voidSelection).orderTable = s.orderTable := by
  unfold State.voidSelection; split <;> rfl
@[simp] theorem voidSelection_density (s : State) :
    (s.voidSelection).density = s.density := by
  unfold State.voidSelection; split <;> rfl
@[simp] theorem voidSelection_web (s : State) :
    (s.voidSelection).web = s.web := by
  unfold State.voidSelection; split <;> rfl
@[simp] theorem voidSelection_sort (s : State) :
    (s.voidSelection).sort = s.sort := by
  unfold State.voidSelection; split <;> rfl
@[simp] theorem voidSelection_price (s : State) :
    (s.voidSelection).price = s.price := by
  unfold State.voidSelection; split <;> rfl
@[simp] theorem voidSelection_links (s : State) :
    (s.voidSelection).links = s.links := by
  unfold State.voidSelection; split <;> rfl
@[simp] theorem voidSelection_timeBase (s : State) :
    (s.voidSelection).timeBase = s.timeBase := by
  unfold State.voidSelection; split <;> rfl
@[simp] theorem voidSelection_freeCount (s : State) :
    (s.voidSelection).freeCount = s.freeCount := by
  unfold State.voidSelection; split <;> rfl
@[simp] theorem voidSelection_pending (s : State) :
    (s.voidSelection).pending = s.pending := by
  unfold State.voidSelection; split <;> rfl
@[simp] theorem voidSelection_scheduler_express (s : State) :
    (s.voidSelection).scheduler.express = s.scheduler.express := by
  unfold State.voidSelection; split <;> rfl
@[simp] theorem voidSelection_scheduler_standard (s : State) :
    (s.voidSelection).scheduler.standard = s.scheduler.standard := by
  unfold State.voidSelection; split <;> rfl
@[simp] theorem voidSelection_scheduler_bulk (s : State) :
    (s.voidSelection).scheduler.bulk = s.scheduler.bulk := by
  unfold State.voidSelection; split <;> rfl
@[simp] theorem voidSelection_scheduler_patchCounter (s : State) :
    (s.voidSelection).scheduler.patchCounter = s.scheduler.patchCounter := by
  unfold State.voidSelection; split <;> rfl
@[simp] theorem voidSelection_scheduler_switchPatch (s : State) :
    (s.voidSelection).scheduler.switchPatch = s.scheduler.switchPatch := by
  unfold State.voidSelection; split <;> rfl
@[simp] theorem voidSelection_scheduler_resetPatch (s : State) :
    (s.voidSelection).scheduler.resetPatch = s.scheduler.resetPatch := by
  unfold State.voidSelection; split <;> rfl
@[simp] theorem voidSelection_scheduler_magA (s : State) :
    (s.voidSelection).scheduler.magA = s.scheduler.magA := by
  unfold State.voidSelection; split <;> rfl
@[simp] theorem voidSelection_scheduler_magB (s : State) :
    (s.voidSelection).scheduler.magB = s.scheduler.magB := by
  unfold State.voidSelection; split <;> rfl
@[simp] theorem voidSelection_scheduler_active (s : State) :
    (s.voidSelection).scheduler.active = s.scheduler.active := by
  unfold State.voidSelection; split <;> rfl
@[simp] theorem voidSelection_scheduler_switchRequested (s : State) :
    (s.voidSelection).scheduler.switchRequested = s.scheduler.switchRequested := by
  unfold State.voidSelection; split <;> rfl
@[simp] theorem voidSelection_scheduler_leaderPending (s : State) :
    (s.voidSelection).scheduler.leaderPending = s.scheduler.leaderPending := by
  unfold State.voidSelection; split <;> rfl
@[simp] theorem voidSelection_scheduler_leaderLength (s : State) :
    (s.voidSelection).scheduler.leaderLength = s.scheduler.leaderLength := by
  unfold State.voidSelection; split <;> rfl
@[simp] theorem voidSelection_scheduler_endReserve (s : State) :
    (s.voidSelection).scheduler.endReserve = s.scheduler.endReserve := by
  unfold State.voidSelection; split <;> rfl
@[simp] theorem voidSelection_channel_exposure (s : State) :
    (s.voidSelection).channel.exposure = s.channel.exposure := by
  unfold State.voidSelection; split <;> rfl
@[simp] theorem voidSelection_channel_enabled (s : State) :
    (s.voidSelection).channel.enabled = s.channel.enabled := by
  unfold State.voidSelection; split <;> rfl
@[simp] theorem voidSelection_channel_repeatTolerance (s : State) :
    (s.voidSelection).channel.repeatTolerance = s.channel.repeatTolerance := by
  unfold State.voidSelection; split <;> rfl
@[simp] theorem voidSelection_channel_lastStrobeEnded (s : State) :
    (s.voidSelection).channel.lastStrobeEnded = s.channel.lastStrobeEnded := by
  unfold State.voidSelection; split <;> rfl
@[simp] theorem voidSelection_channel_heads (s : State) :
    (s.voidSelection).channel.heads = s.channel.heads := by
  unfold State.voidSelection; split <;> rfl
@[simp] theorem voidSelection_resampler_gains (s : State) :
    (s.voidSelection).resampler.gains = s.resampler.gains := by
  unfold State.voidSelection; split; · simp only []; split <;> rfl
  · rfl
@[simp] theorem voidSelection_fetch_nextTag (s : State) :
    (s.voidSelection).fetch.nextTag = s.fetch.nextTag := by
  unfold State.voidSelection; split; · simp only []; split <;> rfl
  · rfl
@[simp] theorem voidSelection_fetch_lastFault (s : State) :
    (s.voidSelection).fetch.lastFault = s.fetch.lastFault := by
  unfold State.voidSelection; split; · simp only []; split <;> rfl
  · rfl
@[simp] theorem voidSelection_fetch_faultCount (s : State) :
    (s.voidSelection).fetch.faultCount = s.fetch.faultCount := by
  unfold State.voidSelection; split; · simp only []; split <;> rfl
  · rfl
@[simp] theorem voidSelection_fetch_frameSent (s : State) :
    (s.voidSelection).fetch.frameSent = s.fetch.frameSent := by
  unfold State.voidSelection; split; · simp only []; split <;> rfl
  · rfl
@[simp] theorem voidSelection_fetch_link (s : State) :
    (s.voidSelection).fetch.link = s.fetch.link := by
  unfold State.voidSelection; split; · simp only []; split <;> rfl
  · rfl

/-! ### voidSelectionOf -/

@[simp] theorem voidSelectionOf_orderTable (s : State) (slot : Nat) :
    (s.voidSelectionOf slot).orderTable = s.orderTable := by
  unfold State.voidSelectionOf; split <;> simp
@[simp] theorem voidSelectionOf_density (s : State) (slot : Nat) :
    (s.voidSelectionOf slot).density = s.density := by
  unfold State.voidSelectionOf; split <;> simp
@[simp] theorem voidSelectionOf_web (s : State) (slot : Nat) :
    (s.voidSelectionOf slot).web = s.web := by
  unfold State.voidSelectionOf; split <;> simp
@[simp] theorem voidSelectionOf_sort (s : State) (slot : Nat) :
    (s.voidSelectionOf slot).sort = s.sort := by
  unfold State.voidSelectionOf; split <;> simp
@[simp] theorem voidSelectionOf_price (s : State) (slot : Nat) :
    (s.voidSelectionOf slot).price = s.price := by
  unfold State.voidSelectionOf; split <;> simp
@[simp] theorem voidSelectionOf_links (s : State) (slot : Nat) :
    (s.voidSelectionOf slot).links = s.links := by
  unfold State.voidSelectionOf; split <;> simp
@[simp] theorem voidSelectionOf_timeBase (s : State) (slot : Nat) :
    (s.voidSelectionOf slot).timeBase = s.timeBase := by
  unfold State.voidSelectionOf; split <;> simp
@[simp] theorem voidSelectionOf_freeCount (s : State) (slot : Nat) :
    (s.voidSelectionOf slot).freeCount = s.freeCount := by
  unfold State.voidSelectionOf; split <;> simp
@[simp] theorem voidSelectionOf_pending (s : State) (slot : Nat) :
    (s.voidSelectionOf slot).pending = s.pending := by
  unfold State.voidSelectionOf; split <;> simp
@[simp] theorem voidSelectionOf_scheduler_express (s : State) (slot : Nat) :
    (s.voidSelectionOf slot).scheduler.express = s.scheduler.express := by
  unfold State.voidSelectionOf; split <;> simp
@[simp] theorem voidSelectionOf_scheduler_standard (s : State) (slot : Nat) :
    (s.voidSelectionOf slot).scheduler.standard = s.scheduler.standard := by
  unfold State.voidSelectionOf; split <;> simp
@[simp] theorem voidSelectionOf_scheduler_bulk (s : State) (slot : Nat) :
    (s.voidSelectionOf slot).scheduler.bulk = s.scheduler.bulk := by
  unfold State.voidSelectionOf; split <;> simp
@[simp] theorem voidSelectionOf_scheduler_patchCounter (s : State) (slot : Nat) :
    (s.voidSelectionOf slot).scheduler.patchCounter = s.scheduler.patchCounter := by
  unfold State.voidSelectionOf; split <;> simp
@[simp] theorem voidSelectionOf_scheduler_switchPatch (s : State) (slot : Nat) :
    (s.voidSelectionOf slot).scheduler.switchPatch = s.scheduler.switchPatch := by
  unfold State.voidSelectionOf; split <;> simp
@[simp] theorem voidSelectionOf_scheduler_resetPatch (s : State) (slot : Nat) :
    (s.voidSelectionOf slot).scheduler.resetPatch = s.scheduler.resetPatch := by
  unfold State.voidSelectionOf; split <;> simp
@[simp] theorem voidSelectionOf_scheduler_magA (s : State) (slot : Nat) :
    (s.voidSelectionOf slot).scheduler.magA = s.scheduler.magA := by
  unfold State.voidSelectionOf; split <;> simp
@[simp] theorem voidSelectionOf_scheduler_magB (s : State) (slot : Nat) :
    (s.voidSelectionOf slot).scheduler.magB = s.scheduler.magB := by
  unfold State.voidSelectionOf; split <;> simp
@[simp] theorem voidSelectionOf_scheduler_active (s : State) (slot : Nat) :
    (s.voidSelectionOf slot).scheduler.active = s.scheduler.active := by
  unfold State.voidSelectionOf; split <;> simp
@[simp] theorem voidSelectionOf_scheduler_switchRequested (s : State) (slot : Nat) :
    (s.voidSelectionOf slot).scheduler.switchRequested = s.scheduler.switchRequested := by
  unfold State.voidSelectionOf; split <;> simp
@[simp] theorem voidSelectionOf_scheduler_leaderPending (s : State) (slot : Nat) :
    (s.voidSelectionOf slot).scheduler.leaderPending = s.scheduler.leaderPending := by
  unfold State.voidSelectionOf; split <;> simp
@[simp] theorem voidSelectionOf_scheduler_leaderLength (s : State) (slot : Nat) :
    (s.voidSelectionOf slot).scheduler.leaderLength = s.scheduler.leaderLength := by
  unfold State.voidSelectionOf; split <;> simp
@[simp] theorem voidSelectionOf_scheduler_endReserve (s : State) (slot : Nat) :
    (s.voidSelectionOf slot).scheduler.endReserve = s.scheduler.endReserve := by
  unfold State.voidSelectionOf; split <;> simp
@[simp] theorem voidSelectionOf_resampler_gains (s : State) (slot : Nat) :
    (s.voidSelectionOf slot).resampler.gains = s.resampler.gains := by
  unfold State.voidSelectionOf; split <;> simp
@[simp] theorem voidSelectionOf_fetch_nextTag (s : State) (slot : Nat) :
    (s.voidSelectionOf slot).fetch.nextTag = s.fetch.nextTag := by
  unfold State.voidSelectionOf; split <;> simp
@[simp] theorem voidSelectionOf_fetch_lastFault (s : State) (slot : Nat) :
    (s.voidSelectionOf slot).fetch.lastFault = s.fetch.lastFault := by
  unfold State.voidSelectionOf; split <;> simp
@[simp] theorem voidSelectionOf_fetch_faultCount (s : State) (slot : Nat) :
    (s.voidSelectionOf slot).fetch.faultCount = s.fetch.faultCount := by
  unfold State.voidSelectionOf; split <;> simp
@[simp] theorem voidSelectionOf_fetch_frameSent (s : State) (slot : Nat) :
    (s.voidSelectionOf slot).fetch.frameSent = s.fetch.frameSent := by
  unfold State.voidSelectionOf; split <;> simp
@[simp] theorem voidSelectionOf_fetch_link (s : State) (slot : Nat) :
    (s.voidSelectionOf slot).fetch.link = s.fetch.link := by
  unfold State.voidSelectionOf; split <;> simp
@[simp] theorem voidSelectionOf_channel_exposure (s : State) (slot : Nat) :
    (s.voidSelectionOf slot).channel.exposure = s.channel.exposure := by
  unfold State.voidSelectionOf; split <;> simp
@[simp] theorem voidSelectionOf_channel_enabled (s : State) (slot : Nat) :
    (s.voidSelectionOf slot).channel.enabled = s.channel.enabled := by
  unfold State.voidSelectionOf; split <;> simp
@[simp] theorem voidSelectionOf_channel_repeatTolerance (s : State) (slot : Nat) :
    (s.voidSelectionOf slot).channel.repeatTolerance = s.channel.repeatTolerance := by
  unfold State.voidSelectionOf; split <;> simp
@[simp] theorem voidSelectionOf_channel_lastStrobeEnded (s : State) (slot : Nat) :
    (s.voidSelectionOf slot).channel.lastStrobeEnded = s.channel.lastStrobeEnded := by
  unfold State.voidSelectionOf; split <;> simp
@[simp] theorem voidSelectionOf_channel_heads (s : State) (slot : Nat) :
    (s.voidSelectionOf slot).channel.heads = s.channel.heads := by
  unfold State.voidSelectionOf; split <;> simp

/-! ### abortBegunWorkOf -/

@[simp] theorem abortBegunWorkOf_orderTable (s : State) (slot : Nat) :
    (s.abortBegunWorkOf slot).orderTable = s.orderTable := by
  unfold State.abortBegunWorkOf; split <;> (try split) <;> simp
@[simp] theorem abortBegunWorkOf_scheduler (s : State) (slot : Nat) :
    (s.abortBegunWorkOf slot).scheduler = s.scheduler := by
  unfold State.abortBegunWorkOf; split <;> (try split) <;> simp
@[simp] theorem abortBegunWorkOf_channel (s : State) (slot : Nat) :
    (s.abortBegunWorkOf slot).channel = s.channel := by
  unfold State.abortBegunWorkOf; split <;> (try split) <;> simp
@[simp] theorem abortBegunWorkOf_density (s : State) (slot : Nat) :
    (s.abortBegunWorkOf slot).density = s.density := by
  unfold State.abortBegunWorkOf; split <;> (try split) <;> simp
@[simp] theorem abortBegunWorkOf_web (s : State) (slot : Nat) :
    (s.abortBegunWorkOf slot).web = s.web := by
  unfold State.abortBegunWorkOf; split <;> (try split) <;> simp
@[simp] theorem abortBegunWorkOf_sort (s : State) (slot : Nat) :
    (s.abortBegunWorkOf slot).sort = s.sort := by
  unfold State.abortBegunWorkOf; split <;> (try split) <;> simp
@[simp] theorem abortBegunWorkOf_price (s : State) (slot : Nat) :
    (s.abortBegunWorkOf slot).price = s.price := by
  unfold State.abortBegunWorkOf; split <;> (try split) <;> simp
@[simp] theorem abortBegunWorkOf_links (s : State) (slot : Nat) :
    (s.abortBegunWorkOf slot).links = s.links := by
  unfold State.abortBegunWorkOf; split <;> (try split) <;> simp
@[simp] theorem abortBegunWorkOf_timeBase (s : State) (slot : Nat) :
    (s.abortBegunWorkOf slot).timeBase = s.timeBase := by
  unfold State.abortBegunWorkOf; split <;> (try split) <;> simp
@[simp] theorem abortBegunWorkOf_freeCount (s : State) (slot : Nat) :
    (s.abortBegunWorkOf slot).freeCount = s.freeCount := by
  unfold State.abortBegunWorkOf; split <;> (try split) <;> simp
@[simp] theorem abortBegunWorkOf_pending (s : State) (slot : Nat) :
    (s.abortBegunWorkOf slot).pending = s.pending := by
  unfold State.abortBegunWorkOf; split <;> (try split) <;> simp
@[simp] theorem abortBegunWorkOf_resampler_gains (s : State) (slot : Nat) :
    (s.abortBegunWorkOf slot).resampler.gains = s.resampler.gains := by
  unfold State.abortBegunWorkOf; split <;> (try split) <;> simp
@[simp] theorem abortBegunWorkOf_fetch_nextTag (s : State) (slot : Nat) :
    (s.abortBegunWorkOf slot).fetch.nextTag = s.fetch.nextTag := by
  unfold State.abortBegunWorkOf; split <;> (try split) <;> simp
@[simp] theorem abortBegunWorkOf_fetch_lastFault (s : State) (slot : Nat) :
    (s.abortBegunWorkOf slot).fetch.lastFault = s.fetch.lastFault := by
  unfold State.abortBegunWorkOf; split <;> (try split) <;> simp
@[simp] theorem abortBegunWorkOf_fetch_faultCount (s : State) (slot : Nat) :
    (s.abortBegunWorkOf slot).fetch.faultCount = s.fetch.faultCount := by
  unfold State.abortBegunWorkOf; split <;> (try split) <;> simp
@[simp] theorem abortBegunWorkOf_fetch_frameSent (s : State) (slot : Nat) :
    (s.abortBegunWorkOf slot).fetch.frameSent = s.fetch.frameSent := by
  unfold State.abortBegunWorkOf; split <;> (try split) <;> simp
@[simp] theorem abortBegunWorkOf_fetch_link (s : State) (slot : Nat) :
    (s.abortBegunWorkOf slot).fetch.link = s.fetch.link := by
  unfold State.abortBegunWorkOf; split <;> (try split) <;> simp

/-! ### abortTrailingWorkOf -/

@[simp] theorem abortTrailingWorkOf_orderTable (s : State) (slot : Nat) :
    (s.abortTrailingWorkOf slot).orderTable = s.orderTable := by
  unfold State.abortTrailingWorkOf; split <;> (try split) <;> simp
@[simp] theorem abortTrailingWorkOf_scheduler (s : State) (slot : Nat) :
    (s.abortTrailingWorkOf slot).scheduler = s.scheduler := by
  unfold State.abortTrailingWorkOf; split <;> (try split) <;> simp
@[simp] theorem abortTrailingWorkOf_channel (s : State) (slot : Nat) :
    (s.abortTrailingWorkOf slot).channel = s.channel := by
  unfold State.abortTrailingWorkOf; split <;> (try split) <;> simp
@[simp] theorem abortTrailingWorkOf_density (s : State) (slot : Nat) :
    (s.abortTrailingWorkOf slot).density = s.density := by
  unfold State.abortTrailingWorkOf; split <;> (try split) <;> simp
@[simp] theorem abortTrailingWorkOf_web (s : State) (slot : Nat) :
    (s.abortTrailingWorkOf slot).web = s.web := by
  unfold State.abortTrailingWorkOf; split <;> (try split) <;> simp
@[simp] theorem abortTrailingWorkOf_sort (s : State) (slot : Nat) :
    (s.abortTrailingWorkOf slot).sort = s.sort := by
  unfold State.abortTrailingWorkOf; split <;> (try split) <;> simp
@[simp] theorem abortTrailingWorkOf_price (s : State) (slot : Nat) :
    (s.abortTrailingWorkOf slot).price = s.price := by
  unfold State.abortTrailingWorkOf; split <;> (try split) <;> simp
@[simp] theorem abortTrailingWorkOf_links (s : State) (slot : Nat) :
    (s.abortTrailingWorkOf slot).links = s.links := by
  unfold State.abortTrailingWorkOf; split <;> (try split) <;> simp
@[simp] theorem abortTrailingWorkOf_timeBase (s : State) (slot : Nat) :
    (s.abortTrailingWorkOf slot).timeBase = s.timeBase := by
  unfold State.abortTrailingWorkOf; split <;> (try split) <;> simp
@[simp] theorem abortTrailingWorkOf_freeCount (s : State) (slot : Nat) :
    (s.abortTrailingWorkOf slot).freeCount = s.freeCount := by
  unfold State.abortTrailingWorkOf; split <;> (try split) <;> simp
@[simp] theorem abortTrailingWorkOf_pending (s : State) (slot : Nat) :
    (s.abortTrailingWorkOf slot).pending = s.pending := by
  unfold State.abortTrailingWorkOf; split <;> (try split) <;> simp
@[simp] theorem abortTrailingWorkOf_resampler_gains (s : State) (slot : Nat) :
    (s.abortTrailingWorkOf slot).resampler.gains = s.resampler.gains := by
  unfold State.abortTrailingWorkOf; split <;> (try split) <;> simp
@[simp] theorem abortTrailingWorkOf_fetch_nextTag (s : State) (slot : Nat) :
    (s.abortTrailingWorkOf slot).fetch.nextTag = s.fetch.nextTag := by
  unfold State.abortTrailingWorkOf; split <;> (try split) <;> simp
@[simp] theorem abortTrailingWorkOf_fetch_lastFault (s : State) (slot : Nat) :
    (s.abortTrailingWorkOf slot).fetch.lastFault = s.fetch.lastFault := by
  unfold State.abortTrailingWorkOf; split <;> (try split) <;> simp
@[simp] theorem abortTrailingWorkOf_fetch_faultCount (s : State) (slot : Nat) :
    (s.abortTrailingWorkOf slot).fetch.faultCount = s.fetch.faultCount := by
  unfold State.abortTrailingWorkOf; split <;> (try split) <;> simp
@[simp] theorem abortTrailingWorkOf_fetch_frameSent (s : State) (slot : Nat) :
    (s.abortTrailingWorkOf slot).fetch.frameSent = s.fetch.frameSent := by
  unfold State.abortTrailingWorkOf; split <;> (try split) <;> simp
@[simp] theorem abortTrailingWorkOf_fetch_link (s : State) (slot : Nat) :
    (s.abortTrailingWorkOf slot).fetch.link = s.fetch.link := by
  unfold State.abortTrailingWorkOf; split <;> (try split) <;> simp

/-! ### completeOrder -/

@[simp] theorem completeOrder_channel (s : State) (slot : Nat) :
    (s.completeOrder slot).channel = s.channel := by
  simp [State.completeOrder]
@[simp] theorem completeOrder_density (s : State) (slot : Nat) :
    (s.completeOrder slot).density = s.density := by
  simp [State.completeOrder]
@[simp] theorem completeOrder_web (s : State) (slot : Nat) :
    (s.completeOrder slot).web = s.web := by
  simp [State.completeOrder]
@[simp] theorem completeOrder_price (s : State) (slot : Nat) :
    (s.completeOrder slot).price = s.price := by
  simp [State.completeOrder]
@[simp] theorem completeOrder_links (s : State) (slot : Nat) :
    (s.completeOrder slot).links = s.links := by
  simp [State.completeOrder]
@[simp] theorem completeOrder_timeBase (s : State) (slot : Nat) :
    (s.completeOrder slot).timeBase = s.timeBase := by
  simp [State.completeOrder]
@[simp] theorem completeOrder_freeCount (s : State) (slot : Nat) :
    (s.completeOrder slot).freeCount = s.freeCount := by
  simp [State.completeOrder]
@[simp] theorem completeOrder_pending (s : State) (slot : Nat) :
    (s.completeOrder slot).pending = s.pending := by
  simp [State.completeOrder]
@[simp] theorem completeOrder_scheduler_selection (s : State) (slot : Nat) :
    (s.completeOrder slot).scheduler.selection = s.scheduler.selection := by
  simp [State.completeOrder]
@[simp] theorem completeOrder_scheduler_patchCounter (s : State) (slot : Nat) :
    (s.completeOrder slot).scheduler.patchCounter = s.scheduler.patchCounter := by
  simp [State.completeOrder]
@[simp] theorem completeOrder_scheduler_switchPatch (s : State) (slot : Nat) :
    (s.completeOrder slot).scheduler.switchPatch = s.scheduler.switchPatch := by
  simp [State.completeOrder]
@[simp] theorem completeOrder_scheduler_resetPatch (s : State) (slot : Nat) :
    (s.completeOrder slot).scheduler.resetPatch = s.scheduler.resetPatch := by
  simp [State.completeOrder]
@[simp] theorem completeOrder_scheduler_magA (s : State) (slot : Nat) :
    (s.completeOrder slot).scheduler.magA = s.scheduler.magA := by
  simp [State.completeOrder]
@[simp] theorem completeOrder_scheduler_magB (s : State) (slot : Nat) :
    (s.completeOrder slot).scheduler.magB = s.scheduler.magB := by
  simp [State.completeOrder]
@[simp] theorem completeOrder_scheduler_active (s : State) (slot : Nat) :
    (s.completeOrder slot).scheduler.active = s.scheduler.active := by
  simp [State.completeOrder]
@[simp] theorem completeOrder_scheduler_switchRequested (s : State) (slot : Nat) :
    (s.completeOrder slot).scheduler.switchRequested = s.scheduler.switchRequested := by
  simp [State.completeOrder]
@[simp] theorem completeOrder_scheduler_leaderPending (s : State) (slot : Nat) :
    (s.completeOrder slot).scheduler.leaderPending = s.scheduler.leaderPending := by
  simp [State.completeOrder]
@[simp] theorem completeOrder_scheduler_leaderLength (s : State) (slot : Nat) :
    (s.completeOrder slot).scheduler.leaderLength = s.scheduler.leaderLength := by
  simp [State.completeOrder]
@[simp] theorem completeOrder_scheduler_endReserve (s : State) (slot : Nat) :
    (s.completeOrder slot).scheduler.endReserve = s.scheduler.endReserve := by
  simp [State.completeOrder]
@[simp] theorem completeOrder_orderTable_items (s : State) (slot : Nat) :
    (s.completeOrder slot).orderTable.items = s.orderTable.items := by
  simp [State.completeOrder]
@[simp] theorem completeOrder_orderTable_nextTicket (s : State) (slot : Nat) :
    (s.completeOrder slot).orderTable.nextTicket = s.orderTable.nextTicket := by
  simp [State.completeOrder]
@[simp] theorem completeOrder_orderTable_sizes (s : State) (slot : Nat) :
    (s.completeOrder slot).orderTable.sizes = s.orderTable.sizes := by
  simp [State.completeOrder]
@[simp] theorem completeOrder_orderTable_windows (s : State) (slot : Nat) :
    (s.completeOrder slot).orderTable.windows = s.orderTable.windows := by
  simp [State.completeOrder]
@[simp] theorem completeOrder_orderTable_remakeLimit (s : State) (slot : Nat) :
    (s.completeOrder slot).orderTable.remakeLimit = s.orderTable.remakeLimit := by
  simp [State.completeOrder]
@[simp] theorem completeOrder_resampler_gains (s : State) (slot : Nat) :
    (s.completeOrder slot).resampler.gains = s.resampler.gains := by
  simp [State.completeOrder]
@[simp] theorem completeOrder_fetch_nextTag (s : State) (slot : Nat) :
    (s.completeOrder slot).fetch.nextTag = s.fetch.nextTag := by
  simp [State.completeOrder]
@[simp] theorem completeOrder_fetch_lastFault (s : State) (slot : Nat) :
    (s.completeOrder slot).fetch.lastFault = s.fetch.lastFault := by
  simp [State.completeOrder]
@[simp] theorem completeOrder_fetch_faultCount (s : State) (slot : Nat) :
    (s.completeOrder slot).fetch.faultCount = s.fetch.faultCount := by
  simp [State.completeOrder]
@[simp] theorem completeOrder_fetch_frameSent (s : State) (slot : Nat) :
    (s.completeOrder slot).fetch.frameSent = s.fetch.frameSent := by
  simp [State.completeOrder]
@[simp] theorem completeOrder_fetch_link (s : State) (slot : Nat) :
    (s.completeOrder slot).fetch.link = s.fetch.link := by
  simp [State.completeOrder]
@[simp] theorem completeOrder_sort_trayCount (s : State) (slot : Nat) :
    (s.completeOrder slot).sort.trayCount = s.sort.trayCount := by
  simp [State.completeOrder]
@[simp] theorem completeOrder_sort_rejectCount (s : State) (slot : Nat) :
    (s.completeOrder slot).sort.rejectCount = s.sort.rejectCount := by
  simp [State.completeOrder]
@[simp] theorem completeOrder_sort_uncollectedTime (s : State) (slot : Nat) :
    (s.completeOrder slot).sort.uncollectedTime = s.sort.uncollectedTime := by
  simp [State.completeOrder]

/-! ### drainOrder -/

@[simp] theorem drainOrder_scheduler (s : State) (slot : Nat) (o : Order) :
    (s.drainOrder slot o).scheduler = s.scheduler := by
  unfold State.drainOrder; split <;> (try split) <;> simp
@[simp] theorem drainOrder_resampler (s : State) (slot : Nat) (o : Order) :
    (s.drainOrder slot o).resampler = s.resampler := by
  unfold State.drainOrder; split <;> (try split) <;> simp
@[simp] theorem drainOrder_fetch (s : State) (slot : Nat) (o : Order) :
    (s.drainOrder slot o).fetch = s.fetch := by
  unfold State.drainOrder; split <;> (try split) <;> simp
@[simp] theorem drainOrder_channel (s : State) (slot : Nat) (o : Order) :
    (s.drainOrder slot o).channel = s.channel := by
  unfold State.drainOrder; split <;> (try split) <;> simp
@[simp] theorem drainOrder_density (s : State) (slot : Nat) (o : Order) :
    (s.drainOrder slot o).density = s.density := by
  unfold State.drainOrder; split <;> (try split) <;> simp
@[simp] theorem drainOrder_web (s : State) (slot : Nat) (o : Order) :
    (s.drainOrder slot o).web = s.web := by
  unfold State.drainOrder; split <;> (try split) <;> simp
@[simp] theorem drainOrder_sort (s : State) (slot : Nat) (o : Order) :
    (s.drainOrder slot o).sort = s.sort := by
  unfold State.drainOrder; split <;> (try split) <;> simp
@[simp] theorem drainOrder_price (s : State) (slot : Nat) (o : Order) :
    (s.drainOrder slot o).price = s.price := by
  unfold State.drainOrder; split <;> (try split) <;> simp
@[simp] theorem drainOrder_links (s : State) (slot : Nat) (o : Order) :
    (s.drainOrder slot o).links = s.links := by
  unfold State.drainOrder; split <;> (try split) <;> simp
@[simp] theorem drainOrder_timeBase (s : State) (slot : Nat) (o : Order) :
    (s.drainOrder slot o).timeBase = s.timeBase := by
  unfold State.drainOrder; split <;> (try split) <;> simp
@[simp] theorem drainOrder_freeCount (s : State) (slot : Nat) (o : Order) :
    (s.drainOrder slot o).freeCount = s.freeCount := by
  unfold State.drainOrder; split <;> (try split) <;> simp
@[simp] theorem drainOrder_pending (s : State) (slot : Nat) (o : Order) :
    (s.drainOrder slot o).pending = s.pending := by
  unfold State.drainOrder; split <;> (try split) <;> simp
@[simp] theorem drainOrder_orderTable_nextTicket (s : State) (slot : Nat) (o : Order) :
    (s.drainOrder slot o).orderTable.nextTicket = s.orderTable.nextTicket := by
  unfold State.drainOrder; split <;> (try split) <;> simp
@[simp] theorem drainOrder_orderTable_sizes (s : State) (slot : Nat) (o : Order) :
    (s.drainOrder slot o).orderTable.sizes = s.orderTable.sizes := by
  unfold State.drainOrder; split <;> (try split) <;> simp
@[simp] theorem drainOrder_orderTable_windows (s : State) (slot : Nat) (o : Order) :
    (s.drainOrder slot o).orderTable.windows = s.orderTable.windows := by
  unfold State.drainOrder; split <;> (try split) <;> simp
@[simp] theorem drainOrder_orderTable_remakeLimit (s : State) (slot : Nat) (o : Order) :
    (s.drainOrder slot o).orderTable.remakeLimit = s.orderTable.remakeLimit := by
  unfold State.drainOrder; split <;> (try split) <;> simp

/-! ### accountCheck -/

@[simp] theorem accountCheck_channel (s : State) (slot : Nat) :
    (s.accountCheck slot).channel = s.channel := by
  unfold State.accountCheck; split <;> (try split) <;> (try split) <;> simp
@[simp] theorem accountCheck_density (s : State) (slot : Nat) :
    (s.accountCheck slot).density = s.density := by
  unfold State.accountCheck; split <;> (try split) <;> (try split) <;> simp
@[simp] theorem accountCheck_web (s : State) (slot : Nat) :
    (s.accountCheck slot).web = s.web := by
  unfold State.accountCheck; split <;> (try split) <;> (try split) <;> simp
@[simp] theorem accountCheck_price (s : State) (slot : Nat) :
    (s.accountCheck slot).price = s.price := by
  unfold State.accountCheck; split <;> (try split) <;> (try split) <;> simp
@[simp] theorem accountCheck_links (s : State) (slot : Nat) :
    (s.accountCheck slot).links = s.links := by
  unfold State.accountCheck; split <;> (try split) <;> (try split) <;> simp
@[simp] theorem accountCheck_timeBase (s : State) (slot : Nat) :
    (s.accountCheck slot).timeBase = s.timeBase := by
  unfold State.accountCheck; split <;> (try split) <;> (try split) <;> simp
@[simp] theorem accountCheck_freeCount (s : State) (slot : Nat) :
    (s.accountCheck slot).freeCount = s.freeCount := by
  unfold State.accountCheck; split <;> (try split) <;> (try split) <;> simp
@[simp] theorem accountCheck_pending (s : State) (slot : Nat) :
    (s.accountCheck slot).pending = s.pending := by
  unfold State.accountCheck; split <;> (try split) <;> (try split) <;> simp
@[simp] theorem accountCheck_scheduler_selection (s : State) (slot : Nat) :
    (s.accountCheck slot).scheduler.selection = s.scheduler.selection := by
  unfold State.accountCheck; split <;> (try split) <;> (try split) <;> simp
@[simp] theorem accountCheck_scheduler_patchCounter (s : State) (slot : Nat) :
    (s.accountCheck slot).scheduler.patchCounter = s.scheduler.patchCounter := by
  unfold State.accountCheck; split <;> (try split) <;> (try split) <;> simp
@[simp] theorem accountCheck_scheduler_switchPatch (s : State) (slot : Nat) :
    (s.accountCheck slot).scheduler.switchPatch = s.scheduler.switchPatch := by
  unfold State.accountCheck; split <;> (try split) <;> (try split) <;> simp
@[simp] theorem accountCheck_scheduler_resetPatch (s : State) (slot : Nat) :
    (s.accountCheck slot).scheduler.resetPatch = s.scheduler.resetPatch := by
  unfold State.accountCheck; split <;> (try split) <;> (try split) <;> simp
@[simp] theorem accountCheck_scheduler_magA (s : State) (slot : Nat) :
    (s.accountCheck slot).scheduler.magA = s.scheduler.magA := by
  unfold State.accountCheck; split <;> (try split) <;> (try split) <;> simp
@[simp] theorem accountCheck_scheduler_magB (s : State) (slot : Nat) :
    (s.accountCheck slot).scheduler.magB = s.scheduler.magB := by
  unfold State.accountCheck; split <;> (try split) <;> (try split) <;> simp
@[simp] theorem accountCheck_scheduler_active (s : State) (slot : Nat) :
    (s.accountCheck slot).scheduler.active = s.scheduler.active := by
  unfold State.accountCheck; split <;> (try split) <;> (try split) <;> simp
@[simp] theorem accountCheck_scheduler_switchRequested (s : State) (slot : Nat) :
    (s.accountCheck slot).scheduler.switchRequested = s.scheduler.switchRequested := by
  unfold State.accountCheck; split <;> (try split) <;> (try split) <;> simp
@[simp] theorem accountCheck_scheduler_leaderPending (s : State) (slot : Nat) :
    (s.accountCheck slot).scheduler.leaderPending = s.scheduler.leaderPending := by
  unfold State.accountCheck; split <;> (try split) <;> (try split) <;> simp
@[simp] theorem accountCheck_scheduler_leaderLength (s : State) (slot : Nat) :
    (s.accountCheck slot).scheduler.leaderLength = s.scheduler.leaderLength := by
  unfold State.accountCheck; split <;> (try split) <;> (try split) <;> simp
@[simp] theorem accountCheck_scheduler_endReserve (s : State) (slot : Nat) :
    (s.accountCheck slot).scheduler.endReserve = s.scheduler.endReserve := by
  unfold State.accountCheck; split <;> (try split) <;> (try split) <;> simp
@[simp] theorem accountCheck_orderTable_nextTicket (s : State) (slot : Nat) :
    (s.accountCheck slot).orderTable.nextTicket = s.orderTable.nextTicket := by
  unfold State.accountCheck; split <;> (try split) <;> (try split) <;> simp
@[simp] theorem accountCheck_orderTable_sizes (s : State) (slot : Nat) :
    (s.accountCheck slot).orderTable.sizes = s.orderTable.sizes := by
  unfold State.accountCheck; split <;> (try split) <;> (try split) <;> simp
@[simp] theorem accountCheck_orderTable_windows (s : State) (slot : Nat) :
    (s.accountCheck slot).orderTable.windows = s.orderTable.windows := by
  unfold State.accountCheck; split <;> (try split) <;> (try split) <;> simp
@[simp] theorem accountCheck_orderTable_remakeLimit (s : State) (slot : Nat) :
    (s.accountCheck slot).orderTable.remakeLimit = s.orderTable.remakeLimit := by
  unfold State.accountCheck; split <;> (try split) <;> (try split) <;> simp
@[simp] theorem accountCheck_resampler_gains (s : State) (slot : Nat) :
    (s.accountCheck slot).resampler.gains = s.resampler.gains := by
  unfold State.accountCheck; split <;> (try split) <;> (try split) <;> simp
@[simp] theorem accountCheck_fetch_nextTag (s : State) (slot : Nat) :
    (s.accountCheck slot).fetch.nextTag = s.fetch.nextTag := by
  unfold State.accountCheck; split <;> (try split) <;> (try split) <;> simp
@[simp] theorem accountCheck_fetch_lastFault (s : State) (slot : Nat) :
    (s.accountCheck slot).fetch.lastFault = s.fetch.lastFault := by
  unfold State.accountCheck; split <;> (try split) <;> (try split) <;> simp
@[simp] theorem accountCheck_fetch_faultCount (s : State) (slot : Nat) :
    (s.accountCheck slot).fetch.faultCount = s.fetch.faultCount := by
  unfold State.accountCheck; split <;> (try split) <;> (try split) <;> simp
@[simp] theorem accountCheck_fetch_frameSent (s : State) (slot : Nat) :
    (s.accountCheck slot).fetch.frameSent = s.fetch.frameSent := by
  unfold State.accountCheck; split <;> (try split) <;> (try split) <;> simp
@[simp] theorem accountCheck_fetch_link (s : State) (slot : Nat) :
    (s.accountCheck slot).fetch.link = s.fetch.link := by
  unfold State.accountCheck; split <;> (try split) <;> (try split) <;> simp
@[simp] theorem accountCheck_sort_trayCount (s : State) (slot : Nat) :
    (s.accountCheck slot).sort.trayCount = s.sort.trayCount := by
  unfold State.accountCheck; split <;> (try split) <;> (try split) <;> simp
@[simp] theorem accountCheck_sort_rejectCount (s : State) (slot : Nat) :
    (s.accountCheck slot).sort.rejectCount = s.sort.rejectCount := by
  unfold State.accountCheck; split <;> (try split) <;> (try split) <;> simp
@[simp] theorem accountCheck_sort_uncollectedTime (s : State) (slot : Nat) :
    (s.accountCheck slot).sort.uncollectedTime = s.sort.uncollectedTime := by
  unfold State.accountCheck; split <;> (try split) <;> (try split) <;> simp

/-! ### withdraw -/

@[simp] theorem withdraw_density (s : State) (slot : Nat) (q : Requester) (b : Bool) :
    (s.withdraw slot q b).density = s.density := by
  simp [State.withdraw]
@[simp] theorem withdraw_web (s : State) (slot : Nat) (q : Requester) (b : Bool) :
    (s.withdraw slot q b).web = s.web := by
  simp [State.withdraw]
@[simp] theorem withdraw_price (s : State) (slot : Nat) (q : Requester) (b : Bool) :
    (s.withdraw slot q b).price = s.price := by
  simp [State.withdraw]
@[simp] theorem withdraw_links (s : State) (slot : Nat) (q : Requester) (b : Bool) :
    (s.withdraw slot q b).links = s.links := by
  simp [State.withdraw]
@[simp] theorem withdraw_timeBase (s : State) (slot : Nat) (q : Requester) (b : Bool) :
    (s.withdraw slot q b).timeBase = s.timeBase := by
  simp [State.withdraw]
@[simp] theorem withdraw_freeCount (s : State) (slot : Nat) (q : Requester) (b : Bool) :
    (s.withdraw slot q b).freeCount = s.freeCount := by
  simp [State.withdraw]
@[simp] theorem withdraw_pending (s : State) (slot : Nat) (q : Requester) (b : Bool) :
    (s.withdraw slot q b).pending = s.pending := by
  simp [State.withdraw]
@[simp] theorem withdraw_scheduler_patchCounter (s : State) (slot : Nat) (q : Requester) (b : Bool) :
    (s.withdraw slot q b).scheduler.patchCounter = s.scheduler.patchCounter := by
  simp [State.withdraw]
@[simp] theorem withdraw_scheduler_switchPatch (s : State) (slot : Nat) (q : Requester) (b : Bool) :
    (s.withdraw slot q b).scheduler.switchPatch = s.scheduler.switchPatch := by
  simp [State.withdraw]
@[simp] theorem withdraw_scheduler_resetPatch (s : State) (slot : Nat) (q : Requester) (b : Bool) :
    (s.withdraw slot q b).scheduler.resetPatch = s.scheduler.resetPatch := by
  simp [State.withdraw]
@[simp] theorem withdraw_scheduler_magA (s : State) (slot : Nat) (q : Requester) (b : Bool) :
    (s.withdraw slot q b).scheduler.magA = s.scheduler.magA := by
  simp [State.withdraw]
@[simp] theorem withdraw_scheduler_magB (s : State) (slot : Nat) (q : Requester) (b : Bool) :
    (s.withdraw slot q b).scheduler.magB = s.scheduler.magB := by
  simp [State.withdraw]
@[simp] theorem withdraw_scheduler_active (s : State) (slot : Nat) (q : Requester) (b : Bool) :
    (s.withdraw slot q b).scheduler.active = s.scheduler.active := by
  simp [State.withdraw]
@[simp] theorem withdraw_scheduler_switchRequested (s : State) (slot : Nat) (q : Requester) (b : Bool) :
    (s.withdraw slot q b).scheduler.switchRequested = s.scheduler.switchRequested := by
  simp [State.withdraw]
@[simp] theorem withdraw_scheduler_leaderPending (s : State) (slot : Nat) (q : Requester) (b : Bool) :
    (s.withdraw slot q b).scheduler.leaderPending = s.scheduler.leaderPending := by
  simp [State.withdraw]
@[simp] theorem withdraw_scheduler_leaderLength (s : State) (slot : Nat) (q : Requester) (b : Bool) :
    (s.withdraw slot q b).scheduler.leaderLength = s.scheduler.leaderLength := by
  simp [State.withdraw]
@[simp] theorem withdraw_scheduler_endReserve (s : State) (slot : Nat) (q : Requester) (b : Bool) :
    (s.withdraw slot q b).scheduler.endReserve = s.scheduler.endReserve := by
  simp [State.withdraw]
@[simp] theorem withdraw_resampler_gains (s : State) (slot : Nat) (q : Requester) (b : Bool) :
    (s.withdraw slot q b).resampler.gains = s.resampler.gains := by
  simp [State.withdraw]
@[simp] theorem withdraw_fetch_nextTag (s : State) (slot : Nat) (q : Requester) (b : Bool) :
    (s.withdraw slot q b).fetch.nextTag = s.fetch.nextTag := by
  simp [State.withdraw]
@[simp] theorem withdraw_fetch_lastFault (s : State) (slot : Nat) (q : Requester) (b : Bool) :
    (s.withdraw slot q b).fetch.lastFault = s.fetch.lastFault := by
  simp [State.withdraw]
@[simp] theorem withdraw_fetch_faultCount (s : State) (slot : Nat) (q : Requester) (b : Bool) :
    (s.withdraw slot q b).fetch.faultCount = s.fetch.faultCount := by
  simp [State.withdraw]
@[simp] theorem withdraw_fetch_frameSent (s : State) (slot : Nat) (q : Requester) (b : Bool) :
    (s.withdraw slot q b).fetch.frameSent = s.fetch.frameSent := by
  simp [State.withdraw]
@[simp] theorem withdraw_fetch_link (s : State) (slot : Nat) (q : Requester) (b : Bool) :
    (s.withdraw slot q b).fetch.link = s.fetch.link := by
  simp [State.withdraw]
@[simp] theorem withdraw_channel_enabled (s : State) (slot : Nat) (q : Requester) (b : Bool) :
    (s.withdraw slot q b).channel.enabled = s.channel.enabled := by
  simp [State.withdraw]
@[simp] theorem withdraw_channel_repeatTolerance (s : State) (slot : Nat) (q : Requester) (b : Bool) :
    (s.withdraw slot q b).channel.repeatTolerance = s.channel.repeatTolerance := by
  simp [State.withdraw]
@[simp] theorem withdraw_channel_lastStrobeEnded (s : State) (slot : Nat) (q : Requester) (b : Bool) :
    (s.withdraw slot q b).channel.lastStrobeEnded = s.channel.lastStrobeEnded := by
  simp [State.withdraw]
@[simp] theorem withdraw_channel_heads (s : State) (slot : Nat) (q : Requester) (b : Bool) :
    (s.withdraw slot q b).channel.heads = s.channel.heads := by
  simp [State.withdraw]
@[simp] theorem withdraw_sort_trayCount (s : State) (slot : Nat) (q : Requester) (b : Bool) :
    (s.withdraw slot q b).sort.trayCount = s.sort.trayCount := by
  simp [State.withdraw]
@[simp] theorem withdraw_sort_rejectCount (s : State) (slot : Nat) (q : Requester) (b : Bool) :
    (s.withdraw slot q b).sort.rejectCount = s.sort.rejectCount := by
  simp [State.withdraw]
@[simp] theorem withdraw_sort_uncollectedTime (s : State) (slot : Nat) (q : Requester) (b : Bool) :
    (s.withdraw slot q b).sort.uncollectedTime = s.sort.uncollectedTime := by
  simp [State.withdraw]
@[simp] theorem withdraw_orderTable_nextTicket (s : State) (slot : Nat) (q : Requester) (b : Bool) :
    (s.withdraw slot q b).orderTable.nextTicket = s.orderTable.nextTicket := by
  simp [State.withdraw, OrderTable.modifyItems]
@[simp] theorem withdraw_orderTable_sizes (s : State) (slot : Nat) (q : Requester) (b : Bool) :
    (s.withdraw slot q b).orderTable.sizes = s.orderTable.sizes := by
  simp [State.withdraw, OrderTable.modifyItems]
@[simp] theorem withdraw_orderTable_windows (s : State) (slot : Nat) (q : Requester) (b : Bool) :
    (s.withdraw slot q b).orderTable.windows = s.orderTable.windows := by
  simp [State.withdraw, OrderTable.modifyItems]
@[simp] theorem withdraw_orderTable_remakeLimit (s : State) (slot : Nat) (q : Requester) (b : Bool) :
    (s.withdraw slot q b).orderTable.remakeLimit = s.orderTable.remakeLimit := by
  simp [State.withdraw, OrderTable.modifyItems]

/-! ### disposeCopy -/

@[simp] theorem disposeCopy_channel (s : State) (slot n : Nat) (b : Bool) :
    ((s.disposeCopy slot n b).1).channel = s.channel := by
  simp [State.disposeCopy]
@[simp] theorem disposeCopy_density (s : State) (slot n : Nat) (b : Bool) :
    ((s.disposeCopy slot n b).1).density = s.density := by
  simp [State.disposeCopy]
@[simp] theorem disposeCopy_web (s : State) (slot n : Nat) (b : Bool) :
    ((s.disposeCopy slot n b).1).web = s.web := by
  simp [State.disposeCopy]
@[simp] theorem disposeCopy_links (s : State) (slot n : Nat) (b : Bool) :
    ((s.disposeCopy slot n b).1).links = s.links := by
  simp [State.disposeCopy]
@[simp] theorem disposeCopy_timeBase (s : State) (slot n : Nat) (b : Bool) :
    ((s.disposeCopy slot n b).1).timeBase = s.timeBase := by
  simp [State.disposeCopy]
@[simp] theorem disposeCopy_freeCount (s : State) (slot n : Nat) (b : Bool) :
    ((s.disposeCopy slot n b).1).freeCount = s.freeCount := by
  simp [State.disposeCopy]
@[simp] theorem disposeCopy_pending (s : State) (slot n : Nat) (b : Bool) :
    ((s.disposeCopy slot n b).1).pending = s.pending := by
  simp [State.disposeCopy]
@[simp] theorem disposeCopy_scheduler_selection (s : State) (slot n : Nat) (b : Bool) :
    ((s.disposeCopy slot n b).1).scheduler.selection = s.scheduler.selection := by
  simp [State.disposeCopy]
@[simp] theorem disposeCopy_scheduler_patchCounter (s : State) (slot n : Nat) (b : Bool) :
    ((s.disposeCopy slot n b).1).scheduler.patchCounter = s.scheduler.patchCounter := by
  simp [State.disposeCopy]
@[simp] theorem disposeCopy_scheduler_switchPatch (s : State) (slot n : Nat) (b : Bool) :
    ((s.disposeCopy slot n b).1).scheduler.switchPatch = s.scheduler.switchPatch := by
  simp [State.disposeCopy]
@[simp] theorem disposeCopy_scheduler_resetPatch (s : State) (slot n : Nat) (b : Bool) :
    ((s.disposeCopy slot n b).1).scheduler.resetPatch = s.scheduler.resetPatch := by
  simp [State.disposeCopy]
@[simp] theorem disposeCopy_scheduler_magA (s : State) (slot n : Nat) (b : Bool) :
    ((s.disposeCopy slot n b).1).scheduler.magA = s.scheduler.magA := by
  simp [State.disposeCopy]
@[simp] theorem disposeCopy_scheduler_magB (s : State) (slot n : Nat) (b : Bool) :
    ((s.disposeCopy slot n b).1).scheduler.magB = s.scheduler.magB := by
  simp [State.disposeCopy]
@[simp] theorem disposeCopy_scheduler_active (s : State) (slot n : Nat) (b : Bool) :
    ((s.disposeCopy slot n b).1).scheduler.active = s.scheduler.active := by
  simp [State.disposeCopy]
@[simp] theorem disposeCopy_scheduler_switchRequested (s : State) (slot n : Nat) (b : Bool) :
    ((s.disposeCopy slot n b).1).scheduler.switchRequested = s.scheduler.switchRequested := by
  simp [State.disposeCopy]
@[simp] theorem disposeCopy_scheduler_leaderPending (s : State) (slot n : Nat) (b : Bool) :
    ((s.disposeCopy slot n b).1).scheduler.leaderPending = s.scheduler.leaderPending := by
  simp [State.disposeCopy]
@[simp] theorem disposeCopy_scheduler_leaderLength (s : State) (slot n : Nat) (b : Bool) :
    ((s.disposeCopy slot n b).1).scheduler.leaderLength = s.scheduler.leaderLength := by
  simp [State.disposeCopy]
@[simp] theorem disposeCopy_scheduler_endReserve (s : State) (slot n : Nat) (b : Bool) :
    ((s.disposeCopy slot n b).1).scheduler.endReserve = s.scheduler.endReserve := by
  simp [State.disposeCopy]
@[simp] theorem disposeCopy_resampler_gains (s : State) (slot n : Nat) (b : Bool) :
    ((s.disposeCopy slot n b).1).resampler.gains = s.resampler.gains := by
  simp [State.disposeCopy]
@[simp] theorem disposeCopy_fetch_nextTag (s : State) (slot n : Nat) (b : Bool) :
    ((s.disposeCopy slot n b).1).fetch.nextTag = s.fetch.nextTag := by
  simp [State.disposeCopy]
@[simp] theorem disposeCopy_fetch_lastFault (s : State) (slot n : Nat) (b : Bool) :
    ((s.disposeCopy slot n b).1).fetch.lastFault = s.fetch.lastFault := by
  simp [State.disposeCopy]
@[simp] theorem disposeCopy_fetch_faultCount (s : State) (slot n : Nat) (b : Bool) :
    ((s.disposeCopy slot n b).1).fetch.faultCount = s.fetch.faultCount := by
  simp [State.disposeCopy]
@[simp] theorem disposeCopy_fetch_frameSent (s : State) (slot n : Nat) (b : Bool) :
    ((s.disposeCopy slot n b).1).fetch.frameSent = s.fetch.frameSent := by
  simp [State.disposeCopy]
@[simp] theorem disposeCopy_fetch_link (s : State) (slot n : Nat) (b : Bool) :
    ((s.disposeCopy slot n b).1).fetch.link = s.fetch.link := by
  simp [State.disposeCopy]
@[simp] theorem disposeCopy_sort_trayCount (s : State) (slot n : Nat) (b : Bool) :
    ((s.disposeCopy slot n b).1).sort.trayCount = s.sort.trayCount := by
  simp [State.disposeCopy]
@[simp] theorem disposeCopy_sort_rejectCount (s : State) (slot n : Nat) (b : Bool) :
    ((s.disposeCopy slot n b).1).sort.rejectCount = s.sort.rejectCount := by
  simp [State.disposeCopy]
@[simp] theorem disposeCopy_sort_uncollectedTime (s : State) (slot n : Nat) (b : Bool) :
    ((s.disposeCopy slot n b).1).sort.uncollectedTime = s.sort.uncollectedTime := by
  simp [State.disposeCopy]
@[simp] theorem disposeCopy_price_tariff (s : State) (slot n : Nat) (b : Bool) :
    ((s.disposeCopy slot n b).1).price.tariff = s.price.tariff := by
  simp [State.disposeCopy]
@[simp] theorem disposeCopy_price_surcharges (s : State) (slot n : Nat) (b : Bool) :
    ((s.disposeCopy slot n b).1).price.surcharges = s.price.surcharges := by
  simp [State.disposeCopy]
@[simp] theorem disposeCopy_price_lock (s : State) (slot n : Nat) (b : Bool) :
    ((s.disposeCopy slot n b).1).price.lock = s.price.lock := by
  simp [State.disposeCopy]
@[simp] theorem disposeCopy_price_amendment (s : State) (slot n : Nat) (b : Bool) :
    ((s.disposeCopy slot n b).1).price.amendment = s.price.amendment := by
  simp [State.disposeCopy]
@[simp] theorem disposeCopy_price_closedDay (s : State) (slot n : Nat) (b : Bool) :
    ((s.disposeCopy slot n b).1).price.closedDay = s.price.closedDay := by
  simp [State.disposeCopy]
@[simp] theorem disposeCopy_orderTable_nextTicket (s : State) (slot n : Nat) (b : Bool) :
    ((s.disposeCopy slot n b).1).orderTable.nextTicket = s.orderTable.nextTicket := by
  simp [State.disposeCopy, OrderTable.modifyItem]
@[simp] theorem disposeCopy_orderTable_sizes (s : State) (slot n : Nat) (b : Bool) :
    ((s.disposeCopy slot n b).1).orderTable.sizes = s.orderTable.sizes := by
  simp [State.disposeCopy, OrderTable.modifyItem]
@[simp] theorem disposeCopy_orderTable_windows (s : State) (slot n : Nat) (b : Bool) :
    ((s.disposeCopy slot n b).1).orderTable.windows = s.orderTable.windows := by
  simp [State.disposeCopy, OrderTable.modifyItem]
@[simp] theorem disposeCopy_orderTable_remakeLimit (s : State) (slot n : Nat) (b : Bool) :
    ((s.disposeCopy slot n b).1).orderTable.remakeLimit = s.orderTable.remakeLimit := by
  simp [State.disposeCopy, OrderTable.modifyItem]

/-! ### raiseWebFault -/

@[simp] theorem raiseWebFault_orderTable (s : State) (cause : WebFaultCause) :
    (s.raiseWebFault cause).orderTable = s.orderTable := by
  unfold State.raiseWebFault; split <;> simp
@[simp] theorem raiseWebFault_density (s : State) (cause : WebFaultCause) :
    (s.raiseWebFault cause).density = s.density := by
  unfold State.raiseWebFault; split <;> simp
@[simp] theorem raiseWebFault_sort (s : State) (cause : WebFaultCause) :
    (s.raiseWebFault cause).sort = s.sort := by
  unfold State.raiseWebFault; split <;> simp
@[simp] theorem raiseWebFault_price (s : State) (cause : WebFaultCause) :
    (s.raiseWebFault cause).price = s.price := by
  unfold State.raiseWebFault; split <;> simp
@[simp] theorem raiseWebFault_links (s : State) (cause : WebFaultCause) :
    (s.raiseWebFault cause).links = s.links := by
  unfold State.raiseWebFault; split <;> simp
@[simp] theorem raiseWebFault_timeBase (s : State) (cause : WebFaultCause) :
    (s.raiseWebFault cause).timeBase = s.timeBase := by
  unfold State.raiseWebFault; split <;> simp
@[simp] theorem raiseWebFault_freeCount (s : State) (cause : WebFaultCause) :
    (s.raiseWebFault cause).freeCount = s.freeCount := by
  unfold State.raiseWebFault; split <;> simp
@[simp] theorem raiseWebFault_pending (s : State) (cause : WebFaultCause) :
    (s.raiseWebFault cause).pending = s.pending := by
  unfold State.raiseWebFault; split <;> simp
@[simp] theorem raiseWebFault_scheduler_express (s : State) (cause : WebFaultCause) :
    (s.raiseWebFault cause).scheduler.express = s.scheduler.express := by
  unfold State.raiseWebFault; split <;> simp
@[simp] theorem raiseWebFault_scheduler_standard (s : State) (cause : WebFaultCause) :
    (s.raiseWebFault cause).scheduler.standard = s.scheduler.standard := by
  unfold State.raiseWebFault; split <;> simp
@[simp] theorem raiseWebFault_scheduler_bulk (s : State) (cause : WebFaultCause) :
    (s.raiseWebFault cause).scheduler.bulk = s.scheduler.bulk := by
  unfold State.raiseWebFault; split <;> simp
@[simp] theorem raiseWebFault_scheduler_patchCounter (s : State) (cause : WebFaultCause) :
    (s.raiseWebFault cause).scheduler.patchCounter = s.scheduler.patchCounter := by
  unfold State.raiseWebFault; split <;> simp
@[simp] theorem raiseWebFault_scheduler_switchPatch (s : State) (cause : WebFaultCause) :
    (s.raiseWebFault cause).scheduler.switchPatch = s.scheduler.switchPatch := by
  unfold State.raiseWebFault; split <;> simp
@[simp] theorem raiseWebFault_scheduler_resetPatch (s : State) (cause : WebFaultCause) :
    (s.raiseWebFault cause).scheduler.resetPatch = s.scheduler.resetPatch := by
  unfold State.raiseWebFault; split <;> simp
@[simp] theorem raiseWebFault_scheduler_magA (s : State) (cause : WebFaultCause) :
    (s.raiseWebFault cause).scheduler.magA = s.scheduler.magA := by
  unfold State.raiseWebFault; split <;> simp
@[simp] theorem raiseWebFault_scheduler_magB (s : State) (cause : WebFaultCause) :
    (s.raiseWebFault cause).scheduler.magB = s.scheduler.magB := by
  unfold State.raiseWebFault; split <;> simp
@[simp] theorem raiseWebFault_scheduler_active (s : State) (cause : WebFaultCause) :
    (s.raiseWebFault cause).scheduler.active = s.scheduler.active := by
  unfold State.raiseWebFault; split <;> simp
@[simp] theorem raiseWebFault_scheduler_switchRequested (s : State) (cause : WebFaultCause) :
    (s.raiseWebFault cause).scheduler.switchRequested = s.scheduler.switchRequested := by
  unfold State.raiseWebFault; split <;> simp
@[simp] theorem raiseWebFault_scheduler_leaderLength (s : State) (cause : WebFaultCause) :
    (s.raiseWebFault cause).scheduler.leaderLength = s.scheduler.leaderLength := by
  unfold State.raiseWebFault; split <;> simp
@[simp] theorem raiseWebFault_scheduler_endReserve (s : State) (cause : WebFaultCause) :
    (s.raiseWebFault cause).scheduler.endReserve = s.scheduler.endReserve := by
  unfold State.raiseWebFault; split <;> simp
@[simp] theorem raiseWebFault_resampler_gains (s : State) (cause : WebFaultCause) :
    (s.raiseWebFault cause).resampler.gains = s.resampler.gains := by
  unfold State.raiseWebFault; split <;> simp
@[simp] theorem raiseWebFault_fetch_nextTag (s : State) (cause : WebFaultCause) :
    (s.raiseWebFault cause).fetch.nextTag = s.fetch.nextTag := by
  unfold State.raiseWebFault; split <;> simp
@[simp] theorem raiseWebFault_fetch_lastFault (s : State) (cause : WebFaultCause) :
    (s.raiseWebFault cause).fetch.lastFault = s.fetch.lastFault := by
  unfold State.raiseWebFault; split <;> simp
@[simp] theorem raiseWebFault_fetch_faultCount (s : State) (cause : WebFaultCause) :
    (s.raiseWebFault cause).fetch.faultCount = s.fetch.faultCount := by
  unfold State.raiseWebFault; split <;> simp
@[simp] theorem raiseWebFault_fetch_frameSent (s : State) (cause : WebFaultCause) :
    (s.raiseWebFault cause).fetch.frameSent = s.fetch.frameSent := by
  unfold State.raiseWebFault; split <;> simp
@[simp] theorem raiseWebFault_fetch_link (s : State) (cause : WebFaultCause) :
    (s.raiseWebFault cause).fetch.link = s.fetch.link := by
  unfold State.raiseWebFault; split <;> simp
@[simp] theorem raiseWebFault_channel_enabled (s : State) (cause : WebFaultCause) :
    (s.raiseWebFault cause).channel.enabled = s.channel.enabled := by
  unfold State.raiseWebFault; split <;> simp
@[simp] theorem raiseWebFault_channel_repeatTolerance (s : State) (cause : WebFaultCause) :
    (s.raiseWebFault cause).channel.repeatTolerance = s.channel.repeatTolerance := by
  unfold State.raiseWebFault; split <;> simp
@[simp] theorem raiseWebFault_channel_lastStrobeEnded (s : State) (cause : WebFaultCause) :
    (s.raiseWebFault cause).channel.lastStrobeEnded = s.channel.lastStrobeEnded := by
  unfold State.raiseWebFault; split <;> simp
@[simp] theorem raiseWebFault_channel_heads (s : State) (cause : WebFaultCause) :
    (s.raiseWebFault cause).channel.heads = s.channel.heads := by
  unfold State.raiseWebFault; split <;> simp
@[simp] theorem raiseWebFault_web_odometer (s : State) (cause : WebFaultCause) :
    (s.raiseWebFault cause).web.odometer = s.web.odometer := by
  unfold State.raiseWebFault; split <;> simp
@[simp] theorem raiseWebFault_web_lpath (s : State) (cause : WebFaultCause) :
    (s.raiseWebFault cause).web.lpath = s.web.lpath := by
  unfold State.raiseWebFault; split <;> simp
@[simp] theorem raiseWebFault_web_transport (s : State) (cause : WebFaultCause) :
    (s.raiseWebFault cause).web.transport = s.web.transport := by
  unfold State.raiseWebFault; split <;> simp
@[simp] theorem raiseWebFault_web_stallTime (s : State) (cause : WebFaultCause) :
    (s.raiseWebFault cause).web.stallTime = s.web.stallTime := by
  unfold State.raiseWebFault; split <;> simp
@[simp] theorem raiseWebFault_web_stage (s : State) (cause : WebFaultCause) :
    (s.raiseWebFault cause).web.stage = s.web.stage := by
  unfold State.raiseWebFault; split <;> simp
@[simp] theorem raiseWebFault_web_stall (s : State) (cause : WebFaultCause) :
    (s.raiseWebFault cause).web.stall = s.web.stall := by
  unfold State.raiseWebFault; split <;> simp
@[simp] theorem raiseWebFault_web_unlisted (s : State) (cause : WebFaultCause) :
    (s.raiseWebFault cause).web.unlisted = s.web.unlisted := by
  unfold State.raiseWebFault; split <;> simp
@[simp] theorem raiseWebFault_web_cutsTaken (s : State) (cause : WebFaultCause) :
    (s.raiseWebFault cause).web.cutsTaken = s.web.cutsTaken := by
  unfold State.raiseWebFault; split <;> simp
@[simp] theorem raiseWebFault_web_lastCut (s : State) (cause : WebFaultCause) :
    (s.raiseWebFault cause).web.lastCut = s.web.lastCut := by
  unfold State.raiseWebFault; split <;> simp
@[simp] theorem raiseWebFault_web_leaderTarget (s : State) (cause : WebFaultCause) :
    (s.raiseWebFault cause).web.leaderTarget = s.web.leaderTarget := by
  unfold State.raiseWebFault; split <;> simp
@[simp] theorem raiseWebFault_web_mark (s : State) (cause : WebFaultCause) :
    (s.raiseWebFault cause).web.mark = s.web.mark := by
  unfold State.raiseWebFault; split <;> simp

/-! ### detectMissedCuts -/

@[simp] theorem detectMissedCuts_scheduler_express (s : State) :
    (s.detectMissedCuts).scheduler.express = s.scheduler.express := by
  simp only [State.detectMissedCuts]; split; · rfl
  · split <;> simp [State.raiseWebFault, *]
@[simp] theorem detectMissedCuts_scheduler_standard (s : State) :
    (s.detectMissedCuts).scheduler.standard = s.scheduler.standard := by
  simp only [State.detectMissedCuts]; split; · rfl
  · split <;> simp [State.raiseWebFault, *]
@[simp] theorem detectMissedCuts_scheduler_bulk (s : State) :
    (s.detectMissedCuts).scheduler.bulk = s.scheduler.bulk := by
  simp only [State.detectMissedCuts]; split; · rfl
  · split <;> simp [State.raiseWebFault, *]
@[simp] theorem detectMissedCuts_scheduler_patchCounter (s : State) :
    (s.detectMissedCuts).scheduler.patchCounter = s.scheduler.patchCounter := by
  simp only [State.detectMissedCuts]; split; · rfl
  · split <;> simp [State.raiseWebFault, *]
@[simp] theorem detectMissedCuts_scheduler_switchPatch (s : State) :
    (s.detectMissedCuts).scheduler.switchPatch = s.scheduler.switchPatch := by
  simp only [State.detectMissedCuts]; split; · rfl
  · split <;> simp [State.raiseWebFault, *]
@[simp] theorem detectMissedCuts_scheduler_resetPatch (s : State) :
    (s.detectMissedCuts).scheduler.resetPatch = s.scheduler.resetPatch := by
  simp only [State.detectMissedCuts]; split; · rfl
  · split <;> simp [State.raiseWebFault, *]
@[simp] theorem detectMissedCuts_scheduler_magA (s : State) :
    (s.detectMissedCuts).scheduler.magA = s.scheduler.magA := by
  simp only [State.detectMissedCuts]; split; · rfl
  · split <;> simp [State.raiseWebFault, *]
@[simp] theorem detectMissedCuts_scheduler_magB (s : State) :
    (s.detectMissedCuts).scheduler.magB = s.scheduler.magB := by
  simp only [State.detectMissedCuts]; split; · rfl
  · split <;> simp [State.raiseWebFault, *]
@[simp] theorem detectMissedCuts_scheduler_active (s : State) :
    (s.detectMissedCuts).scheduler.active = s.scheduler.active := by
  simp only [State.detectMissedCuts]; split; · rfl
  · split <;> simp [State.raiseWebFault, *]
@[simp] theorem detectMissedCuts_scheduler_switchRequested (s : State) :
    (s.detectMissedCuts).scheduler.switchRequested = s.scheduler.switchRequested := by
  simp only [State.detectMissedCuts]; split; · rfl
  · split <;> simp [State.raiseWebFault, *]
@[simp] theorem detectMissedCuts_scheduler_leaderLength (s : State) :
    (s.detectMissedCuts).scheduler.leaderLength = s.scheduler.leaderLength := by
  simp only [State.detectMissedCuts]; split; · rfl
  · split <;> simp [State.raiseWebFault, *]
@[simp] theorem detectMissedCuts_scheduler_endReserve (s : State) :
    (s.detectMissedCuts).scheduler.endReserve = s.scheduler.endReserve := by
  simp only [State.detectMissedCuts]; split; · rfl
  · split <;> simp [State.raiseWebFault, *]
@[simp] theorem detectMissedCuts_orderTable_orders (s : State) :
    (s.detectMissedCuts).orderTable.orders = s.orderTable.orders := by
  simp only [State.detectMissedCuts]; split; · rfl
  · split <;> simp [State.raiseWebFault, *]
@[simp] theorem detectMissedCuts_orderTable_items (s : State) :
    (s.detectMissedCuts).orderTable.items = s.orderTable.items := by
  simp only [State.detectMissedCuts]; split; · rfl
  · split <;> simp [State.raiseWebFault, *]
@[simp] theorem detectMissedCuts_orderTable_nextTicket (s : State) :
    (s.detectMissedCuts).orderTable.nextTicket = s.orderTable.nextTicket := by
  simp only [State.detectMissedCuts]; split; · rfl
  · split <;> simp [State.raiseWebFault, *]
@[simp] theorem detectMissedCuts_orderTable_sizes (s : State) :
    (s.detectMissedCuts).orderTable.sizes = s.orderTable.sizes := by
  simp only [State.detectMissedCuts]; split; · rfl
  · split <;> simp [State.raiseWebFault, *]
@[simp] theorem detectMissedCuts_orderTable_windows (s : State) :
    (s.detectMissedCuts).orderTable.windows = s.orderTable.windows := by
  simp only [State.detectMissedCuts]; split; · rfl
  · split <;> simp [State.raiseWebFault, *]
@[simp] theorem detectMissedCuts_orderTable_remakeLimit (s : State) :
    (s.detectMissedCuts).orderTable.remakeLimit = s.orderTable.remakeLimit := by
  simp only [State.detectMissedCuts]; split; · rfl
  · split <;> simp [State.raiseWebFault, *]
@[simp] theorem detectMissedCuts_resampler_gains (s : State) :
    (s.detectMissedCuts).resampler.gains = s.resampler.gains := by
  simp only [State.detectMissedCuts]; split; · rfl
  · split <;> simp [State.raiseWebFault, *]
@[simp] theorem detectMissedCuts_fetch_nextTag (s : State) :
    (s.detectMissedCuts).fetch.nextTag = s.fetch.nextTag := by
  simp only [State.detectMissedCuts]; split; · rfl
  · split <;> simp [State.raiseWebFault, *]
@[simp] theorem detectMissedCuts_fetch_lastFault (s : State) :
    (s.detectMissedCuts).fetch.lastFault = s.fetch.lastFault := by
  simp only [State.detectMissedCuts]; split; · rfl
  · split <;> simp [State.raiseWebFault, *]
@[simp] theorem detectMissedCuts_fetch_faultCount (s : State) :
    (s.detectMissedCuts).fetch.faultCount = s.fetch.faultCount := by
  simp only [State.detectMissedCuts]; split; · rfl
  · split <;> simp [State.raiseWebFault, *]
@[simp] theorem detectMissedCuts_fetch_frameSent (s : State) :
    (s.detectMissedCuts).fetch.frameSent = s.fetch.frameSent := by
  simp only [State.detectMissedCuts]; split; · rfl
  · split <;> simp [State.raiseWebFault, *]
@[simp] theorem detectMissedCuts_fetch_link (s : State) :
    (s.detectMissedCuts).fetch.link = s.fetch.link := by
  simp only [State.detectMissedCuts]; split; · rfl
  · split <;> simp [State.raiseWebFault, *]
@[simp] theorem detectMissedCuts_channel_enabled (s : State) :
    (s.detectMissedCuts).channel.enabled = s.channel.enabled := by
  simp only [State.detectMissedCuts]; split; · rfl
  · split <;> simp [State.raiseWebFault, *]
@[simp] theorem detectMissedCuts_channel_repeatTolerance (s : State) :
    (s.detectMissedCuts).channel.repeatTolerance = s.channel.repeatTolerance := by
  simp only [State.detectMissedCuts]; split; · rfl
  · split <;> simp [State.raiseWebFault, *]
@[simp] theorem detectMissedCuts_channel_lastStrobeEnded (s : State) :
    (s.detectMissedCuts).channel.lastStrobeEnded = s.channel.lastStrobeEnded := by
  simp only [State.detectMissedCuts]; split; · rfl
  · split <;> simp [State.raiseWebFault, *]
@[simp] theorem detectMissedCuts_channel_heads (s : State) :
    (s.detectMissedCuts).channel.heads = s.channel.heads := by
  simp only [State.detectMissedCuts]; split; · rfl
  · split <;> simp [State.raiseWebFault, *]
@[simp] theorem detectMissedCuts_density_offsets (s : State) :
    (s.detectMissedCuts).density.offsets = s.density.offsets := by
  simp only [State.detectMissedCuts]; split; · rfl
  · split <;> simp [State.raiseWebFault, *]
@[simp] theorem detectMissedCuts_density_targets (s : State) :
    (s.detectMissedCuts).density.targets = s.density.targets := by
  simp only [State.detectMissedCuts]; split; · rfl
  · split <;> simp [State.raiseWebFault, *]
@[simp] theorem detectMissedCuts_density_a (s : State) :
    (s.detectMissedCuts).density.a = s.density.a := by
  simp only [State.detectMissedCuts]; split; · rfl
  · split <;> simp [State.raiseWebFault, *]
@[simp] theorem detectMissedCuts_density_q (s : State) :
    (s.detectMissedCuts).density.q = s.density.q := by
  simp only [State.detectMissedCuts]; split; · rfl
  · split <;> simp [State.raiseWebFault, *]
@[simp] theorem detectMissedCuts_density_k (s : State) :
    (s.detectMissedCuts).density.k = s.density.k := by
  simp only [State.detectMissedCuts]; split; · rfl
  · split <;> simp [State.raiseWebFault, *]
@[simp] theorem detectMissedCuts_density_implausible (s : State) :
    (s.detectMissedCuts).density.implausible = s.density.implausible := by
  simp only [State.detectMissedCuts]; split; · rfl
  · split <;> simp [State.raiseWebFault, *]
@[simp] theorem detectMissedCuts_density_fault (s : State) :
    (s.detectMissedCuts).density.fault = s.density.fault := by
  simp only [State.detectMissedCuts]; split; · rfl
  · split <;> simp [State.raiseWebFault, *]
@[simp] theorem detectMissedCuts_density_patchUnread (s : State) :
    (s.detectMissedCuts).density.patchUnread = s.density.patchUnread := by
  simp only [State.detectMissedCuts]; split; · rfl
  · split <;> simp [State.raiseWebFault, *]
@[simp] theorem detectMissedCuts_density_lastReading (s : State) :
    (s.detectMissedCuts).density.lastReading = s.density.lastReading := by
  simp only [State.detectMissedCuts]; split; · rfl
  · split <;> simp [State.raiseWebFault, *]
@[simp] theorem detectMissedCuts_web_odometer (s : State) :
    (s.detectMissedCuts).web.odometer = s.web.odometer := by
  simp only [State.detectMissedCuts]; split; · rfl
  · split <;> simp [State.raiseWebFault, *]
@[simp] theorem detectMissedCuts_web_lpath (s : State) :
    (s.detectMissedCuts).web.lpath = s.web.lpath := by
  simp only [State.detectMissedCuts]; split; · rfl
  · split <;> simp [State.raiseWebFault, *]
@[simp] theorem detectMissedCuts_web_transport (s : State) :
    (s.detectMissedCuts).web.transport = s.web.transport := by
  simp only [State.detectMissedCuts]; split; · rfl
  · split <;> simp [State.raiseWebFault, *]
@[simp] theorem detectMissedCuts_web_stallTime (s : State) :
    (s.detectMissedCuts).web.stallTime = s.web.stallTime := by
  simp only [State.detectMissedCuts]; split; · rfl
  · split <;> simp [State.raiseWebFault, *]
@[simp] theorem detectMissedCuts_web_stage (s : State) :
    (s.detectMissedCuts).web.stage = s.web.stage := by
  simp only [State.detectMissedCuts]; split; · rfl
  · split <;> simp [State.raiseWebFault, *]
@[simp] theorem detectMissedCuts_web_stall (s : State) :
    (s.detectMissedCuts).web.stall = s.web.stall := by
  simp only [State.detectMissedCuts]; split; · rfl
  · split <;> simp [State.raiseWebFault, *]
@[simp] theorem detectMissedCuts_web_unlisted (s : State) :
    (s.detectMissedCuts).web.unlisted = s.web.unlisted := by
  simp only [State.detectMissedCuts]; split; · rfl
  · split <;> simp [State.raiseWebFault, *]
@[simp] theorem detectMissedCuts_web_cutsTaken (s : State) :
    (s.detectMissedCuts).web.cutsTaken = s.web.cutsTaken := by
  simp only [State.detectMissedCuts]; split; · rfl
  · split <;> simp [State.raiseWebFault, *]
@[simp] theorem detectMissedCuts_web_lastCut (s : State) :
    (s.detectMissedCuts).web.lastCut = s.web.lastCut := by
  simp only [State.detectMissedCuts]; split; · rfl
  · split <;> simp [State.raiseWebFault, *]
@[simp] theorem detectMissedCuts_web_leaderTarget (s : State) :
    (s.detectMissedCuts).web.leaderTarget = s.web.leaderTarget := by
  simp only [State.detectMissedCuts]; split; · rfl
  · split <;> simp [State.raiseWebFault, *]
@[simp] theorem detectMissedCuts_web_mark (s : State) :
    (s.detectMissedCuts).web.mark = s.web.mark := by
  simp only [State.detectMissedCuts]; split; · rfl
  · split <;> simp [State.raiseWebFault, *]
@[simp] theorem detectMissedCuts_sort_bins (s : State) :
    (s.detectMissedCuts).sort.bins = s.sort.bins := by
  simp only [State.detectMissedCuts]; split; · rfl
  · split <;> simp [State.raiseWebFault, *]
@[simp] theorem detectMissedCuts_sort_trayCount (s : State) :
    (s.detectMissedCuts).sort.trayCount = s.sort.trayCount := by
  simp only [State.detectMissedCuts]; split; · rfl
  · split <;> simp [State.raiseWebFault, *]
@[simp] theorem detectMissedCuts_sort_rejectCount (s : State) :
    (s.detectMissedCuts).sort.rejectCount = s.sort.rejectCount := by
  simp only [State.detectMissedCuts]; split; · rfl
  · split <;> simp [State.raiseWebFault, *]
@[simp] theorem detectMissedCuts_sort_uncollectedTime (s : State) :
    (s.detectMissedCuts).sort.uncollectedTime = s.sort.uncollectedTime := by
  simp only [State.detectMissedCuts]; split; · rfl
  · split <;> simp [State.raiseWebFault, *]
@[simp] theorem detectMissedCuts_price_tariff (s : State) :
    (s.detectMissedCuts).price.tariff = s.price.tariff := by
  simp only [State.detectMissedCuts]; split; · rfl
  · split <;> simp [State.raiseWebFault, *]
@[simp] theorem detectMissedCuts_price_surcharges (s : State) :
    (s.detectMissedCuts).price.surcharges = s.price.surcharges := by
  simp only [State.detectMissedCuts]; split; · rfl
  · split <;> simp [State.raiseWebFault, *]
@[simp] theorem detectMissedCuts_price_lock (s : State) :
    (s.detectMissedCuts).price.lock = s.price.lock := by
  simp only [State.detectMissedCuts]; split; · rfl
  · split <;> simp [State.raiseWebFault, *]
@[simp] theorem detectMissedCuts_price_amendment (s : State) :
    (s.detectMissedCuts).price.amendment = s.price.amendment := by
  simp only [State.detectMissedCuts]; split; · rfl
  · split <;> simp [State.raiseWebFault, *]
@[simp] theorem detectMissedCuts_price_totals (s : State) :
    (s.detectMissedCuts).price.totals = s.price.totals := by
  simp only [State.detectMissedCuts]; split; · rfl
  · split <;> simp [State.raiseWebFault, *]
@[simp] theorem detectMissedCuts_price_closedDay (s : State) :
    (s.detectMissedCuts).price.closedDay = s.price.closedDay := by
  simp only [State.detectMissedCuts]; split; · rfl
  · split <;> simp [State.raiseWebFault, *]

/-! ### chargePrint -/

@[simp] theorem chargePrint_scheduler (s : State) (slot n : Nat) :
    (s.chargePrint slot n).scheduler = s.scheduler := by
  unfold State.chargePrint; split <;> simp
@[simp] theorem chargePrint_resampler (s : State) (slot n : Nat) :
    (s.chargePrint slot n).resampler = s.resampler := by
  unfold State.chargePrint; split <;> simp
@[simp] theorem chargePrint_fetch (s : State) (slot n : Nat) :
    (s.chargePrint slot n).fetch = s.fetch := by
  unfold State.chargePrint; split <;> simp
@[simp] theorem chargePrint_channel (s : State) (slot n : Nat) :
    (s.chargePrint slot n).channel = s.channel := by
  unfold State.chargePrint; split <;> simp
@[simp] theorem chargePrint_density (s : State) (slot n : Nat) :
    (s.chargePrint slot n).density = s.density := by
  unfold State.chargePrint; split <;> simp
@[simp] theorem chargePrint_web (s : State) (slot n : Nat) :
    (s.chargePrint slot n).web = s.web := by
  unfold State.chargePrint; split <;> simp
@[simp] theorem chargePrint_sort (s : State) (slot n : Nat) :
    (s.chargePrint slot n).sort = s.sort := by
  unfold State.chargePrint; split <;> simp
@[simp] theorem chargePrint_links (s : State) (slot n : Nat) :
    (s.chargePrint slot n).links = s.links := by
  unfold State.chargePrint; split <;> simp
@[simp] theorem chargePrint_timeBase (s : State) (slot n : Nat) :
    (s.chargePrint slot n).timeBase = s.timeBase := by
  unfold State.chargePrint; split <;> simp
@[simp] theorem chargePrint_freeCount (s : State) (slot n : Nat) :
    (s.chargePrint slot n).freeCount = s.freeCount := by
  unfold State.chargePrint; split <;> simp
@[simp] theorem chargePrint_pending (s : State) (slot n : Nat) :
    (s.chargePrint slot n).pending = s.pending := by
  unfold State.chargePrint; split <;> simp
@[simp] theorem chargePrint_price_tariff (s : State) (slot n : Nat) :
    (s.chargePrint slot n).price.tariff = s.price.tariff := by
  unfold State.chargePrint; split <;> simp
@[simp] theorem chargePrint_price_surcharges (s : State) (slot n : Nat) :
    (s.chargePrint slot n).price.surcharges = s.price.surcharges := by
  unfold State.chargePrint; split <;> simp
@[simp] theorem chargePrint_price_lock (s : State) (slot n : Nat) :
    (s.chargePrint slot n).price.lock = s.price.lock := by
  unfold State.chargePrint; split <;> simp
@[simp] theorem chargePrint_price_amendment (s : State) (slot n : Nat) :
    (s.chargePrint slot n).price.amendment = s.price.amendment := by
  unfold State.chargePrint; split <;> simp
@[simp] theorem chargePrint_price_closedDay (s : State) (slot n : Nat) :
    (s.chargePrint slot n).price.closedDay = s.price.closedDay := by
  unfold State.chargePrint; split <;> simp
@[simp] theorem chargePrint_orderTable_nextTicket (s : State) (slot n : Nat) :
    (s.chargePrint slot n).orderTable.nextTicket = s.orderTable.nextTicket := by
  unfold State.chargePrint; split <;> rfl
@[simp] theorem chargePrint_orderTable_sizes (s : State) (slot n : Nat) :
    (s.chargePrint slot n).orderTable.sizes = s.orderTable.sizes := by
  unfold State.chargePrint; split <;> rfl
@[simp] theorem chargePrint_orderTable_windows (s : State) (slot n : Nat) :
    (s.chargePrint slot n).orderTable.windows = s.orderTable.windows := by
  unfold State.chargePrint; split <;> rfl
@[simp] theorem chargePrint_orderTable_remakeLimit (s : State) (slot n : Nat) :
    (s.chargePrint slot n).orderTable.remakeLimit = s.orderTable.remakeLimit := by
  unfold State.chargePrint; split <;> rfl

/-! ### placePrint -/

@[simp] theorem placePrint_scheduler (s : State) (slot : Nat) (o : Order) (g : PrintGroup) :
    ((s.placePrint slot o g).1).scheduler = s.scheduler := by
  unfold State.placePrint; split <;> (try split) <;> simp
@[simp] theorem placePrint_resampler (s : State) (slot : Nat) (o : Order) (g : PrintGroup) :
    ((s.placePrint slot o g).1).resampler = s.resampler := by
  unfold State.placePrint; split <;> (try split) <;> simp
@[simp] theorem placePrint_fetch (s : State) (slot : Nat) (o : Order) (g : PrintGroup) :
    ((s.placePrint slot o g).1).fetch = s.fetch := by
  unfold State.placePrint; split <;> (try split) <;> simp
@[simp] theorem placePrint_channel (s : State) (slot : Nat) (o : Order) (g : PrintGroup) :
    ((s.placePrint slot o g).1).channel = s.channel := by
  unfold State.placePrint; split <;> (try split) <;> simp
@[simp] theorem placePrint_density (s : State) (slot : Nat) (o : Order) (g : PrintGroup) :
    ((s.placePrint slot o g).1).density = s.density := by
  unfold State.placePrint; split <;> (try split) <;> simp
@[simp] theorem placePrint_web (s : State) (slot : Nat) (o : Order) (g : PrintGroup) :
    ((s.placePrint slot o g).1).web = s.web := by
  unfold State.placePrint; split <;> (try split) <;> simp
@[simp] theorem placePrint_price (s : State) (slot : Nat) (o : Order) (g : PrintGroup) :
    ((s.placePrint slot o g).1).price = s.price := by
  unfold State.placePrint; split <;> (try split) <;> simp
@[simp] theorem placePrint_links (s : State) (slot : Nat) (o : Order) (g : PrintGroup) :
    ((s.placePrint slot o g).1).links = s.links := by
  unfold State.placePrint; split <;> (try split) <;> simp
@[simp] theorem placePrint_timeBase (s : State) (slot : Nat) (o : Order) (g : PrintGroup) :
    ((s.placePrint slot o g).1).timeBase = s.timeBase := by
  unfold State.placePrint; split <;> (try split) <;> simp
@[simp] theorem placePrint_freeCount (s : State) (slot : Nat) (o : Order) (g : PrintGroup) :
    ((s.placePrint slot o g).1).freeCount = s.freeCount := by
  unfold State.placePrint; split <;> (try split) <;> simp
@[simp] theorem placePrint_pending (s : State) (slot : Nat) (o : Order) (g : PrintGroup) :
    ((s.placePrint slot o g).1).pending = s.pending := by
  unfold State.placePrint; split <;> (try split) <;> simp
@[simp] theorem placePrint_sort_rejectCount (s : State) (slot : Nat) (o : Order) (g : PrintGroup) :
    ((s.placePrint slot o g).1).sort.rejectCount = s.sort.rejectCount := by
  unfold State.placePrint; split <;> (try split) <;> simp
@[simp] theorem placePrint_sort_uncollectedTime (s : State) (slot : Nat) (o : Order) (g : PrintGroup) :
    ((s.placePrint slot o g).1).sort.uncollectedTime = s.sort.uncollectedTime := by
  unfold State.placePrint; split <;> (try split) <;> simp
@[simp] theorem placePrint_orderTable_items (s : State) (slot : Nat) (o : Order) (g : PrintGroup) :
    ((s.placePrint slot o g).1).orderTable.items = s.orderTable.items := by
  unfold State.placePrint; split; · rfl
  · split <;> rfl
@[simp] theorem placePrint_orderTable_nextTicket (s : State) (slot : Nat) (o : Order) (g : PrintGroup) :
    ((s.placePrint slot o g).1).orderTable.nextTicket = s.orderTable.nextTicket := by
  unfold State.placePrint; split; · rfl
  · split <;> rfl
@[simp] theorem placePrint_orderTable_sizes (s : State) (slot : Nat) (o : Order) (g : PrintGroup) :
    ((s.placePrint slot o g).1).orderTable.sizes = s.orderTable.sizes := by
  unfold State.placePrint; split; · rfl
  · split <;> rfl
@[simp] theorem placePrint_orderTable_windows (s : State) (slot : Nat) (o : Order) (g : PrintGroup) :
    ((s.placePrint slot o g).1).orderTable.windows = s.orderTable.windows := by
  unfold State.placePrint; split; · rfl
  · split <;> rfl
@[simp] theorem placePrint_orderTable_remakeLimit (s : State) (slot : Nat) (o : Order) (g : PrintGroup) :
    ((s.placePrint slot o g).1).orderTable.remakeLimit = s.orderTable.remakeLimit := by
  unfold State.placePrint; split; · rfl
  · split <;> rfl

/-! ### deliverPrint -/

@[simp] theorem deliverPrint_channel (s : State) (slot n : Nat) (o : Order) (e : SizeEntry) :
    ((s.deliverPrint slot n o e).1).channel = s.channel := by
  simp [State.deliverPrint]
@[simp] theorem deliverPrint_density (s : State) (slot n : Nat) (o : Order) (e : SizeEntry) :
    ((s.deliverPrint slot n o e).1).density = s.density := by
  simp [State.deliverPrint]
@[simp] theorem deliverPrint_web (s : State) (slot n : Nat) (o : Order) (e : SizeEntry) :
    ((s.deliverPrint slot n o e).1).web = s.web := by
  simp [State.deliverPrint]
@[simp] theorem deliverPrint_links (s : State) (slot n : Nat) (o : Order) (e : SizeEntry) :
    ((s.deliverPrint slot n o e).1).links = s.links := by
  simp [State.deliverPrint]
@[simp] theorem deliverPrint_timeBase (s : State) (slot n : Nat) (o : Order) (e : SizeEntry) :
    ((s.deliverPrint slot n o e).1).timeBase = s.timeBase := by
  simp [State.deliverPrint]
@[simp] theorem deliverPrint_freeCount (s : State) (slot n : Nat) (o : Order) (e : SizeEntry) :
    ((s.deliverPrint slot n o e).1).freeCount = s.freeCount := by
  simp [State.deliverPrint]
@[simp] theorem deliverPrint_pending (s : State) (slot n : Nat) (o : Order) (e : SizeEntry) :
    ((s.deliverPrint slot n o e).1).pending = s.pending := by
  simp [State.deliverPrint]
@[simp] theorem deliverPrint_scheduler_selection (s : State) (slot n : Nat) (o : Order) (e : SizeEntry) :
    ((s.deliverPrint slot n o e).1).scheduler.selection = s.scheduler.selection := by
  simp [State.deliverPrint]
@[simp] theorem deliverPrint_scheduler_patchCounter (s : State) (slot n : Nat) (o : Order) (e : SizeEntry) :
    ((s.deliverPrint slot n o e).1).scheduler.patchCounter = s.scheduler.patchCounter := by
  simp [State.deliverPrint]
@[simp] theorem deliverPrint_scheduler_switchPatch (s : State) (slot n : Nat) (o : Order) (e : SizeEntry) :
    ((s.deliverPrint slot n o e).1).scheduler.switchPatch = s.scheduler.switchPatch := by
  simp [State.deliverPrint]
@[simp] theorem deliverPrint_scheduler_resetPatch (s : State) (slot n : Nat) (o : Order) (e : SizeEntry) :
    ((s.deliverPrint slot n o e).1).scheduler.resetPatch = s.scheduler.resetPatch := by
  simp [State.deliverPrint]
@[simp] theorem deliverPrint_scheduler_magA (s : State) (slot n : Nat) (o : Order) (e : SizeEntry) :
    ((s.deliverPrint slot n o e).1).scheduler.magA = s.scheduler.magA := by
  simp [State.deliverPrint]
@[simp] theorem deliverPrint_scheduler_magB (s : State) (slot n : Nat) (o : Order) (e : SizeEntry) :
    ((s.deliverPrint slot n o e).1).scheduler.magB = s.scheduler.magB := by
  simp [State.deliverPrint]
@[simp] theorem deliverPrint_scheduler_active (s : State) (slot n : Nat) (o : Order) (e : SizeEntry) :
    ((s.deliverPrint slot n o e).1).scheduler.active = s.scheduler.active := by
  simp [State.deliverPrint]
@[simp] theorem deliverPrint_scheduler_switchRequested (s : State) (slot n : Nat) (o : Order) (e : SizeEntry) :
    ((s.deliverPrint slot n o e).1).scheduler.switchRequested = s.scheduler.switchRequested := by
  simp [State.deliverPrint]
@[simp] theorem deliverPrint_scheduler_leaderPending (s : State) (slot n : Nat) (o : Order) (e : SizeEntry) :
    ((s.deliverPrint slot n o e).1).scheduler.leaderPending = s.scheduler.leaderPending := by
  simp [State.deliverPrint]
@[simp] theorem deliverPrint_scheduler_leaderLength (s : State) (slot n : Nat) (o : Order) (e : SizeEntry) :
    ((s.deliverPrint slot n o e).1).scheduler.leaderLength = s.scheduler.leaderLength := by
  simp [State.deliverPrint]
@[simp] theorem deliverPrint_scheduler_endReserve (s : State) (slot n : Nat) (o : Order) (e : SizeEntry) :
    ((s.deliverPrint slot n o e).1).scheduler.endReserve = s.scheduler.endReserve := by
  simp [State.deliverPrint]
@[simp] theorem deliverPrint_resampler_gains (s : State) (slot n : Nat) (o : Order) (e : SizeEntry) :
    ((s.deliverPrint slot n o e).1).resampler.gains = s.resampler.gains := by
  simp [State.deliverPrint]
@[simp] theorem deliverPrint_fetch_nextTag (s : State) (slot n : Nat) (o : Order) (e : SizeEntry) :
    ((s.deliverPrint slot n o e).1).fetch.nextTag = s.fetch.nextTag := by
  simp [State.deliverPrint]
@[simp] theorem deliverPrint_fetch_lastFault (s : State) (slot n : Nat) (o : Order) (e : SizeEntry) :
    ((s.deliverPrint slot n o e).1).fetch.lastFault = s.fetch.lastFault := by
  simp [State.deliverPrint]
@[simp] theorem deliverPrint_fetch_faultCount (s : State) (slot n : Nat) (o : Order) (e : SizeEntry) :
    ((s.deliverPrint slot n o e).1).fetch.faultCount = s.fetch.faultCount := by
  simp [State.deliverPrint]
@[simp] theorem deliverPrint_fetch_frameSent (s : State) (slot n : Nat) (o : Order) (e : SizeEntry) :
    ((s.deliverPrint slot n o e).1).fetch.frameSent = s.fetch.frameSent := by
  simp [State.deliverPrint]
@[simp] theorem deliverPrint_fetch_link (s : State) (slot n : Nat) (o : Order) (e : SizeEntry) :
    ((s.deliverPrint slot n o e).1).fetch.link = s.fetch.link := by
  simp [State.deliverPrint]
@[simp] theorem deliverPrint_sort_rejectCount (s : State) (slot n : Nat) (o : Order) (e : SizeEntry) :
    ((s.deliverPrint slot n o e).1).sort.rejectCount = s.sort.rejectCount := by
  simp [State.deliverPrint]
@[simp] theorem deliverPrint_sort_uncollectedTime (s : State) (slot n : Nat) (o : Order) (e : SizeEntry) :
    ((s.deliverPrint slot n o e).1).sort.uncollectedTime = s.sort.uncollectedTime := by
  simp [State.deliverPrint]
@[simp] theorem deliverPrint_price_tariff (s : State) (slot n : Nat) (o : Order) (e : SizeEntry) :
    ((s.deliverPrint slot n o e).1).price.tariff = s.price.tariff := by
  simp [State.deliverPrint]
@[simp] theorem deliverPrint_price_surcharges (s : State) (slot n : Nat) (o : Order) (e : SizeEntry) :
    ((s.deliverPrint slot n o e).1).price.surcharges = s.price.surcharges := by
  simp [State.deliverPrint]
@[simp] theorem deliverPrint_price_lock (s : State) (slot n : Nat) (o : Order) (e : SizeEntry) :
    ((s.deliverPrint slot n o e).1).price.lock = s.price.lock := by
  simp [State.deliverPrint]
@[simp] theorem deliverPrint_price_amendment (s : State) (slot n : Nat) (o : Order) (e : SizeEntry) :
    ((s.deliverPrint slot n o e).1).price.amendment = s.price.amendment := by
  simp [State.deliverPrint]
@[simp] theorem deliverPrint_price_closedDay (s : State) (slot n : Nat) (o : Order) (e : SizeEntry) :
    ((s.deliverPrint slot n o e).1).price.closedDay = s.price.closedDay := by
  simp [State.deliverPrint]
@[simp] theorem deliverPrint_orderTable_nextTicket (s : State) (slot n : Nat) (o : Order) (e : SizeEntry) :
    ((s.deliverPrint slot n o e).1).orderTable.nextTicket = s.orderTable.nextTicket := by
  simp [State.deliverPrint, OrderTable.modifyItem]
@[simp] theorem deliverPrint_orderTable_sizes (s : State) (slot n : Nat) (o : Order) (e : SizeEntry) :
    ((s.deliverPrint slot n o e).1).orderTable.sizes = s.orderTable.sizes := by
  simp [State.deliverPrint, OrderTable.modifyItem]
@[simp] theorem deliverPrint_orderTable_windows (s : State) (slot n : Nat) (o : Order) (e : SizeEntry) :
    ((s.deliverPrint slot n o e).1).orderTable.windows = s.orderTable.windows := by
  simp [State.deliverPrint, OrderTable.modifyItem]
@[simp] theorem deliverPrint_orderTable_remakeLimit (s : State) (slot n : Nat) (o : Order) (e : SizeEntry) :
    ((s.deliverPrint slot n o e).1).orderTable.remakeLimit = s.orderTable.remakeLimit := by
  simp [State.deliverPrint, OrderTable.modifyItem]

/-! ### faultOrder -/

@[simp] theorem faultOrder_density (s : State) (slot n : Nat) :
    (s.faultOrder slot n).density = s.density := by
  unfold State.faultOrder; split <;> (try split) <;> simp
@[simp] theorem faultOrder_web (s : State) (slot n : Nat) :
    (s.faultOrder slot n).web = s.web := by
  unfold State.faultOrder; split <;> (try split) <;> simp
@[simp] theorem faultOrder_price (s : State) (slot n : Nat) :
    (s.faultOrder slot n).price = s.price := by
  unfold State.faultOrder; split <;> (try split) <;> simp
@[simp] theorem faultOrder_links (s : State) (slot n : Nat) :
    (s.faultOrder slot n).links = s.links := by
  unfold State.faultOrder; split <;> (try split) <;> simp
@[simp] theorem faultOrder_timeBase (s : State) (slot n : Nat) :
    (s.faultOrder slot n).timeBase = s.timeBase := by
  unfold State.faultOrder; split <;> (try split) <;> simp
@[simp] theorem faultOrder_freeCount (s : State) (slot n : Nat) :
    (s.faultOrder slot n).freeCount = s.freeCount := by
  unfold State.faultOrder; split <;> (try split) <;> simp
@[simp] theorem faultOrder_pending (s : State) (slot n : Nat) :
    (s.faultOrder slot n).pending = s.pending := by
  unfold State.faultOrder; split <;> (try split) <;> simp
@[simp] theorem faultOrder_scheduler_patchCounter (s : State) (slot n : Nat) :
    (s.faultOrder slot n).scheduler.patchCounter = s.scheduler.patchCounter := by
  unfold State.faultOrder; split <;> (try split) <;> simp
@[simp] theorem faultOrder_scheduler_switchPatch (s : State) (slot n : Nat) :
    (s.faultOrder slot n).scheduler.switchPatch = s.scheduler.switchPatch := by
  unfold State.faultOrder; split <;> (try split) <;> simp
@[simp] theorem faultOrder_scheduler_resetPatch (s : State) (slot n : Nat) :
    (s.faultOrder slot n).scheduler.resetPatch = s.scheduler.resetPatch := by
  unfold State.faultOrder; split <;> (try split) <;> simp
@[simp] theorem faultOrder_scheduler_magA (s : State) (slot n : Nat) :
    (s.faultOrder slot n).scheduler.magA = s.scheduler.magA := by
  unfold State.faultOrder; split <;> (try split) <;> simp
@[simp] theorem faultOrder_scheduler_magB (s : State) (slot n : Nat) :
    (s.faultOrder slot n).scheduler.magB = s.scheduler.magB := by
  unfold State.faultOrder; split <;> (try split) <;> simp
@[simp] theorem faultOrder_scheduler_active (s : State) (slot n : Nat) :
    (s.faultOrder slot n).scheduler.active = s.scheduler.active := by
  unfold State.faultOrder; split <;> (try split) <;> simp
@[simp] theorem faultOrder_scheduler_switchRequested (s : State) (slot n : Nat) :
    (s.faultOrder slot n).scheduler.switchRequested = s.scheduler.switchRequested := by
  unfold State.faultOrder; split <;> (try split) <;> simp
@[simp] theorem faultOrder_scheduler_leaderPending (s : State) (slot n : Nat) :
    (s.faultOrder slot n).scheduler.leaderPending = s.scheduler.leaderPending := by
  unfold State.faultOrder; split <;> (try split) <;> simp
@[simp] theorem faultOrder_scheduler_leaderLength (s : State) (slot n : Nat) :
    (s.faultOrder slot n).scheduler.leaderLength = s.scheduler.leaderLength := by
  unfold State.faultOrder; split <;> (try split) <;> simp
@[simp] theorem faultOrder_scheduler_endReserve (s : State) (slot n : Nat) :
    (s.faultOrder slot n).scheduler.endReserve = s.scheduler.endReserve := by
  unfold State.faultOrder; split <;> (try split) <;> simp
@[simp] theorem faultOrder_resampler_gains (s : State) (slot n : Nat) :
    (s.faultOrder slot n).resampler.gains = s.resampler.gains := by
  unfold State.faultOrder; split <;> (try split) <;> simp
@[simp] theorem faultOrder_fetch_nextTag (s : State) (slot n : Nat) :
    (s.faultOrder slot n).fetch.nextTag = s.fetch.nextTag := by
  unfold State.faultOrder; split <;> (try split) <;> simp
@[simp] theorem faultOrder_fetch_lastFault (s : State) (slot n : Nat) :
    (s.faultOrder slot n).fetch.lastFault = s.fetch.lastFault := by
  unfold State.faultOrder; split <;> (try split) <;> simp
@[simp] theorem faultOrder_fetch_faultCount (s : State) (slot n : Nat) :
    (s.faultOrder slot n).fetch.faultCount = s.fetch.faultCount := by
  unfold State.faultOrder; split <;> (try split) <;> simp
@[simp] theorem faultOrder_fetch_frameSent (s : State) (slot n : Nat) :
    (s.faultOrder slot n).fetch.frameSent = s.fetch.frameSent := by
  unfold State.faultOrder; split <;> (try split) <;> simp
@[simp] theorem faultOrder_fetch_link (s : State) (slot n : Nat) :
    (s.faultOrder slot n).fetch.link = s.fetch.link := by
  unfold State.faultOrder; split <;> (try split) <;> simp
@[simp] theorem faultOrder_channel_exposure (s : State) (slot n : Nat) :
    (s.faultOrder slot n).channel.exposure = s.channel.exposure := by
  unfold State.faultOrder; split <;> (try split) <;> simp
@[simp] theorem faultOrder_channel_enabled (s : State) (slot n : Nat) :
    (s.faultOrder slot n).channel.enabled = s.channel.enabled := by
  unfold State.faultOrder; split <;> (try split) <;> simp
@[simp] theorem faultOrder_channel_repeatTolerance (s : State) (slot n : Nat) :
    (s.faultOrder slot n).channel.repeatTolerance = s.channel.repeatTolerance := by
  unfold State.faultOrder; split <;> (try split) <;> simp
@[simp] theorem faultOrder_channel_lastStrobeEnded (s : State) (slot n : Nat) :
    (s.faultOrder slot n).channel.lastStrobeEnded = s.channel.lastStrobeEnded := by
  unfold State.faultOrder; split <;> (try split) <;> simp
@[simp] theorem faultOrder_channel_heads (s : State) (slot n : Nat) :
    (s.faultOrder slot n).channel.heads = s.channel.heads := by
  unfold State.faultOrder; split <;> (try split) <;> simp
@[simp] theorem faultOrder_sort_trayCount (s : State) (slot n : Nat) :
    (s.faultOrder slot n).sort.trayCount = s.sort.trayCount := by
  unfold State.faultOrder; split <;> (try split) <;> simp
@[simp] theorem faultOrder_sort_rejectCount (s : State) (slot n : Nat) :
    (s.faultOrder slot n).sort.rejectCount = s.sort.rejectCount := by
  unfold State.faultOrder; split <;> (try split) <;> simp
@[simp] theorem faultOrder_sort_uncollectedTime (s : State) (slot n : Nat) :
    (s.faultOrder slot n).sort.uncollectedTime = s.sort.uncollectedTime := by
  unfold State.faultOrder; split <;> (try split) <;> simp
@[simp] theorem faultOrder_orderTable_nextTicket (s : State) (slot n : Nat) :
    (s.faultOrder slot n).orderTable.nextTicket = s.orderTable.nextTicket := by
  unfold State.faultOrder; split <;> (try split) <;> simp [OrderTable.modifyOrder, OrderTable.modifyItem]
@[simp] theorem faultOrder_orderTable_sizes (s : State) (slot n : Nat) :
    (s.faultOrder slot n).orderTable.sizes = s.orderTable.sizes := by
  unfold State.faultOrder; split <;> (try split) <;> simp [OrderTable.modifyOrder, OrderTable.modifyItem]
@[simp] theorem faultOrder_orderTable_windows (s : State) (slot n : Nat) :
    (s.faultOrder slot n).orderTable.windows = s.orderTable.windows := by
  unfold State.faultOrder; split <;> (try split) <;> simp [OrderTable.modifyOrder, OrderTable.modifyItem]
@[simp] theorem faultOrder_orderTable_remakeLimit (s : State) (slot n : Nat) :
    (s.faultOrder slot n).orderTable.remakeLimit = s.orderTable.remakeLimit := by
  unfold State.faultOrder; split <;> (try split) <;> simp [OrderTable.modifyOrder, OrderTable.modifyItem]

/-! ### faultPrint -/

@[simp] theorem faultPrint_orderTable (s : State) (owner : WorkOwner) :
    (s.faultPrint owner).orderTable = s.orderTable := by
  unfold State.faultPrint; split <;> simp
@[simp] theorem faultPrint_density (s : State) (owner : WorkOwner) :
    (s.faultPrint owner).density = s.density := by
  unfold State.faultPrint; split <;> simp
@[simp] theorem faultPrint_sort (s : State) (owner : WorkOwner) :
    (s.faultPrint owner).sort = s.sort := by
  unfold State.faultPrint; split <;> simp
@[simp] theorem faultPrint_price (s : State) (owner : WorkOwner) :
    (s.faultPrint owner).price = s.price := by
  unfold State.faultPrint; split <;> simp
@[simp] theorem faultPrint_links (s : State) (owner : WorkOwner) :
    (s.faultPrint owner).links = s.links := by
  unfold State.faultPrint; split <;> simp
@[simp] theorem faultPrint_timeBase (s : State) (owner : WorkOwner) :
    (s.faultPrint owner).timeBase = s.timeBase := by
  unfold State.faultPrint; split <;> simp
@[simp] theorem faultPrint_freeCount (s : State) (owner : WorkOwner) :
    (s.faultPrint owner).freeCount = s.freeCount := by
  unfold State.faultPrint; split <;> simp
@[simp] theorem faultPrint_pending (s : State) (owner : WorkOwner) :
    (s.faultPrint owner).pending = s.pending := by
  unfold State.faultPrint; split <;> simp
@[simp] theorem faultPrint_scheduler_express (s : State) (owner : WorkOwner) :
    (s.faultPrint owner).scheduler.express = s.scheduler.express := by
  unfold State.faultPrint; split <;> simp
@[simp] theorem faultPrint_scheduler_standard (s : State) (owner : WorkOwner) :
    (s.faultPrint owner).scheduler.standard = s.scheduler.standard := by
  unfold State.faultPrint; split <;> simp
@[simp] theorem faultPrint_scheduler_bulk (s : State) (owner : WorkOwner) :
    (s.faultPrint owner).scheduler.bulk = s.scheduler.bulk := by
  unfold State.faultPrint; split <;> simp
@[simp] theorem faultPrint_scheduler_patchCounter (s : State) (owner : WorkOwner) :
    (s.faultPrint owner).scheduler.patchCounter = s.scheduler.patchCounter := by
  unfold State.faultPrint; split <;> simp
@[simp] theorem faultPrint_scheduler_switchPatch (s : State) (owner : WorkOwner) :
    (s.faultPrint owner).scheduler.switchPatch = s.scheduler.switchPatch := by
  unfold State.faultPrint; split <;> simp
@[simp] theorem faultPrint_scheduler_resetPatch (s : State) (owner : WorkOwner) :
    (s.faultPrint owner).scheduler.resetPatch = s.scheduler.resetPatch := by
  unfold State.faultPrint; split <;> simp
@[simp] theorem faultPrint_scheduler_magA (s : State) (owner : WorkOwner) :
    (s.faultPrint owner).scheduler.magA = s.scheduler.magA := by
  unfold State.faultPrint; split <;> simp
@[simp] theorem faultPrint_scheduler_magB (s : State) (owner : WorkOwner) :
    (s.faultPrint owner).scheduler.magB = s.scheduler.magB := by
  unfold State.faultPrint; split <;> simp
@[simp] theorem faultPrint_scheduler_active (s : State) (owner : WorkOwner) :
    (s.faultPrint owner).scheduler.active = s.scheduler.active := by
  unfold State.faultPrint; split <;> simp
@[simp] theorem faultPrint_scheduler_switchRequested (s : State) (owner : WorkOwner) :
    (s.faultPrint owner).scheduler.switchRequested = s.scheduler.switchRequested := by
  unfold State.faultPrint; split <;> simp
@[simp] theorem faultPrint_scheduler_leaderPending (s : State) (owner : WorkOwner) :
    (s.faultPrint owner).scheduler.leaderPending = s.scheduler.leaderPending := by
  unfold State.faultPrint; split <;> simp
@[simp] theorem faultPrint_scheduler_leaderLength (s : State) (owner : WorkOwner) :
    (s.faultPrint owner).scheduler.leaderLength = s.scheduler.leaderLength := by
  unfold State.faultPrint; split <;> simp
@[simp] theorem faultPrint_scheduler_endReserve (s : State) (owner : WorkOwner) :
    (s.faultPrint owner).scheduler.endReserve = s.scheduler.endReserve := by
  unfold State.faultPrint; split <;> simp
@[simp] theorem faultPrint_resampler_gains (s : State) (owner : WorkOwner) :
    (s.faultPrint owner).resampler.gains = s.resampler.gains := by
  unfold State.faultPrint; split <;> simp
@[simp] theorem faultPrint_fetch_nextTag (s : State) (owner : WorkOwner) :
    (s.faultPrint owner).fetch.nextTag = s.fetch.nextTag := by
  unfold State.faultPrint; split <;> simp
@[simp] theorem faultPrint_fetch_lastFault (s : State) (owner : WorkOwner) :
    (s.faultPrint owner).fetch.lastFault = s.fetch.lastFault := by
  unfold State.faultPrint; split <;> simp
@[simp] theorem faultPrint_fetch_faultCount (s : State) (owner : WorkOwner) :
    (s.faultPrint owner).fetch.faultCount = s.fetch.faultCount := by
  unfold State.faultPrint; split <;> simp
@[simp] theorem faultPrint_fetch_frameSent (s : State) (owner : WorkOwner) :
    (s.faultPrint owner).fetch.frameSent = s.fetch.frameSent := by
  unfold State.faultPrint; split <;> simp
@[simp] theorem faultPrint_fetch_link (s : State) (owner : WorkOwner) :
    (s.faultPrint owner).fetch.link = s.fetch.link := by
  unfold State.faultPrint; split <;> simp
@[simp] theorem faultPrint_channel_enabled (s : State) (owner : WorkOwner) :
    (s.faultPrint owner).channel.enabled = s.channel.enabled := by
  unfold State.faultPrint; split <;> simp [ChannelOutput.blank, ChannelOutput.drop, Web.suspectAt]
@[simp] theorem faultPrint_channel_repeatTolerance (s : State) (owner : WorkOwner) :
    (s.faultPrint owner).channel.repeatTolerance = s.channel.repeatTolerance := by
  unfold State.faultPrint; split <;> simp [ChannelOutput.blank, ChannelOutput.drop, Web.suspectAt]
@[simp] theorem faultPrint_channel_lastStrobeEnded (s : State) (owner : WorkOwner) :
    (s.faultPrint owner).channel.lastStrobeEnded = s.channel.lastStrobeEnded := by
  unfold State.faultPrint; split <;> simp [ChannelOutput.blank, ChannelOutput.drop, Web.suspectAt]
@[simp] theorem faultPrint_channel_heads (s : State) (owner : WorkOwner) :
    (s.faultPrint owner).channel.heads = s.channel.heads := by
  unfold State.faultPrint; split <;> simp [ChannelOutput.blank, ChannelOutput.drop, Web.suspectAt]
@[simp] theorem faultPrint_web_odometer (s : State) (owner : WorkOwner) :
    (s.faultPrint owner).web.odometer = s.web.odometer := by
  unfold State.faultPrint; split <;> simp [ChannelOutput.blank, ChannelOutput.drop, Web.suspectAt]
@[simp] theorem faultPrint_web_lpath (s : State) (owner : WorkOwner) :
    (s.faultPrint owner).web.lpath = s.web.lpath := by
  unfold State.faultPrint; split <;> simp [ChannelOutput.blank, ChannelOutput.drop, Web.suspectAt]
@[simp] theorem faultPrint_web_transport (s : State) (owner : WorkOwner) :
    (s.faultPrint owner).web.transport = s.web.transport := by
  unfold State.faultPrint; split <;> simp [ChannelOutput.blank, ChannelOutput.drop, Web.suspectAt]
@[simp] theorem faultPrint_web_stallTime (s : State) (owner : WorkOwner) :
    (s.faultPrint owner).web.stallTime = s.web.stallTime := by
  unfold State.faultPrint; split <;> simp [ChannelOutput.blank, ChannelOutput.drop, Web.suspectAt]
@[simp] theorem faultPrint_web_stage (s : State) (owner : WorkOwner) :
    (s.faultPrint owner).web.stage = s.web.stage := by
  unfold State.faultPrint; split <;> simp [ChannelOutput.blank, ChannelOutput.drop, Web.suspectAt]
@[simp] theorem faultPrint_web_stall (s : State) (owner : WorkOwner) :
    (s.faultPrint owner).web.stall = s.web.stall := by
  unfold State.faultPrint; split <;> simp [ChannelOutput.blank, ChannelOutput.drop, Web.suspectAt]
@[simp] theorem faultPrint_web_fault (s : State) (owner : WorkOwner) :
    (s.faultPrint owner).web.fault = s.web.fault := by
  unfold State.faultPrint; split <;> simp [ChannelOutput.blank, ChannelOutput.drop, Web.suspectAt]
@[simp] theorem faultPrint_web_unlisted (s : State) (owner : WorkOwner) :
    (s.faultPrint owner).web.unlisted = s.web.unlisted := by
  unfold State.faultPrint; split <;> simp [ChannelOutput.blank, ChannelOutput.drop, Web.suspectAt]
@[simp] theorem faultPrint_web_cutsTaken (s : State) (owner : WorkOwner) :
    (s.faultPrint owner).web.cutsTaken = s.web.cutsTaken := by
  unfold State.faultPrint; split <;> simp [ChannelOutput.blank, ChannelOutput.drop, Web.suspectAt]
@[simp] theorem faultPrint_web_lastCut (s : State) (owner : WorkOwner) :
    (s.faultPrint owner).web.lastCut = s.web.lastCut := by
  unfold State.faultPrint; split <;> simp [ChannelOutput.blank, ChannelOutput.drop, Web.suspectAt]
@[simp] theorem faultPrint_web_leaderTarget (s : State) (owner : WorkOwner) :
    (s.faultPrint owner).web.leaderTarget = s.web.leaderTarget := by
  unfold State.faultPrint; split <;> simp [ChannelOutput.blank, ChannelOutput.drop, Web.suspectAt]
@[simp] theorem faultPrint_web_mark (s : State) (owner : WorkOwner) :
    (s.faultPrint owner).web.mark = s.web.mark := by
  unfold State.faultPrint; split <;> simp [ChannelOutput.blank, ChannelOutput.drop, Web.suspectAt]

/-! ### rasterFault -/

@[simp] theorem rasterFault_density (s : State) (f : Fetch) (cause : FaultCause) :
    (s.rasterFault f cause).density = s.density := by
  unfold State.rasterFault; split <;> (try split) <;> simp
@[simp] theorem rasterFault_price (s : State) (f : Fetch) (cause : FaultCause) :
    (s.rasterFault f cause).price = s.price := by
  unfold State.rasterFault; split <;> (try split) <;> simp
@[simp] theorem rasterFault_links (s : State) (f : Fetch) (cause : FaultCause) :
    (s.rasterFault f cause).links = s.links := by
  unfold State.rasterFault; split <;> (try split) <;> simp
@[simp] theorem rasterFault_timeBase (s : State) (f : Fetch) (cause : FaultCause) :
    (s.rasterFault f cause).timeBase = s.timeBase := by
  unfold State.rasterFault; split <;> (try split) <;> simp
@[simp] theorem rasterFault_freeCount (s : State) (f : Fetch) (cause : FaultCause) :
    (s.rasterFault f cause).freeCount = s.freeCount := by
  unfold State.rasterFault; split <;> (try split) <;> simp
@[simp] theorem rasterFault_pending (s : State) (f : Fetch) (cause : FaultCause) :
    (s.rasterFault f cause).pending = s.pending := by
  unfold State.rasterFault; split <;> (try split) <;> simp
@[simp] theorem rasterFault_scheduler_patchCounter (s : State) (f : Fetch) (cause : FaultCause) :
    (s.rasterFault f cause).scheduler.patchCounter = s.scheduler.patchCounter := by
  unfold State.rasterFault; split <;> (try split) <;> simp
@[simp] theorem rasterFault_scheduler_switchPatch (s : State) (f : Fetch) (cause : FaultCause) :
    (s.rasterFault f cause).scheduler.switchPatch = s.scheduler.switchPatch := by
  unfold State.rasterFault; split <;> (try split) <;> simp
@[simp] theorem rasterFault_scheduler_resetPatch (s : State) (f : Fetch) (cause : FaultCause) :
    (s.rasterFault f cause).scheduler.resetPatch = s.scheduler.resetPatch := by
  unfold State.rasterFault; split <;> (try split) <;> simp
@[simp] theorem rasterFault_scheduler_magA (s : State) (f : Fetch) (cause : FaultCause) :
    (s.rasterFault f cause).scheduler.magA = s.scheduler.magA := by
  unfold State.rasterFault; split <;> (try split) <;> simp
@[simp] theorem rasterFault_scheduler_magB (s : State) (f : Fetch) (cause : FaultCause) :
    (s.rasterFault f cause).scheduler.magB = s.scheduler.magB := by
  unfold State.rasterFault; split <;> (try split) <;> simp
@[simp] theorem rasterFault_scheduler_active (s : State) (f : Fetch) (cause : FaultCause) :
    (s.rasterFault f cause).scheduler.active = s.scheduler.active := by
  unfold State.rasterFault; split <;> (try split) <;> simp
@[simp] theorem rasterFault_scheduler_switchRequested (s : State) (f : Fetch) (cause : FaultCause) :
    (s.rasterFault f cause).scheduler.switchRequested = s.scheduler.switchRequested := by
  unfold State.rasterFault; split <;> (try split) <;> simp
@[simp] theorem rasterFault_scheduler_leaderPending (s : State) (f : Fetch) (cause : FaultCause) :
    (s.rasterFault f cause).scheduler.leaderPending = s.scheduler.leaderPending := by
  unfold State.rasterFault; split <;> (try split) <;> simp
@[simp] theorem rasterFault_scheduler_leaderLength (s : State) (f : Fetch) (cause : FaultCause) :
    (s.rasterFault f cause).scheduler.leaderLength = s.scheduler.leaderLength := by
  unfold State.rasterFault; split <;> (try split) <;> simp
@[simp] theorem rasterFault_scheduler_endReserve (s : State) (f : Fetch) (cause : FaultCause) :
    (s.rasterFault f cause).scheduler.endReserve = s.scheduler.endReserve := by
  unfold State.rasterFault; split <;> (try split) <;> simp
@[simp] theorem rasterFault_orderTable_nextTicket (s : State) (f : Fetch) (cause : FaultCause) :
    (s.rasterFault f cause).orderTable.nextTicket = s.orderTable.nextTicket := by
  unfold State.rasterFault; split <;> (try split) <;> simp
@[simp] theorem rasterFault_orderTable_sizes (s : State) (f : Fetch) (cause : FaultCause) :
    (s.rasterFault f cause).orderTable.sizes = s.orderTable.sizes := by
  unfold State.rasterFault; split <;> (try split) <;> simp
@[simp] theorem rasterFault_orderTable_windows (s : State) (f : Fetch) (cause : FaultCause) :
    (s.rasterFault f cause).orderTable.windows = s.orderTable.windows := by
  unfold State.rasterFault; split <;> (try split) <;> simp
@[simp] theorem rasterFault_orderTable_remakeLimit (s : State) (f : Fetch) (cause : FaultCause) :
    (s.rasterFault f cause).orderTable.remakeLimit = s.orderTable.remakeLimit := by
  unfold State.rasterFault; split <;> (try split) <;> simp
@[simp] theorem rasterFault_resampler_gains (s : State) (f : Fetch) (cause : FaultCause) :
    (s.rasterFault f cause).resampler.gains = s.resampler.gains := by
  unfold State.rasterFault; split <;> (try split) <;> simp
@[simp] theorem rasterFault_channel_enabled (s : State) (f : Fetch) (cause : FaultCause) :
    (s.rasterFault f cause).channel.enabled = s.channel.enabled := by
  unfold State.rasterFault; split <;> (try split) <;> simp
@[simp] theorem rasterFault_channel_repeatTolerance (s : State) (f : Fetch) (cause : FaultCause) :
    (s.rasterFault f cause).channel.repeatTolerance = s.channel.repeatTolerance := by
  unfold State.rasterFault; split <;> (try split) <;> simp
@[simp] theorem rasterFault_channel_lastStrobeEnded (s : State) (f : Fetch) (cause : FaultCause) :
    (s.rasterFault f cause).channel.lastStrobeEnded = s.channel.lastStrobeEnded := by
  unfold State.rasterFault; split <;> (try split) <;> simp
@[simp] theorem rasterFault_channel_heads (s : State) (f : Fetch) (cause : FaultCause) :
    (s.rasterFault f cause).channel.heads = s.channel.heads := by
  unfold State.rasterFault; split <;> (try split) <;> simp
@[simp] theorem rasterFault_web_odometer (s : State) (f : Fetch) (cause : FaultCause) :
    (s.rasterFault f cause).web.odometer = s.web.odometer := by
  unfold State.rasterFault; split <;> (try split) <;> simp
@[simp] theorem rasterFault_web_lpath (s : State) (f : Fetch) (cause : FaultCause) :
    (s.rasterFault f cause).web.lpath = s.web.lpath := by
  unfold State.rasterFault; split <;> (try split) <;> simp
@[simp] theorem rasterFault_web_transport (s : State) (f : Fetch) (cause : FaultCause) :
    (s.rasterFault f cause).web.transport = s.web.transport := by
  unfold State.rasterFault; split <;> (try split) <;> simp
@[simp] theorem rasterFault_web_stallTime (s : State) (f : Fetch) (cause : FaultCause) :
    (s.rasterFault f cause).web.stallTime = s.web.stallTime := by
  unfold State.rasterFault; split <;> (try split) <;> simp
@[simp] theorem rasterFault_web_stage (s : State) (f : Fetch) (cause : FaultCause) :
    (s.rasterFault f cause).web.stage = s.web.stage := by
  unfold State.rasterFault; split <;> (try split) <;> simp
@[simp] theorem rasterFault_web_stall (s : State) (f : Fetch) (cause : FaultCause) :
    (s.rasterFault f cause).web.stall = s.web.stall := by
  unfold State.rasterFault; split <;> (try split) <;> simp
@[simp] theorem rasterFault_web_fault (s : State) (f : Fetch) (cause : FaultCause) :
    (s.rasterFault f cause).web.fault = s.web.fault := by
  unfold State.rasterFault; split <;> (try split) <;> simp
@[simp] theorem rasterFault_web_unlisted (s : State) (f : Fetch) (cause : FaultCause) :
    (s.rasterFault f cause).web.unlisted = s.web.unlisted := by
  unfold State.rasterFault; split <;> (try split) <;> simp
@[simp] theorem rasterFault_web_cutsTaken (s : State) (f : Fetch) (cause : FaultCause) :
    (s.rasterFault f cause).web.cutsTaken = s.web.cutsTaken := by
  unfold State.rasterFault; split <;> (try split) <;> simp
@[simp] theorem rasterFault_web_lastCut (s : State) (f : Fetch) (cause : FaultCause) :
    (s.rasterFault f cause).web.lastCut = s.web.lastCut := by
  unfold State.rasterFault; split <;> (try split) <;> simp
@[simp] theorem rasterFault_web_leaderTarget (s : State) (f : Fetch) (cause : FaultCause) :
    (s.rasterFault f cause).web.leaderTarget = s.web.leaderTarget := by
  unfold State.rasterFault; split <;> (try split) <;> simp
@[simp] theorem rasterFault_web_mark (s : State) (f : Fetch) (cause : FaultCause) :
    (s.rasterFault f cause).web.mark = s.web.mark := by
  unfold State.rasterFault; split <;> (try split) <;> simp
@[simp] theorem rasterFault_sort_trayCount (s : State) (f : Fetch) (cause : FaultCause) :
    (s.rasterFault f cause).sort.trayCount = s.sort.trayCount := by
  unfold State.rasterFault; split <;> (try split) <;> simp
@[simp] theorem rasterFault_sort_rejectCount (s : State) (f : Fetch) (cause : FaultCause) :
    (s.rasterFault f cause).sort.rejectCount = s.sort.rejectCount := by
  unfold State.rasterFault; split <;> (try split) <;> simp
@[simp] theorem rasterFault_sort_uncollectedTime (s : State) (f : Fetch) (cause : FaultCause) :
    (s.rasterFault f cause).sort.uncollectedTime = s.sort.uncollectedTime := by
  unfold State.rasterFault; split <;> (try split) <;> simp
@[simp] theorem rasterFault_fetch_nextTag (s : State) (f : Fetch) (cause : FaultCause) :
    (s.rasterFault f cause).fetch.nextTag = s.fetch.nextTag := by
  unfold State.rasterFault; split <;> (try split) <;> simp [RasterFetch.abandon]
@[simp] theorem rasterFault_fetch_frameSent (s : State) (f : Fetch) (cause : FaultCause) :
    (s.rasterFault f cause).fetch.frameSent = s.fetch.frameSent := by
  unfold State.rasterFault; split <;> (try split) <;> simp [RasterFetch.abandon]
@[simp] theorem rasterFault_fetch_link (s : State) (f : Fetch) (cause : FaultCause) :
    (s.rasterFault f cause).fetch.link = s.fetch.link := by
  unfold State.rasterFault; split <;> (try split) <;> simp [RasterFetch.abandon]

end Sys2Proof.Laws
end

