-- ==== Sys2Proof/Laws/Tables.lean ====
section
/-! SUPPORT. What the operations on tables answer: the read after each write, and the numbers a table lists. -/

namespace Sys2Proof.Laws

open Sys2Proof.Machine

variable {α : Type}

@[simp] theorem get?_nil (k : Nat) : Table.get? ([] : Table α) k = none := rfl

@[simp] theorem get?_cons (j k : Nat) (a : α) (rest : Table α) :
    Table.get? ((j, a) :: rest) k = if j = k then some a else Table.get? rest k := rfl

/-- A listed record stands in the table. -/
theorem mem_of_get? {t : Table α} {k : Nat} {a : α} (h : Table.get? t k = some a) : (k, a) ∈ t := by
  induction t with
  | nil => simp at h
  | cons p rest ih =>
    obtain ⟨j, b⟩ := p
    by_cases hj : j = k
    · subst hj; simp at h; simp [h]
    · simp [hj] at h; exact List.mem_cons_of_mem _ (ih h)

/-- A number is listed exactly when it is among the table's numbers. -/
theorem get?_isSome_iff {t : Table α} {k : Nat} : (Table.get? t k).isSome = true ↔ k ∈ t.map Prod.fst := by
  induction t with
  | nil => simp
  | cons p rest ih =>
    obtain ⟨j, b⟩ := p
    by_cases hj : j = k
    · simp [hj]
    · simp only [get?_cons, hj, if_false, ih, List.map_cons, List.mem_cons]
      constructor
      · exact Or.inr
      · rintro (h | h)
        · exact absurd h.symm hj
        · exact h

/-- The read of the record just written. -/
@[simp] theorem get?_put_self (t : Table α) (k : Nat) (a : α) : Table.get? (Table.put t k a) k = some a := by
  induction t with
  | nil => simp [Table.put]
  | cons p rest ih =>
    obtain ⟨j, b⟩ := p
    unfold Table.put
    split
    · simp
    · split
      · simp
      · next h => simp [Ne.symm h, ih]

/-- A write leaves every other record alone. -/
theorem get?_put_of_ne {t : Table α} {k j : Nat} {a : α} (h : j ≠ k) :
    Table.get? (Table.put t k a) j = Table.get? t j := by
  induction t with
  | nil => simp [Table.put, Ne.symm h]
  | cons p rest ih =>
    obtain ⟨i, b⟩ := p
    unfold Table.put
    split
    · simp [Ne.symm h]
    · split
      · next hk => subst hk; simp [Ne.symm h]
      · simp [ih]

/-- The read after a change of one record. -/
theorem get?_modify (t : Table α) (k j : Nat) (f : α → α) :
    Table.get? (Table.modify t k f) j = if j = k then (Table.get? t k).map f else Table.get? t j := by
  induction t with
  | nil => simp [Table.modify]
  | cons p rest ih =>
    obtain ⟨i, b⟩ := p
    have hc : Table.modify ((i, b) :: rest) k f = (if i = k then (i, f b) else (i, b)) :: Table.modify rest k f := rfl
    rw [hc]
    by_cases hik : i = k
    · subst hik
      by_cases hj : j = i
      · simp [hj]
      · have hi : i ≠ j := fun e => hj e.symm
        simp [hj, hi, ih]
    · by_cases hj : j = k
      · subst hj; simp [hik, ih]
      · simp [hik, hj, ih]

@[simp] theorem get?_modify_self (t : Table α) (k : Nat) (f : α → α) :
    Table.get? (Table.modify t k f) k = (Table.get? t k).map f := by simp [get?_modify]

theorem get?_modify_of_ne {t : Table α} {k j : Nat} {f : α → α} (h : j ≠ k) :
    Table.get? (Table.modify t k f) j = Table.get? t j := by simp [get?_modify, h]

/-- The read after a change of several records. -/
theorem get?_modifyAll (t : Table α) (ks : List Nat) (j : Nat) (f : α → α) :
    Table.get? (Table.modifyAll t ks f) j = if j ∈ ks then (Table.get? t j).map f else Table.get? t j := by
  induction t with
  | nil => simp [Table.modifyAll]
  | cons p rest ih =>
    obtain ⟨i, b⟩ := p
    have hc : Table.modifyAll ((i, b) :: rest) ks f =
        (if ks.contains i = true then (i, f b) else (i, b)) :: Table.modifyAll rest ks f := rfl
    rw [hc]
    by_cases hi : i ∈ ks <;> by_cases hj : i = j
    · subst hj; simp [hi]
    · simp [hi, hj, ih]
    · subst hj; simp [hi]
    · simp [hi, hj, ih]

/-- A freed number is listed no more. -/
@[simp] theorem get?_erase_self (t : Table α) (k : Nat) : Table.get? (Table.erase t k) k = none := by
  induction t with
  | nil => rfl
  | cons p rest ih =>
    obtain ⟨i, b⟩ := p
    by_cases hi : i = k
    · subst hi; simpa [Table.erase] using ih
    · have hc : Table.erase ((i, b) :: rest) k = (i, b) :: Table.erase rest k := by simp [Table.erase, hi]
      simp [hc, hi, ih]

/-- Freeing a number leaves every other record alone. -/
theorem get?_erase_of_ne {t : Table α} {k j : Nat} (h : j ≠ k) :
    Table.get? (Table.erase t k) j = Table.get? t j := by
  induction t with
  | nil => rfl
  | cons p rest ih =>
    obtain ⟨i, b⟩ := p
    by_cases hi : i = k
    · subst hi
      have hc : Table.erase ((i, b) :: rest) i = Table.erase rest i := by simp [Table.erase]
      simp [hc, Ne.symm h, ih]
    · have hc : Table.erase ((i, b) :: rest) k = (i, b) :: Table.erase rest k := by simp [Table.erase, hi]
      simp [hc, ih]

/-- Changing records changes no number. -/
@[simp] theorem keys_modify (t : Table α) (k : Nat) (f : α → α) :
    (Table.modify t k f).map Prod.fst = t.map Prod.fst := by
  induction t with
  | nil => rfl
  | cons p rest ih =>
    have hc : Table.modify (p :: rest) k f = (if p.1 = k then (p.1, f p.2) else p) :: Table.modify rest k f := rfl
    rw [hc, List.map_cons, ih, List.map_cons]
    split <;> rfl

@[simp] theorem keys_modifyAll (t : Table α) (ks : List Nat) (f : α → α) :
    (Table.modifyAll t ks f).map Prod.fst = t.map Prod.fst := by
  induction t with
  | nil => rfl
  | cons p rest ih =>
    have hc : Table.modifyAll (p :: rest) ks f =
        (if ks.contains p.1 = true then (p.1, f p.2) else p) :: Table.modifyAll rest ks f := rfl
    rw [hc, List.map_cons, ih, List.map_cons]
    split <;> rfl

/-- What stands in a table after a change of one record was changed there or stood in it before. -/
theorem mem_modify {t : Table α} {k : Nat} {f : α → α} {p : Nat × α} (h : p ∈ Table.modify t k f) :
    (p ∈ t ∧ p.1 ≠ k) ∨ ∃ a, (k, a) ∈ t ∧ p = (k, f a) := by
  unfold Table.modify at h
  obtain ⟨q, hq, rfl⟩ := List.mem_map.1 h
  by_cases hk : q.1 = k
  · right; refine ⟨q.2, ?_, by simp [hk]⟩
    rw [← hk]; exact hq
  · left; simp [hk, hq]

theorem mem_modifyAll {t : Table α} {ks : List Nat} {f : α → α} {p : Nat × α} (h : p ∈ Table.modifyAll t ks f) :
    (p ∈ t ∧ p.1 ∉ ks) ∨ ∃ a, (p.1, a) ∈ t ∧ p.1 ∈ ks ∧ p.2 = f a := by
  unfold Table.modifyAll at h
  obtain ⟨q, hq, rfl⟩ := List.mem_map.1 h
  by_cases hk : q.1 ∈ ks
  · right; refine ⟨q.2, ?_, ?_, ?_⟩ <;> simp [hk, hq]
  · left; simp [hk, hq]

/-- What stands in a table after a write was written or stood in it before. -/
theorem mem_put {t : Table α} {k : Nat} {a : α} {p : Nat × α} (h : p ∈ Table.put t k a) : p = (k, a) ∨ p ∈ t := by
  induction t with
  | nil => simp [Table.put] at h; exact Or.inl h
  | cons q rest ih =>
    obtain ⟨j, b⟩ := q
    unfold Table.put at h
    split at h
    · rcases List.mem_cons.1 h with h | h
      · exact Or.inl h
      · exact Or.inr h
    · split at h
      · rcases List.mem_cons.1 h with h | h
        · exact Or.inl h
        · exact Or.inr (List.mem_cons_of_mem _ h)
      · rcases List.mem_cons.1 h with h | h
        · exact Or.inr (h ▸ List.mem_cons_self)
        · rcases ih h with h | h
          · exact Or.inl h
          · exact Or.inr (List.mem_cons_of_mem _ h)

/-- What stands in a table after a number was freed stood in it before, under another number. -/
theorem mem_erase {t : Table α} {k : Nat} {p : Nat × α} (h : p ∈ Table.erase t k) : p ∈ t ∧ p.1 ≠ k := by
  unfold Table.erase at h
  simpa using List.mem_filter.1 h

/-- A write keeps the numbers in rising order. -/
theorem keys_put_rising {t : Table α} {k : Nat} {a : α} (h : (t.map Prod.fst).Pairwise (· < ·)) :
    ((Table.put t k a).map Prod.fst).Pairwise (· < ·) := by
  induction t with
  | nil => simp [Table.put]
  | cons q rest ih =>
    obtain ⟨j, b⟩ := q
    simp only [List.map_cons, List.pairwise_cons] at h
    unfold Table.put
    split
    · next hk =>
      simp only [List.map_cons, List.pairwise_cons]
      refine ⟨fun x hx => ?_, h⟩
      rcases List.mem_cons.1 hx with rfl | hx
      · exact hk
      · exact Nat.lt_trans hk (h.1 x hx)
    · split
      · next hk => subst hk; simpa using h
      · next h1 h2 =>
        simp only [List.map_cons, List.pairwise_cons]
        refine ⟨fun x hx => ?_, ih h.2⟩
        obtain ⟨p, hp, rfl⟩ := List.mem_map.1 hx
        rcases mem_put hp with rfl | hp
        · simp only; omega
        · exact h.1 _ (List.mem_map_of_mem hp)

/-- Freeing a number keeps the numbers in rising order. -/
theorem keys_erase_rising {t : Table α} {k : Nat} (h : (t.map Prod.fst).Pairwise (· < ·)) :
    ((Table.erase t k).map Prod.fst).Pairwise (· < ·) :=
  h.sublist ((List.filter_sublist (l := t)).map Prod.fst)

/-- The lowest free number is below the limit, not listed, and every number below it is listed. -/
theorem lowestFree_spec {t : Table α} {limit k : Nat} (h : Table.lowestFree t limit = some k) :
    k < limit ∧ Table.get? t k = none ∧ ∀ j, j < k → (Table.get? t j).isSome = true := by
  unfold Table.lowestFree at h
  rw [List.find?_eq_some_iff_append] at h
  obtain ⟨hk, as, bs, hl, hall⟩ := h
  have hlen : as.length < limit := by
    have := congrArg List.length hl; simp at this; omega
  have hget : ∀ i, i < limit → (List.range limit)[i]? = some i := fun i hi => by simp [hi]
  have hkk : k = as.length := by
    have h1 := hget as.length hlen
    rw [hl] at h1; simpa using h1
  refine ⟨hkk ▸ hlen, by simpa using hk, fun j hj => ?_⟩
  have h2 := hget j (by omega)
  rw [hl, List.getElem?_append_left (by omega)] at h2
  have hmem : j ∈ as := List.mem_of_getElem? h2
  have := hall j hmem
  cases hq : Table.get? t j with
  | none => simp [hq] at this
  | some a => rfl

end Sys2Proof.Laws
end

