-- ==== Sys2Proof/Laws/Links.lean ====
section
/-! SUPPORT. The link ports: what reading and setting a port answers, what the port's tests let through, and what taking a
request comes to once its block has served it. -/

namespace Sys2Proof.Laws

open Sys2Proof.Machine

/-! ## Units, ports and masks -/

@[simp] theorem unit_setUnit_same (ls : LinkInterfaces) (link : Link) (u : LinkUnit) :
    (ls.setUnit link u).unit link = u := by cases link <;> rfl

theorem unit_setUnit_of_ne {ls : LinkInterfaces} {link other : Link} {u : LinkUnit} (h : other ≠ link) :
    (ls.setUnit link u).unit other = ls.unit other := by
  cases link <;> cases other <;> first | rfl | exact absurd rfl h

@[simp] theorem port_setPort_same (s : State) (link : Link) (p : Port) : (s.setPort link p).port link = p := by
  simp [State.port, State.setPort]

theorem port_setPort_of_ne {s : State} {link other : Link} {p : Port} (h : other ≠ link) :
    (s.setPort link p).port other = s.port other := by
  simp [State.port, State.setPort, unit_setUnit_of_ne h]

@[simp] theorem mask_setPort (s : State) (link other : Link) (p : Port) :
    ((s.setPort link p).links.unit other).mask = (s.links.unit other).mask := by
  cases link <;> cases other <;> rfl

/-! ## The codes of R200 -/

@[simp] theorem ofByte?_toByte (c : RequestCode) : RequestCode.ofByte? c.toByte = some c := by
  cases c <;> decide

theorem fieldLength_le (link : Link) (c : RequestCode) : c.fieldLength link ≤ 18 := by
  cases c <;> cases link <;> decide

@[simp] theorem be16_length (w : Word16) : (be16 w).length = 2 := rfl
@[simp] theorem be32_length (w : Word32) : (be32 w).length = 4 := rfl

/-! ## A taken request -/

/-- A request whose port tests pass is answered by the block that serves it. -/
theorem takeRequest_of_taking {s : State} {link : Link} {code : RequestCode} {fields : List Byte}
    {serve : State → State × Reply} (h : Taking s link code fields) (hb : code.belongs link = true)
    (hl : fields.length = code.fieldLength link) :
    takeRequest link code fields serve s = s.answered link (serve s) := by
  have h18 := fieldLength_le link code
  unfold Taking at h
  simp [takeRequest, h, answerFrame, hb, hl, show ¬ code.fieldLength link > 62 by omega]

/-- Where the port is not receiving the frame, a request command changes nothing. -/
theorem takeRequest_of_not_taking {s : State} {link : Link} {code : RequestCode} {fields : List Byte}
    {serve : State → State × Reply} (h : ¬ Taking s link code fields) : takeRequest link code fields serve s = s := by
  unfold Taking at h
  simp [takeRequest, h]

/-- The port of an answered request holds the reply, none of it sent. -/
@[simp] theorem port_answered_same (s : State) (link : Link) (r : State × Reply) :
    (s.answered link r).port link = .reply r.2.bytes 0 := by
  have h : (s.answered link r).port link = (r.1.setPort link (.reply r.2.bytes 0)).port link := rfl
  rw [h]; simp

theorem port_answered_of_ne {s : State} {link other : Link} {r : State × Reply} (h : other ≠ link) :
    (s.answered link r).port other = r.1.port other := by
  have h' : (s.answered link r).port other = (r.1.setPort link (.reply r.2.bytes 0)).port other := rfl
  rw [h', port_setPort_of_ne h]

@[simp] theorem mask_answered (s : State) (link other : Link) (r : State × Reply) :
    ((s.answered link r).links.unit other).mask = (r.1.links.unit other).mask := by
  have h' : ((s.answered link r).links.unit other).mask =
      ((r.1.setPort link (.reply r.2.bytes 0)).links.unit other).mask := rfl
  rw [h']; simp

theorem replied_answered (s : State) (link : Link) (r : State × Reply) :
    Replied (s.answered link r) link r.2.status r.2.fields := by simp [Replied, Reply.bytes]

/-- The causes of an attempt are noted only where a condition of R35 changes from the state before to the state after. -/
@[simp] theorem attemptCause_noteCauses (s t : State) :
    (s.noteCauses t).scheduler.attemptCause = (t.scheduler.attemptCause
      || (!s.startConditions && t.startConditions) || (!s.patchDue && t.patchDue)
      || s.scheduler.endReserve != t.scheduler.endReserve) := rfl

@[simp] theorem order?_answered (s : State) (link : Link) (r : State × Reply) (k : Nat) :
    (s.answered link r).order? k = r.1.order? k := rfl

@[simp] theorem classList_answered (s : State) (link : Link) (r : State × Reply) (c : OrderClass) :
    (s.answered link r).scheduler.classList c = r.1.scheduler.classList c := by cases c <;> rfl

/-! ## Order records -/

theorem order?_modifyOrder (s : State) (slot k : Nat) (f : Order → Order) :
    (s.modifyOrder slot f).order? k = if k = slot then (s.order? slot).map f else s.order? k := by
  simp [State.order?, State.modifyOrder, OrderTable.modifyOrder, get?_modify]

theorem order?_delist (s : State) (slot k : Nat) :
    (s.delist slot).order? k = if k = slot then (s.order? slot).map fun o => { o with paperWait := none } else s.order? k := by
  simp [State.order?, State.delist, OrderTable.modifyOrder, get?_modify]

/-- A request that names an order is served for that order. -/
theorem withOrder_of_names {s : State} {ticket : Word16} {slot : Nat} {o : Order} {serve : Nat → Order → State × Reply}
    (h : Names s ticket slot o) : withOrder s ticket serve = serve slot o := by
  obtain ⟨h0, h1, h2, h3⟩ := h
  simp [withOrder, h0, h2, h3, show ¬ ticket.toNat > 9999 by omega]

/-- The first refusals of a request that names a ticket. -/
theorem withOrder_of_refusal {s : State} {ticket : Word16} {status : Status} {serve : Nat → Order → State × Reply}
    (h : TicketRefusal s ticket status) : withOrder s ticket serve = refuse s status := by
  rcases h with ⟨h, rfl⟩ | ⟨h0, h1, h2, rfl⟩
  · simp [withOrder, h]
  · simp [withOrder, h0, h2, show ¬ ticket.toNat > 9999 by omega]

/-! ## What an answer leaves unchanged -/

/-- What a block left unchanged when it served a request is unchanged once the request is answered, but for the port and,
where a condition of R35 has changed, the cause of an attempt. -/
theorem onlyChanges_answered {parts : List Part} {s t : State} {link : Link} {r : Reply} (h : OnlyChanges parts s t)
    (hp : Part.port link ∈ parts)
    (hc : Part.attemptCause ∈ parts ∨ (t.startConditions = s.startConditions ∧ t.patchDue = s.patchDue
      ∧ t.scheduler.endReserve = s.scheduler.endReserve)) :
    OnlyChanges parts s (s.answered link (t, r)) := by
  intro p hpart
  have hs := h p hpart
  have hcause : (s.answered link (t, r)).scheduler.attemptCause = (t.scheduler.attemptCause
      || (!s.startConditions && t.startConditions) || (!s.patchDue && t.patchDue)
      || s.scheduler.endReserve != t.scheduler.endReserve) := rfl
  cases p
  case attemptCause =>
    rcases hc with hc | ⟨h1, h2, h3⟩
    · exact absurd hc hpart
    · show _ = _
      rw [hcause, h1, h2, h3]
      simpa [Same] using hs
  case port l =>
    show _ = _
    by_cases hl : l = link
    · subst hl; exact absurd hp hpart
    · rw [port_answered_of_ne hl]; exact hs
  case mask l =>
    show _ = _
    rw [mask_answered]; exact hs
  all_goals exact hs

/-- A refused request changes nothing but its port. -/
theorem onlyChanges_refused (s : State) (link : Link) (status : Status) :
    OnlyChanges [.port link] s (s.answered link (refuse s status)) :=
  onlyChanges_answered (fun p _ => by cases p <;> simp [Same, refuse]) (by simp) (.inr ⟨rfl, rfl, rfl⟩)

/-- A request command its block refuses is answered with the bare status and changes nothing else. -/
theorem refusedWith_of_refuse {c : Instr} {s : State} {link : Link} {code : RequestCode} {fields : List Byte}
    {serve : State → State × Reply} {status : Status} (hc : exec c s = .next (takeRequest link code fields serve s))
    (h : Taking s link code fields) (hb : code.belongs link = true) (hl : fields.length = code.fieldLength link)
    (hs : serve s = refuse s status) : RefusedWith c s link status :=
  ⟨s.answered link (refuse s status), by rw [hc, takeRequest_of_taking h hb hl, hs],
    by simpa [refuse, Reply.refused] using replied_answered s link (refuse s status),
    onlyChanges_refused s link status⟩

/-- A request command its block takes is answered with the block's reply, and leaves unchanged what the block left
unchanged. -/
theorem answered_of_served {c : Instr} {s t : State} {link : Link} {code : RequestCode} {fields : List Byte}
    {serve : State → State × Reply} {r : Reply} (hc : exec c s = .next (takeRequest link code fields serve s))
    (h : Taking s link code fields) (hb : code.belongs link = true) (hl : fields.length = code.fieldLength link)
    (hs : serve s = (t, r)) :
    exec c s = .next (s.answered link (t, r)) ∧ Replied (s.answered link (t, r)) link r.status r.fields :=
  ⟨by rw [hc, takeRequest_of_taking h hb hl, hs], replied_answered s link (t, r)⟩

end Sys2Proof.Laws
end

