-- ==== Sys2Proof/Laws/PerInstr.lean ====
section
/-! SUPPORT. A law stated for every command: the field bytes of a request that can arise fit in one frame. -/

namespace Sys2Proof.Laws.RequestFits

/-- R183: a request that can arise has at most 62 field bytes. -/
def Statement (i : Instr) : Prop :=
  ∀ link code fields, i.request = some (link, code, fields) → i.wellFormed = true → fields.length ≤ 62

theorem of_request {i : Instr} {link : Link} {code : RequestCode} {fields : List Byte}
    (h : i.request = some (link, code, fields)) (hf : i.wellFormed = true → fields.length ≤ 62) : Statement i := by
  intro l c f h' hw
  rw [h] at h'
  cases h'
  exact hf hw

theorem of_none {i : Instr} (h : i.request = none) : Statement i := by
  intro l c f h'
  rw [h] at h'
  cases h'

theorem powerOnReset : Statement .powerOnReset := of_none rfl

theorem warmReset : Statement .warmReset := of_none rfl

theorem selectAsserted : ∀ link, Statement (.selectAsserted link) := fun _ => of_none rfl

theorem selectReleased : ∀ link, Statement (.selectReleased link) := fun _ => of_none rfl

theorem unknownRequest : ∀ link code len fields, Statement (.unknownRequest link code len fields) :=
  fun _ _ _ _ => of_none rfl

theorem openOrder : ∀ link cls, Statement (.openOrder link cls) :=
  fun _ _ => of_request rfl fun _ => Nat.le_of_ble_eq_true rfl

theorem addItem : ∀ link ticket handle ws hs sizeIndex surface mode copies, Statement (.addItem link ticket handle ws hs sizeIndex surface mode copies) :=
  fun _ _ _ _ _ _ _ _ _ => of_request rfl fun _ => Nat.le_of_ble_eq_true rfl

theorem submit : ∀ link ticket, Statement (.submit link ticket) :=
  fun _ _ => of_request rfl fun _ => Nat.le_of_ble_eq_true rfl

theorem hold : ∀ link ticket, Statement (.hold link ticket) :=
  fun _ _ => of_request rfl fun _ => Nat.le_of_ble_eq_true rfl

theorem release : ∀ link ticket, Statement (.release link ticket) :=
  fun _ _ => of_request rfl fun _ => Nat.le_of_ble_eq_true rfl

theorem cancel : ∀ link ticket, Statement (.cancel link ticket) :=
  fun _ _ => of_request rfl fun _ => Nat.le_of_ble_eq_true rfl

theorem readItem : ∀ link ticket item, Statement (.readItem link ticket item) :=
  fun _ _ _ => of_request rfl fun _ => Nat.le_of_ble_eq_true rfl

theorem writeSize : ∀ link index enabled wp lp paperWidth binGroup, Statement (.writeSize link index enabled wp lp paperWidth binGroup) :=
  fun _ _ _ _ _ _ _ => of_request rfl fun _ => Nat.le_of_ble_eq_true rfl

theorem readSize : ∀ link index, Statement (.readSize link index) :=
  fun _ _ => of_request rfl fun _ => Nat.le_of_ble_eq_true rfl

theorem setWindows : ∀ link express standard bulk, Statement (.setWindows link express standard bulk) :=
  fun _ _ _ _ => of_request rfl fun _ => Nat.le_of_ble_eq_true rfl

theorem setRemakeLimit : ∀ link limit, Statement (.setRemakeLimit link limit) :=
  fun _ _ => of_request rfl fun _ => Nat.le_of_ble_eq_true rfl

theorem loadRoll : ∀ link magazine width surface length, Statement (.loadRoll link magazine width surface length) :=
  fun _ _ _ _ _ => of_request rfl fun _ => Nat.le_of_ble_eq_true rfl

theorem unloadRoll : ∀ link magazine, Statement (.unloadRoll link magazine) :=
  fun _ _ => of_request rfl fun _ => Nat.le_of_ble_eq_true rfl

theorem magazineSwitched : ∀ link magazine, Statement (.magazineSwitched link magazine) :=
  fun _ _ => of_request rfl fun _ => Nat.le_of_ble_eq_true rfl

theorem transport : ∀ link state, Statement (.transport link state) :=
  fun _ _ => of_request rfl fun _ => Nat.le_of_ble_eq_true rfl

theorem cut : ∀ link, Statement (.cut link) := fun _ => of_request rfl fun _ => Nat.le_of_ble_eq_true rfl

theorem patchReading : ∀ link m0 m1 m2, Statement (.patchReading link m0 m1 m2) :=
  fun _ _ _ _ => of_request rfl fun _ => Nat.le_of_ble_eq_true rfl

theorem headFault : ∀ link channel, Statement (.headFault link channel) :=
  fun _ _ => of_request rfl fun _ => Nat.le_of_ble_eq_true rfl

theorem headReady : ∀ link channel, Statement (.headReady link channel) :=
  fun _ _ => of_request rfl fun _ => Nat.le_of_ble_eq_true rfl

theorem binEmptied : ∀ link bin, Statement (.binEmptied link bin) :=
  fun _ _ => of_request rfl fun _ => Nat.le_of_ble_eq_true rfl

theorem trayEmptied : ∀ link, Statement (.trayEmptied link) :=
  fun _ => of_request rfl fun _ => Nat.le_of_ble_eq_true rfl

theorem webCleared : ∀ link, Statement (.webCleared link) :=
  fun _ => of_request rfl fun _ => Nat.le_of_ble_eq_true rfl

theorem densityReset : ∀ link, Statement (.densityReset link) :=
  fun _ => of_request rfl fun _ => Nat.le_of_ble_eq_true rfl

theorem setWeb : ∀ link lpath leaderLength endReserve stallTime, Statement (.setWeb link lpath leaderLength endReserve stallTime) :=
  fun _ _ _ _ _ => of_request rfl fun _ => Nat.le_of_ble_eq_true rfl

theorem setDensity : ∀ link k t0 t1 t2 a q tolerance g0 g1 g2, Statement (.setDensity link k t0 t1 t2 a q tolerance g0 g1 g2) :=
  fun _ _ _ _ _ _ _ _ _ _ _ => of_request rfl fun _ => Nat.le_of_ble_eq_true rfl

theorem setBin : ∀ link bin group capacity, Statement (.setBin link bin group capacity) :=
  fun _ _ _ _ => of_request rfl fun _ => Nat.le_of_ble_eq_true rfl

theorem readWeb : ∀ link position part, Statement (.readWeb link position part) :=
  fun _ _ _ => of_request rfl fun _ => Nat.le_of_ble_eq_true rfl

theorem readMagazine : ∀ link, Statement (.readMagazine link) :=
  fun _ => of_request rfl fun _ => Nat.le_of_ble_eq_true rfl

theorem readPrice : ∀ link ticket item, Statement (.readPrice link ticket item) :=
  fun _ _ _ => of_request rfl fun _ => Nat.le_of_ble_eq_true rfl

theorem amendOpen : ∀ link ticket, Statement (.amendOpen link ticket) :=
  fun _ _ => of_request rfl fun _ => Nat.le_of_ble_eq_true rfl

theorem amendSet : ∀ link ticket kind value, Statement (.amendSet link ticket kind value) :=
  fun _ _ _ _ => of_request rfl fun _ => Nat.le_of_ble_eq_true rfl

theorem amendCommit : ∀ link ticket, Statement (.amendCommit link ticket) :=
  fun _ _ => of_request rfl fun _ => Nat.le_of_ble_eq_true rfl

theorem amendDrop : ∀ link ticket, Statement (.amendDrop link ticket) :=
  fun _ _ => of_request rfl fun _ => Nat.le_of_ble_eq_true rfl

theorem collect : ∀ link ticket, Statement (.collect link ticket) :=
  fun _ _ => of_request rfl fun _ => Nat.le_of_ble_eq_true rfl

theorem collectPartial : ∀ link ticket, Statement (.collectPartial link ticket) :=
  fun _ _ => of_request rfl fun _ => Nat.le_of_ble_eq_true rfl

theorem writeTariff : ∀ link target index f0 f1 f2 f3 f4, Statement (.writeTariff link target index f0 f1 f2 f3 f4) :=
  fun _ _ _ _ _ _ _ _ => of_request rfl fun _ => Nat.le_of_ble_eq_true rfl

theorem lockTariff : ∀ link, Statement (.lockTariff link) :=
  fun _ => of_request rfl fun _ => Nat.le_of_ble_eq_true rfl

theorem closeDay : ∀ link, Statement (.closeDay link) := fun _ => of_request rfl fun _ => Nat.le_of_ble_eq_true rfl

theorem readClosedDay : ∀ link, Statement (.readClosedDay link) :=
  fun _ => of_request rfl fun _ => Nat.le_of_ble_eq_true rfl

theorem readTotals : ∀ link, Statement (.readTotals link) :=
  fun _ => of_request rfl fun _ => Nat.le_of_ble_eq_true rfl

theorem setUncollectedTime : ∀ link minutes, Statement (.setUncollectedTime link minutes) :=
  fun _ _ => of_request rfl fun _ => Nat.le_of_ble_eq_true rfl

theorem readBin : ∀ link bin, Statement (.readBin link bin) :=
  fun _ _ => of_request rfl fun _ => Nat.le_of_ble_eq_true rfl

theorem readOrder : ∀ link ticket, Statement (.readOrder link ticket) :=
  fun _ _ => of_request rfl fun _ => Nat.le_of_ble_eq_true rfl

theorem readAttention : ∀ link, Statement (.readAttention link) :=
  fun _ => of_request rfl fun _ => Nat.le_of_ble_eq_true rfl

theorem setMask : ∀ link entries, Statement (.setMask link entries) :=
  fun _ _ => of_request rfl fun hw => by simpa [Instr.wellFormed] using hw

theorem lineStrobe : Statement .lineStrobe := of_none rfl

theorem windowExpiry : ∀ slot, Statement (.windowExpiry slot) := fun _ => of_none rfl

theorem fetchTimeout : Statement .fetchTimeout := of_none rfl

theorem stallFirstExpiry : Statement .stallFirstExpiry := of_none rfl

theorem stallSecondExpiry : Statement .stallSecondExpiry := of_none rfl

theorem uncollectedExpiry : ∀ bin, Statement (.uncollectedExpiry bin) := fun _ => of_none rfl

theorem rowFetch : Statement .rowFetch := of_none rfl

theorem rowData : ∀ tag pixels, Statement (.rowData tag pixels) := fun _ _ => of_none rfl

theorem rowFault : ∀ tag reason, Statement (.rowFault tag reason) := fun _ _ => of_none rfl

theorem rasterFrameUnreadable : ∀ code count, Statement (.rasterFrameUnreadable code count) := fun _ _ => of_none rfl

theorem selectionAttempt : Statement .selectionAttempt := of_none rfl

theorem lineProduced : Statement .lineProduced := of_none rfl

theorem linkByteComplete : ∀ link byte, Statement (.linkByteComplete link byte) := fun _ _ => of_none rfl

theorem timeBaseTick : Statement .timeBaseTick := of_none rfl

end Sys2Proof.Laws.RequestFits
end

