-- ==== Sys2Proof/Laws/Terms.lean ====
section
/-! SUPPORT. The terms of the statements and the operations of the model agree: start conditions, fits, next prints, lines,
missed-cut detection, the raster link, the rows of a line, steps, waived sums, counted copies and attention causes, each said
once. -/

namespace Sys2Proof.Laws

open Sys2Proof.Machine

/-! ## Selection attempts and starts -/

theorem startConditions_iff (s : State) : s.startConditions = true ↔ StartConditions s := by
  unfold State.startConditions StartConditions Scheduler.activeRecord?
  cases h : s.scheduler.active with
  | none => simp
  | some m => simp [Fin.forall_fin_succ, PerChannel.get, and_assoc]

theorem patchDue_iff (s : State) : s.patchDue = true ↔ PatchDue s := by
  simp [State.patchDue, PatchDue, or_assoc]

theorem attemptDue_iff (s : State) : s.attemptDue = true ↔ AttemptMade s := by
  simp [State.attemptDue, AttemptMade, startConditions_iff, and_assoc]

theorem fits_iff (m : MagazineRecord) (endReserve : Nat) (i : Item) (e : SizeEntry) :
    m.fits endReserve i e = true ↔ FitsPaper m endReserve i e := by
  simp [MagazineRecord.fits, FitsPaper, and_assoc]

theorem linesReady_iff (s : State) (lineCount : Nat) : s.channel.linesReady lineCount = true ↔ LinesStand s lineCount := by
  unfold ChannelOutput.linesReady LinesStand
  split
  · cases s.channel.queue <;> simp
  · simp [List.countP_eq_length_filter]

/-- The item at a place of a list of item records is the first with a copy to print. -/
def IsFirstPrintable (T : OrderTable) (refs : List Nat) (n : Nat) (i : Item) : Prop :=
  ∃ r, refs[n]? = some r ∧ Table.get? T.items r = some i ∧ i.waiting ≠ 0 ∧ i.faulted = false
    ∧ ∀ m q j, m < n → refs[m]? = some q → Table.get? T.items q = some j → j.waiting = 0 ∨ j.faulted = true

theorem firstPrintable_ge {T : OrderTable} {refs : List Nat} {k n : Nat} {i : Item} (h : firstPrintable T k refs = some (n, i)) :
    k ≤ n := by
  induction refs generalizing k with
  | nil => cases h
  | cons a l ih =>
    simp only [firstPrintable] at h
    split at h
    · split at h
      · cases h; exact Nat.le_refl _
      · exact Nat.le_of_succ_le (ih h)
    · exact Nat.le_of_succ_le (ih h)

/-- Past an item with nothing to print the search goes on with the rest. -/
theorem isFirstPrintable_cons {T : OrderTable} {r : Nat} {rest : List Nat} {n : Nat} {i : Item}
    (hr : ∀ j, Table.get? T.items r = some j → j.waiting = 0 ∨ j.faulted = true) :
    IsFirstPrintable T (r :: rest) n i ↔ ∃ m, n = m + 1 ∧ IsFirstPrintable T rest m i := by
  constructor
  · rintro ⟨q, hq, hi, hw, hf, hall⟩
    cases n with
    | zero =>
      cases hq
      rcases hr i hi with h | h
      · exact absurd h hw
      · rw [hf] at h; cases h
    | succ n => exact ⟨n, rfl, q, hq, hi, hw, hf, fun m q j hm hq hj => hall (m + 1) q j (by omega) hq hj⟩
  · rintro ⟨m, rfl, q, hq, hi, hw, hf, hall⟩
    refine ⟨q, hq, hi, hw, hf, fun m' q j hm hq hj => ?_⟩
    cases m' with
    | zero => cases hq; exact hr j hj
    | succ m' => exact hall m' q j (by omega) hq hj

theorem firstPrintable_eq_some {T : OrderTable} {i : Item} {refs : List Nat} {k n : Nat} :
    firstPrintable T k refs = some (k + n, i) ↔ IsFirstPrintable T refs n i := by
  induction refs generalizing k n with
  | nil => simp [firstPrintable, IsFirstPrintable]
  | cons r rest ih =>
    have skipped (hr : ∀ j, Table.get? T.items r = some j → j.waiting = 0 ∨ j.faulted = true) :
        firstPrintable T (k + 1) rest = some (k + n, i) ↔ IsFirstPrintable T (r :: rest) n i := by
      rw [isFirstPrintable_cons hr]
      constructor
      · intro h
        have := firstPrintable_ge h
        exact ⟨n - 1, by omega, ih.mp (show _ = some (k + 1 + (n - 1), i) by rw [h]; congr 2; omega)⟩
      · rintro ⟨m, rfl, h⟩
        rw [ih.mpr h]; congr 2; omega
    simp only [firstPrintable]
    split
    · rename_i j hj
      split
      · rename_i hp
        constructor
        · intro h
          have h := Option.some.inj h
          obtain rfl : n = 0 := by have := congrArg Prod.fst h; simp at this; omega
          obtain rfl : j = i := congrArg Prod.snd h
          exact ⟨r, rfl, hj, by omega, hp.2, fun _ _ _ h => absurd h (Nat.not_lt_zero _)⟩
        · rintro ⟨q, hq, hi, _, _, hall⟩
          cases n with
          | zero => cases hq; rw [hj] at hi; cases hi; rfl
          | succ n =>
            rcases hall 0 r j (by omega) rfl hj with h | h
            · omega
            · rw [hp.2] at h; cases h
      · rename_i hp
        refine skipped fun j' hj' => ?_
        rw [hj] at hj'; cases hj'
        cases hf : j.faulted
        · simp only [hf, and_true] at hp; exact .inl (by omega)
        · exact .inr rfl
    · rename_i hj
      exact skipped fun j' hj' => by rw [hj] at hj'; cases hj'

theorem nextPrint?_eq_some (s : State) (slot n : Nat) (i : Item) (e : SizeEntry) :
    s.orderTable.nextPrint? slot = some (n, i, e) ↔ HasNextPrint s slot n i e := by
  unfold OrderTable.nextPrint? HasNextPrint OrderTable.refsOf State.order? OrderTable.sizeOf?
  cases ho : Table.get? s.orderTable.orders slot with
  | none => simp [firstPrintable]
  | some o =>
    have h := @firstPrintable_eq_some s.orderTable i o.items 0 n
    simp only [Nat.zero_add] at h
    constructor
    · intro hp
      split at hp
      · rename_i m j hm
        simp only [Option.map_eq_some_iff, Prod.mk.injEq] at hp
        obtain ⟨d, hd, rfl, rfl, rfl⟩ := hp
        obtain ⟨r, hr, hi, hw, hf, hall⟩ := h.mp hm
        exact ⟨o, r, rfl, hr, hi, hw, hf, hd, hall⟩
      · cases hp
    · rintro ⟨o', r, ho', hr, hi, hw, hf, hd, hall⟩
      cases ho'
      simp [h.mpr ⟨r, hr, hi, hw, hf, hall⟩, hd]

/-! ## Missed-cut detection and the reference segment -/

theorem mergePassed_passedMerged (lpath : Nat) (position : Word32) (map : List Segment) :
    PassedMerged lpath position map (mergePassed lpath position map) := by
  induction map with
  | nil => exact ⟨[], [], rfl, rfl, by simp, by simp⟩
  | cons g rest ih =>
    obtain ⟨passed, left, hm, ha, hp, hl⟩ := ih
    simp only [mergePassed]
    split
    · rename_i hg
      refine ⟨g :: passed, left, by rw [hm]; rfl, ?_, ?_, hl⟩
      · rw [ha, List.map_cons, List.cons_append]
        cases g; cases hg; rfl
      · intro k hk
        rcases List.mem_cons.mp hk with rfl | hk
        · exact .inl hg
        · exact hp k hk
    · rename_i hg
      split
      · rename_i hd
        simp only [Bool.and_eq_true, decide_eq_true_eq] at hd
        refine ⟨g :: passed, left, by rw [hm]; rfl, by rw [ha]; rfl, ?_, hl⟩
        intro k hk
        rcases List.mem_cons.mp hk with rfl | hk
        · exact .inr hd
        · exact hp k hk
      · rename_i hd
        refine ⟨[], g :: rest, rfl, rfl, by simp, fun k l e => ?_⟩
        cases e
        refine ⟨by simpa using hg, ?_⟩
        cases hc : g.closed
        · exact .inl rfl
        · rw [hc, Bool.true_and, decide_eq_true_eq] at hd
          exact .inr (show g.deviation lpath position ≤ 25 by omega)

/-- Detection takes a map to one map only. -/
theorem passedMerged_unique {lpath : Nat} {position : Word32} {map after : List Segment}
    (h : PassedMerged lpath position map after) : after = mergePassed lpath position map := by
  obtain ⟨passed, left, rfl, rfl, hp, hl⟩ := h
  induction passed with
  | nil =>
    cases left with
    | nil => rfl
    | cons k rest =>
      obtain ⟨hm, hc⟩ := hl k rest rfl
      have : ¬ (k.closed && decide (26 ≤ k.deviation lpath position)) = true := by
        rw [Bool.and_eq_true, decide_eq_true_eq]
        rintro ⟨hk, hd⟩
        rcases hc with hc | hc
        · rw [hk] at hc; cases hc
        · have hc : k.deviation lpath position ≤ 25 := hc
          omega
      simp [mergePassed, hm, this]
  | cons k passed ih =>
    simp only [List.map_cons, List.cons_append, mergePassed]
    rw [ih fun g hg => hp g (by simp [hg])]
    rcases hp k (by simp) with hm | ⟨hk, hd⟩
    · rw [if_pos hm]
      cases k; cases hm; rfl
    · have hd : 26 ≤ k.deviation lpath position := hd
      split
      · rename_i hm
        cases k; cases hm; rfl
      · simp [hk, hd]

/-- A segment not merged with merged ones before it is the reference segment where it is closed. -/
theorem referenceFrom_append {n : Nat} {k : Segment} {ahead rest : List Segment} (h : ∀ g ∈ ahead, g.merged = true)
    (hk : k.merged = false) :
    referenceFrom n (ahead ++ k :: rest) = if k.closed then some (n + ahead.length, k) else none := by
  induction ahead generalizing n with
  | nil => simp [referenceFrom, hk]
  | cons g ahead ih =>
    rw [List.cons_append, referenceFrom, if_pos (h g (by simp)), ih fun x hx => h x (by simp [hx])]
    simp [Nat.add_comm, Nat.add_left_comm]

theorem referenceFrom_merged {n : Nat} {map : List Segment} (h : ∀ g ∈ map, g.merged = true) : referenceFrom n map = none := by
  induction map generalizing n with
  | nil => rfl
  | cons g map ih => rw [referenceFrom, if_pos (h g (by simp)), ih fun x hx => h x (by simp [hx])]

/-- A map is merged throughout, or has a first segment that is not. -/
theorem merged_or_first (map : List Segment) : (∀ g ∈ map, g.merged = true)
    ∨ ∃ ahead k rest, map = ahead ++ k :: rest ∧ (∀ g ∈ ahead, g.merged = true) ∧ k.merged = false := by
  induction map with
  | nil => simp
  | cons g map ih =>
    cases hg : g.merged
    · exact .inr ⟨[], g, map, rfl, by simp, hg⟩
    · rcases ih with h | ⟨ahead, k, rest, rfl, h, hk⟩
      · exact .inl fun x hx => by
          rcases List.mem_cons.mp hx with rfl | hx
          · exact hg
          · exact h x hx
      · refine .inr ⟨g :: ahead, k, rest, rfl, fun x hx => ?_, hk⟩
        rcases List.mem_cons.mp hx with rfl | hx
        · exact hg
        · exact h x hx

theorem reference?_eq_none_iff (w : Web) : w.reference? = none ↔ NoReference w.map := by
  unfold Web.reference? NoReference
  rcases merged_or_first w.map with h | ⟨ahead, k, rest, e, h, hk⟩
  · refine ⟨fun _ ahead k rest e _ hk => ?_, fun _ => referenceFrom_merged h⟩
    have := h k (by rw [e]; simp)
    rw [hk] at this; cases this
  · rw [e, referenceFrom_append h hk]
    refine ⟨fun hn ahead' k' rest' e' h' hk' => ?_, fun hn => ?_⟩
    · have := referenceFrom_append (n := 0) (rest := rest') h' hk'
      rw [← e', referenceFrom_append h hk, hn] at this
      cases hc : k'.closed
      · rfl
      · rw [hc] at this; cases this
    · simp [hn ahead k rest rfl h hk]

/-! ## The raster link -/

@[simp] theorem served_link (s : State) : s.served.fetch.link = { phase := .idle, ready := false } := rfl

/-- What the reading of a reply frame leaves: the raster link, and of the fetches only that a waiting one has been sent. -/
theorem served_same (s : State) : OnlyChanges [.fetch, .frameSent, .rasterLink] s s.served := by
  intro p hp
  have hr : ∀ (r : RasterFetch) now frame, (r.sent now frame).nextTag = r.nextTag ∧ (r.sent now frame).lastFault = r.lastFault
      ∧ (r.sent now frame).faultCount = r.faultCount := fun _ _ _ => ⟨rfl, rfl, rfl⟩
  have hw : ∀ (r : RasterFetch) now, (r.sendWaiting now).nextTag = r.nextTag ∧ (r.sendWaiting now).lastFault = r.lastFault
      ∧ (r.sendWaiting now).faultCount = r.faultCount := by
    intro r now
    unfold RasterFetch.sendWaiting
    split
    · exact hr _ _ _
    · exact ⟨rfl, rfl, rfl⟩
  have hs : s.served.fetch.nextTag = s.fetch.nextTag ∧ s.served.fetch.lastFault = s.fetch.lastFault
      ∧ s.served.fetch.faultCount = s.fetch.faultCount := by
    unfold State.served RasterFetch.served
    dsimp only
    split
    · exact ⟨rfl, rfl, rfl⟩
    · rename_i frame _
      have h1 := hw (s.fetch.sent s.timeBase frame) s.timeBase
      have h2 := hr s.fetch s.timeBase frame
      exact ⟨h1.1.trans h2.1, h1.2.1.trans h2.2.1, h1.2.2.trans h2.2.2⟩
    · exact hw _ _
  cases p <;> first
    | rfl
    | exact ⟨rfl, rfl⟩
    | exact ⟨rfl, rfl, rfl⟩
    | exact ⟨rfl, rfl, rfl, rfl⟩
    | exact hs.1
    | exact hs.2
    | exact absurd hp (by decide)

/-- Where nothing is to be sent, the reading of a reply frame releases the link and changes nothing else. -/
theorem served_of_nothingToSend {s : State} (h : NothingToSend s) :
    s.served = { s with fetch := { s.fetch with link := { phase := .idle, ready := false } } } := by
  unfold State.served RasterFetch.served
  rcases h with h | ⟨h, hf⟩
  · rw [h]
  · have hw : s.fetch.waiting? = none := by
      unfold RasterFetch.waiting?
      rcases hf with hf | hf
      · cases s.fetch.timer <;> simp [hf]
      · cases ht : s.fetch.timer
        · rw [ht] at hf; cases hf
        · rfl
    rw [h]
    simp only [RasterFetch.sendWaiting, hw]

/-! ## Rows, steps, waived sums and counted copies -/

theorem insideDim_iff (dim : Nat) (x : Int) : insideDim dim x = true ↔ Inside dim x := by simp [insideDim, Inside]

theorem borderRow_iff (p : PrintJob) (k : Nat) : p.borderRow k = true ↔ IsBorder p k := by
  simp only [PrintJob.borderRow, IsBorder, Bool.and_eq_true, beq_iff_eq, Bool.not_eq_true', ← insideDim_iff, Geometry.y,
    Bool.not_eq_true]

theorem nextImageLine_eq_some {p : PrintJob} {k line : Nat} :
    p.nextImageLine k = some line ↔ NextImageLine p k line := by
  simp only [PrintJob.nextImageLine, NextImageLine, List.find?_range'_eq_some, Bool.not_eq_true', ← Bool.not_eq_true, borderRow_iff,
    Bool.not_not, List.mem_range'_1]
  constructor
  · rintro ⟨hb, hm, ha⟩
    exact ⟨by omega, by omega, hb, fun j h1 h2 => by simpa using ha j h1 h2⟩
  · rintro ⟨h1, h2, hb, ha⟩
    exact ⟨hb, by omega, fun j h1 h2 => by simpa using ha j h1 h2⟩

theorem rowsOf_eq (p : PrintJob) (k : Nat) : p.rowsOf k =
    (held p.geometry.hsN (p.geometry.oy + k * p.geometry.step) / 65536,
      neighbour p.geometry.hsN (held p.geometry.hsN (p.geometry.oy + k * p.geometry.step) / 65536)) := rfl

/-- The rows a work needs, as the Resampler finds them. -/
theorem needs_eq_some {r : Resampler} {w : Work} {lo hi : Nat} (h : r.work = some w) :
    r.needs = some (lo, hi) ↔ NeedsRows w lo hi := by
  unfold Resampler.needs NeedsRows
  rw [h]
  cases hj : w.job with
  | patch width => simp [hj]
  | print p =>
    simp only [hj, Option.map_eq_some_iff, nextImageLine_eq_some, rowsOf_eq, Prod.mk.injEq, Job.print.injEq]
    constructor
    · rintro ⟨line, hl, rfl, rfl⟩
      exact ⟨p, line, rfl, hl, rfl, rfl⟩
    · rintro ⟨_, line, rfl, hl, rfl, rfl⟩
      exact ⟨line, hl, rfl, rfl⟩

theorem needs_eq_none {r : Resampler} {w : Work} (h : r.work = some w) : r.needs = none ↔ ∀ lo hi, ¬ NeedsRows w lo hi := by
  constructor
  · intro hn lo hi hl
    rw [(needs_eq_some h).mpr hl] at hn; cases hn
  · intro hn
    cases hc : r.needs with
    | none => rfl
    | some x => exact absurd ((needs_eq_some h).mp hc) (hn x.1 x.2)

theorem rowHeld_iff (s : State) (k : Nat) :
    (∃ row, RowHeld s k row) ↔ (holds s.resampler.rowA k || holds s.resampler.rowB k) = true := by
  unfold RowHeld holds
  rcases s.resampler.rowA with _ | a <;> rcases s.resampler.rowB with _ | b <;> simp
  · by_cases h : a.index = k
    · simp [h]
    · simp only [h, false_or, not_false_eq_true, and_true]
      exact ⟨fun ⟨row, h1, h2⟩ => h2.elim (fun e => absurd (e ▸ h1) h) fun e => e ▸ h1, fun h1 => ⟨b, h1, .inr rfl⟩⟩

theorem holds_filter {r : Option Row} {lo hi k : Nat} (h : k = lo ∨ k = hi) :
    holds (r.filter fun w => w.index == lo || w.index == hi) k = holds r k := by
  cases r with
  | none => rfl
  | some w =>
    by_cases hw : w.index = k
    · have : (w.index == lo || w.index == hi) = true := by rw [hw]; simpa using h
      simp [Option.filter, this]
    · have : holds (some w) k = false := by simp [holds, hw]
      rw [this]
      simp only [Option.filter]
      split
      · exact this
      · rfl

theorem holds_or (a b : Option Row) (k : Nat) :
    (holds (a.or b) k || holds (b.or a) k) = (holds a k || holds b k) := by
  cases a <;> cases b <;> simp [holds]

/-- What the Resampler does about the rows of a work it has. -/
theorem rowsSeenTo_planRows {s : State} {w : Work} (h : s.resampler.work = some w) : RowsSeenTo w s s.planRows := by
  constructor
  · intro hn
    have hn := (needs_eq_none h).mpr hn
    have hk : s.resampler.keepRows = { s.resampler with rowA := none, rowB := none } := by unfold Resampler.keepRows; rw [hn]
    have hf : s.fetch.request s.resampler.keepRows = s.fetch := by
      have : s.resampler.keepRows.missing = none := by
        unfold Resampler.missing
        have : s.resampler.keepRows.needs = s.resampler.needs := by rw [hk]; rfl
        rw [this, hn]
      unfold RasterFetch.request
      rw [this]
      split <;> simp_all
    simp only [State.planRows, Same, hf]
    simp [hk]
  · intro p lo hi a b hj hn ha hb
    have hn := (needs_eq_some h).mpr hn
    have hk : s.resampler.keepRows = { s.resampler with
        rowA := if lo = hi then a.or b else a, rowB := if lo = hi then b.or a else b } := by
      unfold Resampler.keepRows; rw [hn]; dsimp only; rw [← ha, ← hb]; split <;> rfl
    have hneeds : s.resampler.keepRows.needs = some (lo, hi) := by rw [← hn, hk]; rfl
    have hh : ∀ k, k = lo ∨ k = hi → ((holds s.resampler.keepRows.rowA k || holds s.resampler.keepRows.rowB k) = true
        ↔ ∃ r, RowHeld s k r) := by
      intro k hkk
      rw [rowHeld_iff, hk, ← holds_filter (r := s.resampler.rowA) hkk, ← holds_filter (r := s.resampler.rowB) hkk, ← ha, ← hb]
      dsimp only
      split
      · rw [holds_or]
      · rfl
    have hwork : s.resampler.keepRows.work = some w := by rw [hk]; exact h
    refine ⟨by rw [State.planRows, hk], by rw [State.planRows, hk], fun hc => ?_, fun row hf hr hc => ?_⟩
    · have hf : s.fetch.request s.resampler.keepRows = s.fetch := by
        unfold RasterFetch.request
        rcases hc with hc | ⟨h1, h2⟩
        · split
          · rename_i h3 _ _; rw [h3] at hc; cases hc
          · rfl
        · have : s.resampler.keepRows.missing = none := by
            unfold Resampler.missing
            rw [hneeds]
            simp [(hh lo (.inl rfl)).mpr h1, (hh hi (.inr rfl)).mpr h2]
          rw [this]
          split <;> simp_all
      simp [State.planRows, Same, hf]
    · have hm : s.resampler.keepRows.missing = some row := by
        unfold Resampler.missing
        rw [hneeds]
        rcases hc with rfl | ⟨rfl, h1⟩
        · have : (holds s.resampler.keepRows.rowA row || holds s.resampler.keepRows.rowB row) = false := by
            rw [Bool.eq_false_iff]; exact fun e => (hh row (.inl rfl)).mp e |>.elim hr
          simp [this]
        · have h2 : (holds s.resampler.keepRows.rowA row || holds s.resampler.keepRows.rowB row) = false := by
            rw [Bool.eq_false_iff]; exact fun e => (hh row (.inr rfl)).mp e |>.elim hr
          simp [h2, (hh lo (.inl rfl)).mpr h1]
      unfold State.planRows RasterFetch.request
      simp only [hf, hwork, hm, hj]
      trivial

theorem refundOf_eq {s : State} {slot : Nat} {o : Order} (ho : s.order? slot = some o) (w : BitVec 24) :
    s.orderTable.refundOf slot w = waivedSum s o w := by
  have hr : s.orderTable.refsOf slot = o.items := by unfold OrderTable.refsOf; rw [show Table.get? _ slot = some o from ho]
  have hi : ∀ n, s.orderTable.item? slot n = (o.items[n]?).bind (Table.get? s.orderTable.items) := by
    intro n; unfold OrderTable.item? OrderTable.itemRef?; rw [show Table.get? _ slot = some o from ho]; rfl
  unfold OrderTable.refundOf OrderTable.numberedItems waivedSum
  rw [hr]
  generalize List.range o.items.length = l
  induction l with
  | nil => rfl
  | cons n l ih =>
    simp only [List.filterMap_cons, List.map_cons, List.sum_cons, hi, inWaiveSet] at ih ⊢
    cases (o.items[n]?).bind (Table.get? s.orderTable.items) with
    | none => simpa only [Option.map_none, Nat.zero_add] using ih
    | some i =>
      simp only [Option.map_some, List.filter_cons]
      by_cases hw : w.getLsbD n = true ∧ i.waived = false
      · simp only [hw.1, hw.2, Bool.not_false, Bool.and_self, if_true, and_self, List.map_cons, List.sum_cons, ih]
      · have : (w.getLsbD n && !i.waived) = false := by
          cases h1 : w.getLsbD n <;> cases h2 : i.waived <;> simp_all
        simp only [this, Bool.false_eq_true, if_false, if_neg hw, Nat.zero_add]; exact ih

theorem isCeiling_ceilDiv {a b : Nat} (hb : 0 < b) : IsCeiling a b (ceilDiv a b) := by
  unfold IsCeiling ceilDiv
  refine ⟨?_, fun k hk => ?_⟩
  · have := Nat.div_add_mod (a + b - 1) b
    have := Nat.mod_lt (a + b - 1) hb
    rw [Nat.mul_comm]; omega
  · rw [Nat.div_le_iff_le_mul_add_pred hb]
    rw [Nat.mul_comm] at hk; omega

theorem isCeiling_unique {a b c d : Nat} (h : IsCeiling a b c) (k : IsCeiling a b d) : c = d :=
  Nat.le_antisymm (h.2 d k.1) (k.2 c h.1)

theorem isStep_iff {mode : Mode} {w h wp lp step : Nat} (hw : 0 < wp) (hl : 0 < lp) :
    IsStep mode w h wp lp step ↔ step = stepFor mode w h wp lp := by
  cases mode
  · exact Iff.rfl
  · constructor
    · rintro ⟨a, b, ha, hb, rfl⟩
      rw [isCeiling_unique ha (isCeiling_ceilDiv hw), isCeiling_unique hb (isCeiling_ceilDiv hl)]; rfl
    · rintro rfl
      exact ⟨_, _, isCeiling_ceilDiv hw, isCeiling_ceilDiv hl, rfl⟩

/-- Where every copy is counted, the copies of any segments of the map are counted on web. -/
theorem copiesOnWeb_of_counted {s : State} (h : CopiesCounted s) (hp : PoolAndGross s) {segs : List Segment}
    (hs : segs.Sublist s.web.map) : CopiesOnWeb segs s := by
  intro g hg slot n copy hk
  obtain ⟨o, ho, hn⟩ := h.2 g (hs.subset hg) slot n copy hk
  have hr : o.items[n]? = some o.items[n] := List.getElem?_eq_getElem hn
  have hmem : o.items[n] ∈ s.orderTable.items.map Prod.fst :=
    hp.2.2.2.1.subset (List.mem_flatMap.mpr ⟨(slot, o), mem_of_get? ho, List.getElem_mem hn⟩)
  obtain ⟨i, hi⟩ := Option.isSome_iff_exists.mp (get?_isSome_iff.mpr hmem)
  exact ⟨o, _, i, ho, hr, hi, (h.1 slot o n _ i ho hr hi).1 ▸ hs.countP_le⟩

/-! ## Attention -/

/-- The records of a table whose numbers rise below a limit, counted by number and counted in the table. -/
theorem countP_range_get? {α : Type} {t : Table α} {limit : Nat} (f : α → Bool) (h : (t.map Prod.fst).Pairwise (· < ·))
    (hl : ∀ p ∈ t, p.1 < limit) :
    (List.range limit).countP (fun k => (Table.get? t k).any f) = (t.filter fun p => f p.2).length := by
  induction t with
  | nil => simp
  | cons p t ih =>
    obtain ⟨j, a⟩ := p
    rw [List.map_cons, List.pairwise_cons] at h
    have hj : Table.get? t j = none := by
      cases hc : Table.get? t j with
      | none => rfl
      | some b => exact absurd (h.1 j (List.mem_map_of_mem (mem_of_get? hc))) (Nat.lt_irrefl j)
    have hlt : j < limit := hl (j, a) (by simp)
    have ih := ih h.2 fun p hp => hl p (by simp [hp])
    have step : ∀ k, (Table.get? ((j, a) :: t) k).any f = ((decide (k = j) && f a) || (Table.get? t k).any f) := by
      intro k
      rw [get?_cons]
      by_cases hk : j = k
      · subst hk; simp [hj]
      · have : ¬ k = j := fun e => hk e.symm
        simp [hk, this]
    have hcount : (List.range limit).countP (fun k => decide (k = j) && f a) = if f a then 1 else 0 := by
      cases f a
      · simp
      · simp only [Bool.and_true, if_true]
        have := List.count_eq_one_of_mem List.nodup_range (List.mem_range.mpr hlt)
        rw [List.count_eq_countP] at this
        rw [← this]
        exact List.countP_congr fun k _ => by simp
    have hdisj : (List.range limit).countP (fun k => (decide (k = j) && f a) || (Table.get? t k).any f)
        = (List.range limit).countP (fun k => decide (k = j) && f a)
          + (List.range limit).countP (fun k => (Table.get? t k).any f) := by
      generalize List.range limit = l
      induction l with
      | nil => rfl
      | cons k l ih =>
        simp only [List.countP_cons, ih]
        by_cases hk : k = j
        · subst hk; simp [hj]; omega
        · simp [hk]; omega
    simp only [step, hdisj, hcount, ih, List.filter_cons]
    split <;> simp_all [Nat.add_comm]

theorem flagOf_eq (c : Cause) (link : Link) (o : Order) (h : c = .orderFaulted ∨ c = .cancelDone ∨ c = .binShortage
    ∨ c = .orderComplete) (hc : c ∈ priorities link) : c.flagOf link o = flagSet link c o := by
  rcases h with rfl | rfl | rfl | rfl <;> cases link <;> first | rfl | exact absurd hc (by decide)

/-- The subjects of a cause of a link, counted by slot and by number. -/
theorem subjects_eq {s : State} (ht : TicketsOk s) (hb : BinsOk s) {link : Link} {c : Cause} (hc : c ∈ priorities link) :
    s.subjects link c = pendingSubjects s link c := by
  have orders : c = .orderFaulted ∨ c = .cancelDone ∨ c = .binShortage ∨ c = .orderComplete →
      (s.flaggedOrders link c).length = (List.range 64).countP fun k => (s.order? k).any (flagSet link c) := by
    intro h
    unfold State.order?
    rw [countP_range_get? _ ht.1 fun p hp => (ht.2.1 p hp).1]
    unfold State.flaggedOrders
    congr 1
    exact List.filter_congr fun p _ => flagOf_eq c link p.2 h hc
  cases c with
  | orderFaulted => exact orders (by simp)
  | cancelDone => exact orders (by simp)
  | binShortage => exact orders (by simp)
  | orderComplete => exact orders (by simp)
  | uncollected =>
    have hrise : (s.sort.bins.map Prod.fst).Pairwise (· < ·) := by rw [hb.1]; decide
    have hlt : ∀ p ∈ s.sort.bins, p.1 < 21 := by
      intro p hp
      have : p.1 ∈ s.sort.bins.map Prod.fst := List.mem_map_of_mem hp
      rw [hb.1] at this
      simp at this; omega
    have h0 : Table.get? s.sort.bins 0 = none := by
      cases hg : Table.get? s.sort.bins 0 with
      | none => rfl
      | some b =>
        have : (0 : Nat) ∈ s.sort.bins.map Prod.fst := List.mem_map_of_mem (mem_of_get? hg)
        rw [hb.1] at this; simp at this
    have := countP_range_get? (fun b : Bin => b.uncollected) hrise hlt
    rw [List.range_succ_eq_map, List.countP_cons, List.countP_map] at this
    simp only [h0, Option.any_none, Bool.false_eq_true, if_false, Nat.add_zero] at this
    exact this.symm
  | tableLow =>
    simp only [State.subjects, State.tableLow, pendingSubjects, Bool.or_eq_true, decide_eq_true_eq]; rfl
  | webFault => cases h : s.web.fault <;> simp [State.subjects, pendingSubjects, h]
  | densityFault => rfl
  | stall => rfl
  | switchRequested => cases h : s.scheduler.switchRequested <;> simp [State.subjects, pendingSubjects, h]
  | paperNeeded =>
    simp only [State.subjects, State.paperNeeded?, pendingSubjects]
    congr 1
    rw [List.findSome?_isSome_iff, List.any_eq_true]
    simp only [eq_iff_iff]
    refine exists_congr fun k => and_congr_right fun _ => ?_
    cases s.order? k <;> simp
  | magazineLow =>
    simp only [State.subjects, State.lowMagazines, pendingSubjects, List.filter_cons, List.filter_nil, Scheduler.magazine]
    cases s.scheduler.magA.low <;> cases s.scheduler.magB.low <;> rfl
  | patchUnread => rfl

/-- No link has more than seven causes. -/
theorem pendingAt_lt {s : State} {link : Link} {place : Nat} (h : pendingAt s link place = true) : place < 7 := by
  unfold pendingAt at h
  split at h
  · rename_i hc _
    have := (List.getElem?_eq_some_iff.mp hc).1
    cases link <;> simp only [priorities, List.length_cons, List.length_nil] at this <;> omega
  · cases h

/-- Nothing is pending on a link where the attention output is not asserted. -/
theorem not_pendingAt {s : State} {link : Link} (h : attentionAsserted s link = false) (place : Nat) :
    pendingAt s link place = false := by
  cases hp : pendingAt s link place
  · rfl
  · have := List.any_eq_false.mp h place (List.mem_range.mpr (pendingAt_lt hp))
    rw [hp] at this; exact absurd rfl this

end Sys2Proof.Laws
end

