-- ==== Sys2Proof/Tests/Slice0.lean ====
section
/-! SUPPORT. Tests: the well-formedness checks, frames written out from R200, one step of a command each with the results
the chapters' worked examples give, and for every statement a state and operands that meet its hypotheses. -/

namespace Sys2Proof.Tests

-- one theorem after another: `decide +kernel` in many theorems at once takes a thread for each
set_option Elab.async false

open Sys2Proof Sys2Proof.Machine

/-! ## Small states -/

/-- The state after a command. -/
def after (c : Instr) (s : State) : State :=
  match exec c s with
  | .next t => t
  | .fault _ => s
  | .refused _ => s

/-- The reply waiting on a link: its status, its length and its fields. -/
def replyOn (s : State) (link : Link) : List Byte :=
  match s.port link with
  | .reply bytes _ => bytes
  | .idle | .request _ | .spent => []

/-- A state whose three ports are in REQUEST with nothing received. -/
def listening (s : State) : State :=
  ((s.setPort .order (.request [])).setPort .engine (.request [])).setPort .till (.request [])

/-- The state after power-on, listening. -/
def idle : State := listening State.reset

/-- An order record with an item 0 in item record 0. -/
def anOrder (ticket : Nat) (state : OrderState) : Order :=
  { ticket := ticket, cls := .standard, state := state, eligibleAt := some 0, windowEnded := state != .opened
    started := false, items := [0], bins := [], overflow := 0, faulted := false, paperWait := none, earlyPickup := false
    pickedUp := false, faultUnreported := false, completeUnreported := false, shortageUnreported := false
    requester := .nobody, cancelNotice := false, collectedPartial := false, gross := 0, discount := 0, adjustment := 0
    final := 0 }

/-- An item of size 2, so many copies of it waiting, on web, delivered and written off. -/
def anItem (waiting onWeb delivered writtenOff : Nat) : Item :=
  { handle := 0x01020304#32, ws := 4, hs := 6, sizeIndex := 2, surface := .gloss, mode := .fill
    ordered := waiting + onWeb + delivered + writtenOff, waiting := waiting, onWeb := onWeb, delivered := delivered
    writtenOff := writtenOff, remakesUsed := 0, charged := 0, waived := false, faulted := false }

/-- A small size on 102 mm paper, three lines of two pixels. -/
def aSize : SizeEntry := { enabled := true, wp := 2, lp := 3, paperWidth := 102, group := .small }

/-- A state whose slot 0 holds an order and whose item record 0 its item; a listed order stands in the STANDARD list. -/
def book (o : Order) (i : Item) : State :=
  { idle with
    orderTable := { idle.orderTable with
      orders := [(0, o)], items := [(0, i)], sizes := Table.put idle.orderTable.sizes 2 aSize }
    scheduler := { idle.scheduler with standard := if o.listed then [0] else [] } }

/-- A closed segment without flags. -/
def seg (kind : SegmentKind) (start : Nat) (length : Nat) : Segment :=
  { kind := kind, start := BitVec.ofNat 32 start, length := length, closed := true, suspect := false, split := false
    merged := false, spoiled := false, read := false, preReset := false }

/-- An open segment without flags. -/
def openSeg (kind : SegmentKind) (start : Nat) (length : Nat) : Segment := { seg kind start length with closed := false }

def withMap (s : State) (map : List Segment) (odometer : Nat) : State :=
  { s with web := { s.web with map := map, odometer := BitVec.ofNat 32 odometer, lpath := 120000 } }

/-- 102 mm GLOSS in an active magazine A, 152 mm GLOSS in B, a path length, and the transport running. -/
def running (s : State) : State :=
  { s with
    scheduler := { s.scheduler with
      active := some .a
      magA := { present := true, width := 102, surface := .gloss, remaining := 100000, low := false }
      magB := { present := true, width := 152, surface := .gloss, remaining := 300000, low := false } }
    web := { s.web with transport := .run, lpath := 120000 } }

def aCode : Codes := { c0 := [1, 2], c1 := [3, 4], c2 := [5, 6] }

/-- Lines of the selection or of what is being exposed, by number. -/
def lines (owner : LineOwner) (numbers : List Nat) : List Line :=
  numbers.map fun n => { owner := owner, number := n, kind := .print, codes := aCode }

/-! ## WellFormed refuses what cannot arise -/

theorem test_wf_unknownRequest : (Instr.unknownRequest .order 0x13 2 [0, 5]).wellFormed = false := by decide
theorem test_wf_unknownRequest_length : (Instr.unknownRequest .order 0 2 [0]).wellFormed = false := by decide
theorem test_wf_setMask : (Instr.setMask .order (List.replicate 63 0)).wellFormed = false := by decide
theorem test_wf_rowData : (Instr.rowData 1 []).wellFormed = false := by decide
theorem test_wf_rasterFrameUnreadable : (Instr.rasterFrameUnreadable 0x81 16384).wellFormed = false := by decide
theorem test_wf_accepts : (Instr.rasterFrameUnreadable 0x81 16385).wellFormed = true
    ∧ (Instr.unknownRequest .order 0x13 63 []).wellFormed = true := by decide

/-! ## Frames (R200): requests written out byte by byte -/

theorem test_frame_openOrder : decodeFields .order .openOrder [0x02] = some (.openOrder .order 2)
    ∧ frameBytes RequestCode.openOrder.toByte [0x02] = [0x11, 1, 0x02] := by decide
theorem test_frame_addItem :
    decodeFields .order .addItem [0x00, 0x79, 0, 0, 0x12, 0x34, 0x0B, 0xB8, 0x0F, 0xA0, 2, 1, 1, 3] =
      some (.addItem .order 121 0x1234 3000 4000 2 1 1 3) := by decide
theorem test_frame_patchReading :
    decodeFields .engine .patchReading [0x02, 0x30, 0x02, 0x03, 0x01, 0xFC] = some (.patchReading .engine 560 515 508) := by
  decide
theorem test_frame_setWeb :
    decodeFields .engine .setWeb [0x00, 0x01, 0xD4, 0xC0, 0x00, 0xFA, 0x01, 0xF4, 0x07, 0xD0] =
      some (.setWeb .engine 120000 250 500 2000) := by decide
theorem test_frame_amendSet :
    decodeFields .till .amendSet [0x00, 0xAA, 2, 0xFF, 0xFF, 0xFF, 0x9C] =
      some (.amendSet .till 170 2 (BitVec.ofInt 32 (-100))) := by decide
theorem test_frame_refused : decodeFields .order .submit [1] = none ∧ RequestCode.ofByte? 0x10 = none
    ∧ RequestCode.ofByte? 0x25 = some .cut := by decide

/-! ## Orders (chapters 1 and 11) -/

/-- Section 1.2, the example of ticket assignment across the wrap: its first two requests. -/
def wrapBook : State :=
  { idle with orderTable := { idle.orderTable with
      nextTicket := 9998
      orders := [(0, anOrder 9998 .held), (1, anOrder 1 .held), (2, anOrder 3 .held), (4, anOrder 500 .held)] } }

theorem test_openOrder_ticket : replyOn (after (.openOrder .order 1) wrapBook) .order = [0, 3, 0x27, 0x0F, 3]
    ∧ (after (.openOrder .order 1) wrapBook).orderTable.nextTicket = 1 := by decide +kernel
theorem test_openOrder_wraps :
    replyOn (after (.openOrder .order 2) (listening (after (.openOrder .order 1) wrapBook))) .order = [0, 3, 0, 2, 5] := by
  decide +kernel

theorem test_addItem_clamps :
    replyOn (after (.addItem .order 5 1 3000 4000 2 1 1 120) (book (anOrder 5 .opened) (anItem 2 0 0 0))) .order = [1, 1, 1]
      ∧ ((after (.addItem .order 5 1 3000 4000 2 1 1 120) (book (anOrder 5 .opened) (anItem 2 0 0 0))).orderTable.item?
          0 1).map (fun i => i.waiting) = some 99 := by decide +kernel
theorem test_submit_window :
    replyOn (after (.submit .order 5) (book (anOrder 5 .opened) (anItem 2 0 0 0))) .order = [0, 4, 0, 0, 0x4E, 0x20] := by
  decide +kernel
theorem test_hold : (after (.hold .order 5) (book (anOrder 5 .ready) (anItem 2 0 0 0))).scheduler.standard = []
    ∧ replyOn (after (.hold .order 5) (book (anOrder 5 .ready) (anItem 2 0 0 0))) .order = [0, 1, 4] := by decide +kernel
theorem test_release : (after (.release .order 5) (book (anOrder 5 .held) (anItem 2 0 0 0))).scheduler.standard = [0]
    ∧ replyOn (after (.release .order 5) (book (anOrder 5 .held) (anItem 2 0 0 0))) .order = [0, 1, 2] := by
  decide +kernel

/-- The work of copy 5, its line 802 next. -/
def aWork : Work :=
  { owner := .exposed, nextLine := 802
    job := .print { slot := 0, item := 0, copy := 5, handle := 1, ws := 4, hs := 6, mode := .fill, wp := 2, lp := 1900
                    geometry := geometryOf .fill 4 6 2 1900 } }

/-- The fetch of its next row. -/
def aFetch : Fetch := { tag := 3, handle := 1, level := 0, row := 4, expected := 4 }

/-- Section 11.4: ticket 160, copies 3 and 4 in the map, copy 5 exposed at line 800 of 1,900, a fetch in flight. -/
def cancelBook : State :=
  let s := book { anOrder 160 .inPrint with started := true, bins := [7], gross := 76, final := 76 }
    { anItem 1 3 2 0 with charged := 76 }
  { withMap s [seg (.print 0 0 3) 1 1900, seg (.print 0 0 4) 1901 1900, openSeg (.print 0 0 5) 3801 800] 4600 with
    channel := { s.channel with
      exposure := some { kind := .print, lineCount := 1900, linesExposed := 800, blanked := false, repeatCount := 0
                         previous := aCode }
      queue := lines .exposed [800, 801] }
    sort := { s.sort with bins := Table.put s.sort.bins 7 { Bin.reset with
      state := .filling, count := 2, ticket := some 160, owner := some 0 } }
    resampler := { s.resampler with work := some aWork }
    fetch := { s.fetch with inFlight := some aFetch
                            timer := some 250 } }

theorem test_cancel_sequence :
    let t := after (.cancel .order 160) cancelBook
    replyOn t .order = [0, 1, 2]
      ∧ (t.order? 0).map (fun o => (o.state, o.requester, o.bins, o.gross, o.final)) =
          some (.withdrawn, .orderLink, [], 76, 76)
      ∧ (t.orderTable.item? 0 0).map (fun i => (i.waiting, i.onWeb, i.delivered, i.writtenOff)) = some (0, 3, 2, 1)
      ∧ (Table.get? t.sort.bins 7).map (fun b => (b.state, b.count, b.ticket, b.owner)) = some (.clearance, 2, some 160, none)
      ∧ t.channel.exposure.map (fun e => e.blanked) = some true ∧ t.channel.queue = [] ∧ t.fetch.inFlight = none := by
  decide +kernel
theorem test_cancel_again : replyOn (after (.cancel .till 160) (listening (after (.cancel .order 160) cancelBook))) .till =
    [6, 0] := by decide +kernel
theorem test_collect_withdrawn :
    replyOn (after (.collect .till 160) (listening (after (.cancel .order 160) cancelBook))) .till = [6, 0] := by
  decide +kernel

theorem test_readOrder_unknown : replyOn (after (.readOrder .engine 6) idle) .engine = [5, 0] := by decide +kernel
theorem test_readItem : replyOn (after (.readItem .order 5 1) (book (anOrder 5 .ready) (anItem 1 1 0 0))) .order = [4, 0]
    ∧ (replyOn (after (.readItem .order 5 0) (book (anOrder 5 .ready) (anItem 1 1 0 0))) .order).take 6 =
        [0, 22, 1, 2, 3, 4] := by decide +kernel
theorem test_writeSize_clamps : replyOn (after (.writeSize .order 3 1 5000 0 400 2) idle) .order =
    [1, 8, 1, 0x10, 0x00, 0, 1, 0x01, 0x31, 2] := by decide +kernel
theorem test_writeSize_locked :
    replyOn (after (.writeSize .order 2 1 5 5 102 1) (book (anOrder 5 .ready) (anItem 1 0 0 0))) .order = [8, 0] := by
  decide +kernel
theorem test_readSize : replyOn (after (.readSize .order 15) idle) .order = [0, 8, 0, 0, 1, 0, 1, 0, 89, 1]
    ∧ replyOn (after (.readSize .order 16) idle) .order = [4, 0] := by decide +kernel
theorem test_setWindows : replyOn (after (.setWindows .order 0 255 256) idle) .order = [1, 6, 0, 0, 0, 255, 0, 255] := by
  decide +kernel
theorem test_setRemakeLimit : replyOn (after (.setRemakeLimit .order 4) idle) .order = [1, 1, 3] := by decide +kernel

/-! ## The scheduler and the magazines (chapters 2 and 11) -/

theorem test_loadRoll : replyOn (after (.loadRoll .engine 1 102 1 3000000) idle) .engine =
    [1, 8, 1, 0, 102, 1, 0x00, 0x26, 0x25, 0xA0] := by decide +kernel
theorem test_unloadRoll : (after (.unloadRoll .engine 2) (running idle)).scheduler.magB.present = false
    ∧ replyOn (after (.unloadRoll .engine 3) (running idle)) .engine = [4, 0] := by decide +kernel
theorem test_magazineSwitched :
    let t := after (.magazineSwitched .engine 2) (running idle)
    t.scheduler.active = some .b ∧ t.scheduler.leaderPending = true ∧ t.scheduler.switchPatch = true := by decide +kernel

/-- An attempt is due, one order stands in the STANDARD list. -/
def attemptBook (i : Item) : State :=
  let s := running (book (anOrder 5 .ready) i)
  { s with scheduler := { s.scheduler with attemptCause := true } }

theorem test_selectionAttempt : (after .selectionAttempt (attemptBook (anItem 2 1 0 0))).scheduler.selection =
    some (.print 0 0 2) := by decide +kernel
/-- Section 11.1: the order fits the other magazine only. -/
theorem test_selectionAttempt_switch :
    let s := attemptBook (anItem 2 0 0 0)
    let s := { s with orderTable := { s.orderTable with sizes := Table.put s.orderTable.sizes 2 { aSize with
      paperWidth := 152, lp := 2537 } } }
    (after .selectionAttempt s).scheduler.switchRequested = some .b
      ∧ (after .selectionAttempt s).scheduler.selection = none := by decide +kernel

/-! ## Resampling (sections 3.8 to 3.11) -/

theorem test_geometry_fill : geometryOf .fill 3000 4000 1275 1900 =
    { level := 1, wsN := 1500, hsN := 2000, step := 68985, ox := 5174062, oy := 250 } := by decide +kernel
theorem test_geometry_fit : geometryOf .fit 3000 4000 1275 1900 =
    { level := 1, wsN := 1500, hsN := 2000, step := 77102, ox := -525, oy := -7710900 } := by decide +kernel
theorem test_geometry_clamp : geometryOf .fill 60 80 1275 1900 =
    { level := 0, wsN := 60, hsN := 80, step := 4096, ox := -645120, oy := -1269760 } := by decide +kernel
theorem test_blend : blend 100 200 243 = 195 ∧ blend 120 120 243 = 120 ∧ blend 195 120 14 = 191 ∧ blend 43 57 42 = 45 := by
  decide +kernel
theorem test_codes : exposureCode 195 512 (-6) = 234 ∧ exposureCode 84 767 0 = 1023 ∧ exposureCode 0 256 20 = 530
    ∧ exposureCode 255 512 20 = 20 ∧ exposureCode 252 256 (-10) = 0 := by decide +kernel
theorem test_patchWidth : patchWidth 102 = 1275 ∧ patchWidth 127 = 1587 := by decide +kernel

/-- A patch work of two pixels with D0 at -6. -/
def patchWork : State :=
  { running idle with
    resampler := { idle.resampler with work := some { owner := .selection, job := .patch 2, nextLine := 99 } }
    density := { idle.density with offsets := { c0 := -6, c1 := 0, c2 := 0 } } }

theorem test_lineProduced_patch :
    let t := after .lineProduced patchWork
    t.channel.queue.map (fun l => (l.number, l.codes.c0, l.codes.c1)) = [(99, [506, 506], [512, 512])]
      ∧ t.resampler.work = none := by decide +kernel

/-! ## The raster link (chapters 4 and 10) -/

/-- The selection's work waits for row 1, the fetch not yet sent. -/
def rowBook : State :=
  let s := attemptBook (anItem 2 0 0 0)
  after .selectionAttempt s

/-- Its fetch sent, being sent, and sent with a reply frame being clocked in. -/
def rowFetched : State := after .rowFetch rowBook
def sendingBook : State := rowBook.rasterTick
def receivingBook : State := { rowFetched with fetch := { rowFetched.fetch with link := { phase := .receiving, ready := true } } }
def somePixels : List Pixel := [⟨1, 2, 3⟩, ⟨4, 5, 6⟩]

theorem test_rowFetch :
    let t := after .rowFetch rowBook
    t.fetch.frameSent.map (fun b => b.take 7) = some [0x01, 0, 1, 2, 3, 4, 1] ∧ t.fetch.timer = some 250 := by
  decide +kernel
theorem test_rowData_stale : after (.rowData 9 [⟨1, 2, 3⟩]) rowFetched = rowFetched := by decide +kernel
/-- R205: the fetch that waits is sent before the reply frame is read. -/
theorem test_rowData_after_fetch : after (.rowData 9 [⟨1, 2, 3⟩]) rowBook = rowFetched
    ∧ after (.rasterFrameUnreadable 7 0) rowBook = rowFetched := by decide +kernel
theorem test_rowFault :
    let t := after (.rowFault 0 0) rowBook
    t.fetch.lastFault.map (fun f => (f.cause, f.ticket, f.phase)) = some (.rowFault 15, 5, .beforeStart)
      ∧ (t.order? 0).map (fun o => (o.state, o.faulted)) = some (.complete, true) := by decide +kernel
theorem test_fetchTimeout_early : after .fetchTimeout (after .rowFetch rowBook) = after .rowFetch rowBook := by
  decide +kernel
theorem test_rasterFrameUnreadable : after (.rasterFrameUnreadable 7 0) rowFetched = rowFetched
    ∧ after (.rasterFrameUnreadable 0x82 9) rowBook = rowBook := by decide +kernel
/-- R205: the bytes of reply frames. -/
theorem test_replyFrames : decodeReplyFrame [0x81, 3, 0, 1, 10, 20, 30] = some (.rowData 3 [⟨10, 20, 30⟩])
    ∧ decodeReplyFrame [0x82, 3, 0, 7] = some (.rowFault 3 7)
    ∧ decodeReplyFrame [0x81, 3, 0x40, 0x01] = some (.rasterFrameUnreadable 0x81 16385) := by decide +kernel
theorem test_rasterTick_sends : sendingBook.fetch.link.phase = .sending [0x01, 0, 1, 2, 3, 4, 1, 0, 0] := by decide +kernel
/-- R205: a reset sends a frame begun whole, and cuts off a reply frame. -/
theorem test_warmReset_link :
    let t := after .warmReset sendingBook
    t.fetch.inFlight = none ∧ (after .rowFetch t).fetch.frameSent = some [0x01, 0, 1, 2, 3, 4, 1, 0, 0]
      ∧ (after .rowFetch t).fetch.timer = none ∧ (after .warmReset receivingBook).fetch.link.phase = .idle := by decide +kernel

/-! ## The strobe, the heads and the stall monitor (chapters 4 and 6) -/

/-- Section 4.7: a print selected, so many of its lines queued, nothing exposed. -/
def startBook (queued : List Nat) (ended : Bool) : State :=
  let s := running (book (anOrder 5 .ready) (anItem 2 0 0 0))
  { s with
    scheduler := { s.scheduler with selection := some (.print 0 0 1) }
    channel := { s.channel with queue := lines .selection queued, lastStrobeEnded := ended } }

theorem test_strobe_waits_for_lines : (after .lineStrobe (startBook [0, 1] false)).scheduler.selection = some (.print 0 0 1)
    ∧ (after .lineStrobe (startBook [0, 1] false)).web.map = [openSeg .blank 1 1] := by decide +kernel
theorem test_strobe_begins :
    let t := after .lineStrobe (startBook [0, 1, 2] false)
    t.web.map = [openSeg (.print 0 0 1) 1 1] ∧ t.channel.heads = aCode ∧ t.scheduler.magA.remaining = 99999
      ∧ (t.order? 0).map (fun o => (o.state, o.started)) = some (.inPrint, true) ∧ t.scheduler.patchCounter = 1 := by
  decide +kernel

/-- A print of three lines being exposed, one of them exposed. -/
def exposeBook (queue : List Line) (blanked : Bool) (repeats : Nat) : State :=
  let s := withMap (running (book { anOrder 5 .inPrint with started := true } (anItem 1 1 0 0)))
    [openSeg (.print 0 0 1) 1 1] 1
  { s with channel := { s.channel with
      queue := queue
      exposure := some { kind := .print, lineCount := 3, linesExposed := 1, blanked := blanked, repeatCount := repeats
                         previous := aCode } } }

theorem test_headFault : (after (.headFault .engine 1) (exposeBook [] false 0)).channel.enabled = ⟨true, false, true⟩
    ∧ (after (.headFault .engine 1) (exposeBook [] false 0)).web.map = [{ openSeg (.print 0 0 1) 1 1 with suspect := true }] := by
  decide +kernel
theorem test_headReady : (after (.headReady .engine 1) (listening (after (.headFault .engine 1) idle))).channel.enabled =
    ⟨true, true, true⟩ := by decide +kernel
theorem test_transport_run : (after (.transport .engine 1) (withMap idle [seg .blank 1 5] 5)).web.stage = .first 2000 := by
  decide +kernel

/-- The stall monitor in a stage whose time is reached. -/
def stalled (stage : StallStage) : State :=
  let s := exposeBook [] false 0
  { s with web := { s.web with stage := stage } }

theorem test_stallFirstExpiry : (after .stallFirstExpiry (stalled (.first 0))).web.stage = .second 2000
    ∧ (after .stallFirstExpiry (stalled (.first 0))).web.stall = true := by decide +kernel
theorem test_stallSecondExpiry :
    let t := after .stallSecondExpiry (stalled (.second 0))
    t.web.fault = some .stall ∧ t.web.map = [{ seg (.print 0 0 1) 1 1 with spoiled := true }] ∧ t.channel.exposure = none := by
  decide +kernel

/-! ## The cutter (sections 6.5 and 10.6, 11.3) -/

/-- Section 6.5: the map before its second strobe, ticket 30 in slot 0 and ticket 41 in slot 1. -/
def missedBook (map : List Segment) (odometer : Nat) (onWeb delivered : Nat) : State :=
  let s := book { anOrder 30 .inPrint with started := true } (anItem 0 onWeb delivered 0)
  withMap { s with orderTable := { s.orderTable with
      orders := [(0, { anOrder 30 .inPrint with started := true }),
                 (1, { anOrder 41 .inPrint with started := true, items := [1] })]
      items := [(0, anItem 0 onWeb delivered 0), (1, anItem 0 1 0 0)] } }
    map odometer

def s1 : Segment := seg (.print 0 0 1) 5000000 1900
def s2 : Segment := seg (.print 0 0 2) 5001900 1900
def s3 : Segment := { seg .patch 5003800 100 with read := true }
def s4 : Segment := seg (.print 1 0 1) 5003900 1900

theorem test_cut_delivers :
    let t := after (.cut .engine) (missedBook [s1, s2, s3, s4] 5121890 2 0)
    t.web.lastCut = some { outcome := .matched, destination := 1, piece := .single (.print 0 0 1), odometer := 5121890
                           deviation := some (-10), ticket := 30, fate := .delivered, remade := 0, writtenOff := 0 }
      ∧ (t.orderTable.item? 0 0).map (fun i => (i.waiting, i.onWeb, i.delivered, i.writtenOff)) = some (0, 1, 1, 0) := by
  decide +kernel
theorem test_cut_merged_group :
    let t := after (.cut .engine) (missedBook [{ s2 with merged := true }, s3, s4] 5123903 1 1)
    t.web.lastCut = some { outcome := .matched, destination := 0, piece := .group 2, odometer := 5123903
                           deviation := some 3, ticket := 0, fate := .nothing, remade := 1, writtenOff := 0 }
      ∧ (t.orderTable.item? 0 0).map (fun i => (i.waiting, i.onWeb, i.delivered, i.writtenOff)) = some (1, 0, 1, 0)
      ∧ t.density.patchUnread = false ∧ t.web.map = [s4] := by decide +kernel
theorem test_cut_early :
    let t := after (.cut .engine) (missedBook [s4] 5125000 0 2)
    t.web.map = [{ s4 with split := true }]
      ∧ t.web.lastCut.map (fun r => (r.outcome, r.piece, r.deviation)) = some (.early, .nothing, some (-800)) := by
  decide +kernel
theorem test_strobe_missed_cut :
    (after .lineStrobe (missedBook [s2, s3, s4] 5123825 1 1)).web.map.map (fun g => g.merged) = [true, false, false, false] := by
  decide +kernel
theorem test_webCleared : replyOn (after (.webCleared .engine) (missedBook [s1, s2, s3, s4] 5121890 2 0)) .engine =
    [0, 3, 4, 3, 0] := by decide +kernel
theorem test_warmReset :
    let t := after .warmReset (missedBook [s1, s2, s3, s4] 5121890 2 0)
    t.web.map = [] ∧ t.price.totals.remakesMade = 3 ∧ t.price.totals.printsRejected = 0
      ∧ t.port .engine = .request [] := by decide +kernel

/-! ## Density (chapters 5 and 11) -/

/-- Section 11.2: the map before the reading, the offsets at -4, 2 and 0. -/
def readingBook : State :=
  let s := missedBook [seg .patch 100 100, seg (.print 0 0 3) 200 1900, seg (.print 0 0 4) 2100 1900,
    openSeg (.print 1 0 1) 4000 800] 4800 2 2
  { s with density := { s.density with offsets := { c0 := -4, c1 := 2, c2 := 0 } } }

theorem test_patchReading_sequence :
    let t := after (.patchReading .engine 560 515 508) readingBook
    t.density.offsets = { c0 := -16, c1 := 2, c2 := 1 }
      ∧ t.density.lastReading.map (fun r => (r.cls, r.errors, r.marked)) =
          some (.outOfTolerance, { c0 := -48, c1 := -3, c2 := 4 }, 3)
      ∧ t.web.map.map (fun g => (g.read, g.suspect)) = [(true, false), (false, true), (false, true), (false, true)] := by
  decide +kernel
/-- Section 5.10: the clamp. -/
theorem test_patchReading_clamp :
    let s := { readingBook with density := { readingBook.density with offsets := { c0 := 0, c1 := 250, c2 := 0 }, a := 15 } }
    (after (.patchReading .engine 507 482 507) s).density.offsets = { c0 := 4, c1 := 255, c2 := 4 } := by decide +kernel
theorem test_densityReset :
    let t := after (.densityReset .engine) readingBook
    t.density.offsets = { c0 := 0, c1 := 0, c2 := 0 } ∧ t.scheduler.resetPatch = true
      ∧ t.web.map.map (fun g => g.preReset) = [true, false, false, false] := by decide +kernel
theorem test_setDensity : replyOn (after (.setDensity .engine 25 512 512 1024 4 24 2 512 255 767) idle) .engine =
    [1, 18, 0, 25, 2, 0, 2, 0, 3, 255, 4, 0, 24, 2, 2, 0, 1, 0, 2, 255] := by decide +kernel
theorem test_setWeb : replyOn (after (.setWeb .engine 999 250 500 2000) idle) .engine =
    [1, 10, 0, 0, 0x03, 0xE8, 0, 250, 1, 0xF4, 7, 0xD0] := by decide +kernel
theorem test_readWeb_length : (replyOn (after (.readWeb .engine 0 1) readingBook) .engine).take 2 = [0, 21] := by
  decide +kernel
/-- A BLANK joined from a stretch of 5,000,000,000 WU: its length bytes are a free value (log entry 3). -/
theorem test_readWeb_joined_length :
    ((replyOn (after (.readWeb .engine 0 0) (withMap idle [seg .blank 1 5000000000] 5)) .engine).drop 45).take 4 =
      be32 (Config.freeWord 3) := rfl
theorem test_readMagazine : (replyOn (after (.readMagazine .engine) (running idle)) .engine).take 10 =
    [0, 21, 1, 0, 102, 1, 0, 1, 0x86, 0xA0] := by decide +kernel

/-! ## Sorting (chapter 7) -/

/-- A bin of the order in slot 0. -/
def binBook (state : BinState) (count : Nat) : State :=
  let s := book { anOrder 31 .complete with bins := [6] } (anItem 0 0 2 0)
  { s with sort := { s.sort with bins := Table.put s.sort.bins 6 { Bin.reset with
      state := state, count := count, ticket := some 31, owner := some 0
      timer := if state = .waiting then some 0 else none } } }

theorem test_binEmptied_waiting :
    let t := after (.binEmptied .engine 6) (binBook .waiting 2)
    replyOn t .engine = [0, 1, 1] ∧ (t.order? 0).map (fun o => (o.bins, o.pickedUp)) = some ([], true) := by decide +kernel
theorem test_binEmptied_full : replyOn (after (.binEmptied .engine 6) (binBook .full 50)) .engine = [0, 1, 2]
    ∧ ((after (.binEmptied .engine 6) (binBook .full 50)).order? 0).map (fun o => o.earlyPickup) = some false := by
  decide +kernel
theorem test_trayEmptied : (after (.trayEmptied .engine) { idle with sort := { idle.sort with trayCount := 9 } }).sort.trayCount =
    0 := by decide +kernel
theorem test_setBin : replyOn (after (.setBin .engine 20 1 0) idle) .engine = [1, 3, 20, 1, 1]
    ∧ replyOn (after (.setBin .engine 6 1 5) (binBook .full 50)) .engine = [6, 0] := by decide +kernel
theorem test_readBin : (replyOn (after (.readBin .till 6) (binBook .waiting 2)) .till).take 2 = [0, 16] := by decide +kernel
theorem test_uncollectedExpiry :
    ((Table.get? (after (.uncollectedExpiry 5) (binBook .waiting 2)).sort.bins 6).map fun b => (b.timer, b.uncollected)) =
      some (none, true) := by decide +kernel
theorem test_setUncollectedTime : replyOn (after (.setUncollectedTime .till 1441) idle) .till = [1, 2, 0x05, 0xA0] := by
  decide +kernel

/-! ## The till (chapters 8, 9 and 11) -/

/-- Section 8.9: ticket 88, item 0 with 4 copies delivered, item 1 with one delivered and two waiting. -/
def ticket88 : State :=
  let s := book { anOrder 88 .inPrint with items := [0, 1], gross := 195, final := 195 } (anItem 0 0 4 0)
  { s with
    orderTable := { s.orderTable with items :=
      [(0, { anItem 0 0 4 0 with charged := 152 }), (1, { anItem 2 0 1 0 with charged := 43, surface := .matt })] }
    price := { s.price with
      tariff := Table.put s.price.tariff 2 { n1 := 5, n2 := 20, p1 := 45, p2 := 38, p3 := 30 }
      surcharges := { gloss := 0, matt := 5, lustre := 8 } } }

theorem test_unitPrice : ticket88.unitPrice 0 (anItem 0 0 4 0) = 38
    ∧ ticket88.unitPrice 0 { anItem 2 0 1 0 with surface := .matt } = 43 := by decide +kernel

/-- The amendment of section 8.9 with so much of it staged. -/
def staged (s : State) (adjustment : Int) (waive : BitVec 24) : State :=
  { s with price := { s.price with
      amendment := some { ticket := 88, slot := 0, discount := 10, adjustment := adjustment, waive := waive } } }

theorem test_amendOpen : replyOn (after (.amendOpen .till 88) ticket88) .till =
    [0, 14, 0, 0, 0, 0, 0, 0, 0, 0, 195, 0, 0, 0, 195, 2] := by decide +kernel
theorem test_amendSet_waive : (replyOn (after (.amendSet .till 88 3 1) (staged ticket88 (-50) 0)) .till).drop 10 =
    [0, 0, 0, 87] := by decide +kernel
theorem test_amendCommit :
    let s := staged ticket88 (-50) 2
    let s := { s with orderTable := { s.orderTable with
      orders := [(0, { anOrder 88 .inPrint with items := [0, 1], gross := 238, final := 238 })]
      items := [(0, { anItem 0 0 4 0 with charged := 152 }), (1, { anItem 1 0 2 0 with charged := 86 })] } }
    replyOn (after (.amendCommit .till 88) s) .till = [0, 12, 0, 0, 0, 86, 0, 0, 0, 152, 0, 0, 0, 87] := by decide +kernel
theorem test_amendDrop : replyOn (after (.amendDrop .till 88) (staged ticket88 (-50) 2)) .till =
    [0, 8, 0, 0, 0, 195, 0, 0, 0, 195] := by decide +kernel
theorem test_collect :
    let s := book { anOrder 88 .complete with gross := 152, final := 87 } (anItem 0 0 4 0)
    (after (.collect .till 88) s).price.totals.takings = 87 ∧ (after (.collect .till 88) s).orderTable.orders = [] := by
  decide +kernel
theorem test_collectPartial_locked : replyOn (after (.collectPartial .till 88) (staged ticket88 (-50) 2)) .till = [8, 0] := by
  decide +kernel
theorem test_readPrice : replyOn (after (.readPrice .till 88 9) ticket88) .till = [4, 0]
    ∧ (replyOn (after (.readPrice .till 88 1) ticket88) .till).take 2 = [0, 30] := by decide +kernel
theorem test_writeTariff : replyOn (after (.writeTariff .till 1 2 5 4 45 38 30) idle) .till = [4, 0]
    ∧ replyOn (after (.writeTariff .till 2 99 0 5 8 0 0) idle) .till = [0, 0] := by decide +kernel
theorem test_lockTariff : replyOn (after (.writeTariff .till 1 2 5 20 45 38 30) (listening (after (.lockTariff .till) idle)))
    .till = [8, 0] := by decide +kernel
theorem test_closeDay : replyOn (after (.closeDay .till) idle) .till = [0, 2, 0, 1]
    ∧ replyOn (after (.closeDay .till) (listening (after (.closeDay .till) idle))) .till = [9, 0] := by decide +kernel
theorem test_readClosedDay : (after (.readClosedDay .till) (listening (after (.closeDay .till) idle))).price.closedDay.read =
    true := by decide +kernel
theorem test_readTotals : replyOn (after (.readTotals .till) idle) .till =
    [0, 19, 0, 0, 0, 0, 0, 0, 0, 0, 0, 0, 0, 0, 0, 0, 4, 0, 0, 0, 0] := by decide +kernel

/-- Sections 9.6 and 10.5: the till link's flags, but for ticket 70's slot and its item. -/
def attentionBook : State :=
  { idle with
    orderTable := { idle.orderTable with orders :=
      [(1, { anOrder 55 .complete with items := [], overflow := 2, shortageUnreported := true, completeUnreported := true }),
       (2, { anOrder 40 .complete with items := [], completeUnreported := true }),
       (5, { anOrder 70 .withdrawn with items := [], cancelNotice := true, requester := .tillLink })] }
    sort := { idle.sort with bins := Table.put idle.sort.bins 6 { Bin.reset with
      state := .waiting, count := 2, ticket := some 31, owner := some 3, uncollected := true } } }

theorem test_readAttention_shortage : replyOn (after (.readAttention .till) attentionBook) .till =
    [0, 10, 1, 0, 55, 1, 2, 0, 0, 0, 0x0E, 0] := by decide +kernel
theorem test_readAttention_uncollected :
    replyOn (after (.readAttention .till) (listening (after (.readAttention .till) attentionBook))) .till =
      [0, 10, 2, 6, 0, 31, 0, 0, 0, 1, 0x0E, 0] := by decide +kernel
theorem test_setMask :
    let t := after (.setMask .till [0, 1, 0, 0]) (listening (after (.readAttention .till) attentionBook))
    replyOn t .till = [0, 2, 2, 1]
      ∧ replyOn (after (.readAttention .till) (listening t)) .till = [0, 10, 3, 0, 55, 1, 0, 0, 0, 1, 0x0C, 2] := by
  decide +kernel

/-! ## Ports, timers and resets -/

theorem test_selectAsserted : (after (.selectAsserted .till) State.reset).port .till = .request [] := by decide +kernel
theorem test_selectReleased : (after (.selectReleased .till) (State.reset.setPort .till (.request [1]))).port .till = .idle := by
  decide +kernel
theorem test_unknownRequest : replyOn (after (.unknownRequest .till 0 1 [7]) idle) .till = [2, 0]
    ∧ replyOn (after (.unknownRequest .till 0x4C 63 []) idle) .till = [4, 0] := by decide +kernel
theorem test_linkByteComplete :
    replyOn (after (.linkByteComplete .till 0) (after (.linkByteComplete .till 0x4A) idle)) .till = [0, 2, 0, 1]
      ∧ (after (.linkByteComplete .till 0) (State.reset.setPort .till (.reply [5, 0] 1))).port .till = .spent := by
  decide +kernel
theorem test_linkByteComplete_other_link :
    replyOn (after (.linkByteComplete .order 0) (after (.linkByteComplete .order 0x4A) idle)) .order = [3, 0] := by
  decide +kernel
theorem test_windowExpiry :
    let o := { anOrder 5 .ready with windowEnded := false }
    (after (.windowExpiry 0) (book o (anItem 1 0 0 0))).scheduler.standard = [0]
      ∧ (after (.windowExpiry 0) (book { o with eligibleAt := some 1 } (anItem 1 0 0 0))).scheduler.standard = [] := by
  decide +kernel
theorem test_timeBaseTick_wraps : (after .timeBaseTick { idle with timeBase := 0xFFFFFFFF }).timeBase = 0 := by decide +kernel
theorem test_powerOnReset : after .powerOnReset cancelBook = State.reset := by decide +kernel
theorem test_step_empty_queue : step State.reset = .next State.reset.rasterTick
    ∧ step { idle with pending := [.timeBaseTick, .cut .engine] } =
        .next { idle with timeBase := 1, pending := [.cut .engine] } := ⟨rfl, rfl⟩

/-! ## Witnesses: for every statement with hypotheses, states and operands that meet them, each clause at a boundary -/

theorem taking {s : State} {link : Link} {code : RequestCode} {fields : List Byte} (h : s.port link = .request []) :
    Taking s link code fields := by
  simp [Taking, State.receiving, h, frameBytes]

/-- A book with an open order and one with a READY order, ticket 5, a copy of its item waiting. -/
def openBook : State := book (anOrder 5 .opened) (anItem 2 0 0 0)
def readyBook : State := book (anOrder 5 .ready) (anItem 2 0 0 0)

theorem names_book (state : OrderState) (i : Item) : Names (book (anOrder 5 state) i) 5 0 (anOrder 5 state) :=
  ⟨by decide, by decide, rfl, rfl⟩

theorem test_witness_StepRunsFrontCommand :
    ({ idle with pending := [.timeBaseTick] } : State).pending = .timeBaseTick :: []
      -- idle with no fetch, with one that waits and with one sent; a frame being sent and one being clocked in
      ∧ (idle.pending = [] ∧ idle.fetch.link.phase = .idle ∧ idle.fetch.inFlight = none)
      ∧ (rowBook.pending = [] ∧ rowBook.fetch.link.phase = .idle ∧ rowBook.fetch.inFlight.isSome = true
          ∧ rowBook.fetch.timer = none)
      ∧ (rowFetched.pending = [] ∧ rowFetched.fetch.link.phase = .idle ∧ rowFetched.fetch.timer.isSome = true)
      ∧ sendingBook.fetch.link.phase ≠ .idle ∧ receivingBook.fetch.link.phase ≠ .idle := by decide +kernel

/-- Each PRINT of some segments is counted on web, as a test. -/
theorem copiesOnWeb_of {segs : List Segment} {s : State}
    (h : (segs.all fun g => match g.kind with
      | .print slot n _ => ((s.order? slot).bind fun o => (o.items[n]?).bind (Table.get? s.orderTable.items)).any fun i =>
          decide (segs.countP (Segment.isPrintOf slot n) ≤ i.onWeb)
      | .patch | .leader | .blank => true) = true) : CopiesOnWeb segs s := by
  intro g hg slot n copy hk
  have h1 := List.all_eq_true.mp h g hg
  simp only [hk, Option.any_eq_true, Option.bind_eq_some_iff, decide_eq_true_eq] at h1
  obtain ⟨i, ⟨o, ho, r, hr, hi⟩, hc⟩ := h1
  exact ⟨o, r, i, ho, hr, hi, hc⟩

def clearBook : State := missedBook [s1, s2, s3, s4] 5121890 2 0

theorem clearBook_ok : PoolAndGross clearBook ∧ CopiesOnWeb clearBook.web.map clearBook :=
  ⟨by unfold PoolAndGross; decide +kernel, copiesOnWeb_of (by decide +kernel)⟩

theorem test_witness_WarmResetFlushesAndKeeps :
    (∀ g ∈ (withMap idle [seg .patch 1 100] 9).web.map, g.isPrint = false)
      ∧ (PoolAndGross clearBook ∧ CopiesOnWeb clearBook.web.map clearBook)
      ∧ receivingBook.fetch.link.phase = .receiving ∧ sendingBook.fetch.link.phase ≠ .receiving :=
  ⟨by decide, clearBook_ok, rfl, by decide +kernel⟩

/-- A READY order in its list, an amendment open, a bin waiting, a segment in the map and a stall monitor running, before a
strobe. -/
def busy : State :=
  let s := running (book { anOrder 5 .ready with bins := [6], gross := 38, final := 38 }
    { anItem 1 1 1 0 with charged := 38 })
  { s with
    web := { s.web with map := [seg (.print 0 0 1) 5 3], odometer := 7, stage := .first 2000 }
    sort := { s.sort with bins := Table.put s.sort.bins 6 { Bin.reset with
      state := .filling, count := 2, ticket := some 5, owner := some 0 } }
    pending := [.lineStrobe] }

theorem busy_steps : ∃ t, step busy = .next t := ⟨_, rfl⟩

/-- A READY order whose selected print is about to begin. -/
def beginning : State := { startBook [0, 1, 2] false with pending := [.lineStrobe] }

theorem order?_one {s : State} {o p : Order} {slot : Nat} (h : s.orderTable.orders = [(0, o)]) (hp : s.order? slot = some p) :
    slot = 0 ∧ p = o := by
  have hp : Table.get? s.orderTable.orders slot = some p := hp
  rw [h, Laws.get?_cons] at hp
  split at hp
  · exact ⟨by omega, (Option.some.inj hp).symm⟩
  · cases hp

/-- The class lists agree where slot 0 holds the one order, with nothing selected but a print of it. -/
theorem listsAgree_one {s : State} {o : Order} (h : s.orderTable.orders = [(0, o)])
    (hl : ∀ c, s.scheduler.classList c = if o.cls = c ∧ o.listed = true then [0] else [])
    (ho : (o.state = .opened → o.windowEnded = false ∧ o.eligibleAt = none) ∧ (o.started = true → o.windowEnded = true)
      ∧ (o.state = .inPrint → o.started = true) ∧ (o.cancelNotice = true → o.state = .withdrawn))
    (hs : ∀ slot n copy, s.scheduler.selection = some (.print slot n copy) → slot = 0 ∧ o.listed = true
      ∧ ((o.items[n]?).bind (Table.get? s.orderTable.items)).any (fun i => i.waiting != 0) = true) : ListsAgree s := by
  have h0 : s.order? 0 = some o := by unfold State.order?; rw [h]; rfl
  refine ⟨fun c => ?_, fun c slot => ⟨fun hm => ?_, fun ⟨p, hp, hc, hl'⟩ => ?_⟩, by rw [h]; simp, fun slot p hp => ?_,
    fun slot n copy hsel => ?_⟩
  · rw [hl]; split <;> simp
  · rw [hl] at hm
    split at hm
    · rename_i hc
      obtain rfl := List.mem_singleton.mp hm
      exact ⟨o, h0, hc.1, hc.2⟩
    · cases hm
  · obtain ⟨rfl, rfl⟩ := order?_one h hp
    rw [hl, if_pos ⟨hc, hl'⟩]; simp
  · obtain ⟨rfl, rfl⟩ := order?_one h hp
    exact ho
  · obtain ⟨rfl, hlist, hw⟩ := hs slot n copy hsel
    simp only [Option.any_eq_true, Option.bind_eq_some_iff, bne_iff_ne] at hw
    obtain ⟨i, ⟨r, hr, hi⟩, hw⟩ := hw
    exact ⟨o, r, i, h0, hlist, hr, hi, hw⟩

/-- The copies of the one order's one item are counted. -/
theorem copiesCounted_one {s : State} {o : Order} {i : Item} (h : s.orderTable.orders = [(0, o)]) (hr : o.items = [0])
    (hi : s.orderTable.items = [(0, i)])
    (hc : i.onWeb = s.web.map.countP (Segment.isPrintOf 0 0)
      ∧ (o.state = .opened ∨ o.state = .complete ∨ o.cancelNotice = true → i.onWeb = 0) ∧ (o.state = .complete → i.waiting = 0))
    (hm : ∀ g ∈ s.web.map, g.isPrint = false ∨ Segment.isPrintOf 0 0 g = true) : CopiesCounted s := by
  refine ⟨fun slot p n r j hp hn hj => ?_, fun g hg slot n copy hk => ?_⟩
  · obtain ⟨rfl, rfl⟩ := order?_one h hp
    rw [hr] at hn
    match n, hn with
    | 0, hn => cases hn; rw [hi] at hj; cases hj; exact hc
  · rcases hm g hg with h1 | h1
    · rw [Segment.isPrint, hk] at h1; cases h1
    · rw [Segment.isPrintOf, hk] at h1
      simp only [Bool.and_eq_true, beq_iff_eq] at h1
      obtain ⟨rfl, rfl⟩ := h1
      exact ⟨o, by unfold State.order?; rw [h]; rfl, by rw [hr]; decide⟩

/-- The bin table agrees with the one order's list. -/
theorem binsAgree_one {s : State} {o : Order} (h : s.orderTable.orders = [(0, o)])
    (hb : s.sort.bins.all (fun q => q.2.owner.all fun k => k == 0 && q.2.ticket == some o.ticket && o.bins.contains q.1) = true)
    (ho : o.bins.length ≤ 4 ∧ o.bins.Nodup ∧ (o.state = .opened ∨ o.state = .withdrawn → o.bins = []))
    (hl : o.bins.all (fun n => (Table.get? s.sort.bins n).any fun b => b.owner == some 0
      && (b.state == .filling || b.state == .full || b.state == .waiting)) = true) : BinsAgree s := by
  refine ⟨fun n b slot hn hs => ?_, fun slot p hp => ?_⟩
  · have := List.all_eq_true.mp hb _ (Laws.mem_of_get? hn)
    simp only [hs, Option.all_some, Bool.and_eq_true, beq_iff_eq, List.contains_iff_mem] at this
    obtain ⟨⟨rfl, ht⟩, hm⟩ := this
    exact ⟨o, by unfold State.order?; rw [h]; rfl, ht, hm⟩
  · obtain ⟨rfl, rfl⟩ := order?_one h hp
    refine ⟨ho.1, ho.2.1, fun n hn => ?_, ho.2.2⟩
    have := List.all_eq_true.mp hl n hn
    simp only [Option.any_eq_true, Bool.and_eq_true, Bool.or_eq_true, beq_iff_eq, or_assoc] at this
    exact this

theorem busy_agrees : ListsAgree busy ∧ PoolAndGross busy ∧ CopiesCounted busy :=
  ⟨listsAgree_one (o := { anOrder 5 .ready with bins := [6], gross := 38, final := 38 }) rfl
      (fun c => by cases c <;> decide +kernel) (by decide +kernel) (fun _ _ _ h => by cases h),
    by unfold PoolAndGross; decide +kernel,
    copiesCounted_one (o := { anOrder 5 .ready with bins := [6], gross := 38, final := 38 })
      (i := { anItem 1 1 1 0 with charged := 38 }) rfl rfl rfl (by decide +kernel) (by decide +kernel)⟩

theorem beginning_agrees : ListsAgree beginning ∧ PoolAndGross beginning ∧ CopiesCounted beginning :=
  ⟨listsAgree_one (o := anOrder 5 .ready) rfl (fun c => by cases c <;> decide +kernel) (by decide +kernel) (fun slot n copy h => by
      have h : some (Selection.print 0 0 1) = some (.print slot n copy) := h
      cases h
      exact ⟨rfl, rfl, by decide⟩),
    by unfold PoolAndGross; decide +kernel,
    copiesCounted_one (o := anOrder 5 .ready) (i := anItem 2 0 0 0) rfl rfl rfl (by decide +kernel) (by decide +kernel)⟩

theorem test_witness_EveryStepKeepsCopyAccounts : AccountsHold busy
    ∧ (CopiesCounted busy ∧ ListsAgree busy ∧ PoolAndGross busy) ∧ (∃ g ∈ busy.web.map, g.isPrint = true)
    ∧ ∃ t, step busy = .next t :=
  ⟨by unfold AccountsHold; decide +kernel, ⟨busy_agrees.2.2, busy_agrees.1, busy_agrees.2.1⟩, by decide +kernel, busy_steps⟩
theorem test_witness_EveryStepKeepsClassLists :
    (ListsAgree beginning ∧ PoolAndGross beginning) ∧ beginning.scheduler.selection = some (.print 0 0 1)
      ∧ ∃ t, step beginning = .next t :=
  ⟨⟨beginning_agrees.1, beginning_agrees.2.1⟩, rfl, ⟨_, rfl⟩⟩
theorem test_witness_EveryStepKeepsWebShape : WebShape busy ∧ ∃ t, step busy = .next t :=
  ⟨by unfold WebShape; decide +kernel, busy_steps⟩
theorem test_witness_EveryStepKeepsStallStages : StallAgrees busy ∧ ∃ t, step busy = .next t :=
  ⟨⟨⟨by decide +kernel, by rintro (⟨t, h⟩ | h) <;> cases h⟩, by decide +kernel⟩, busy_steps⟩
theorem test_witness_EveryStepKeepsBins :
    (BinsAgree busy ∧ BinsOk busy ∧ ListsAgree busy ∧ PoolAndGross busy ∧ CopiesCounted busy)
      ∧ (∃ o, busy.order? 0 = some o ∧ o.bins = [6]) ∧ ∃ t, step busy = .next t :=
  ⟨⟨binsAgree_one (o := { anOrder 5 .ready with bins := [6], gross := 38, final := 38 }) rfl (by decide +kernel)
      (by decide +kernel) (by decide +kernel), by unfold BinsOk Bin.ok; decide +kernel, busy_agrees⟩, ⟨_, rfl, rfl⟩, busy_steps⟩
theorem test_witness_EveryStepKeepsMagazinesAndSettings :
    (MagazinesOk busy ∧ SettingsInRange busy) ∧ ∃ t, step busy = .next t :=
  ⟨by unfold MagazinesOk SettingsInRange MagazineRecord.ok; decide +kernel, busy_steps⟩
theorem test_witness_EveryStepKeepsPorts : PortsOk busy ∧ ∃ t, step busy = .next t :=
  ⟨fun link => by cases link <;> exact ⟨⟨by decide, by decide⟩, by decide⟩, busy_steps⟩
theorem test_witness_EveryStepKeepsTickets : TicketsOk busy ∧ ∃ t, step busy = .next t :=
  ⟨by unfold TicketsOk; decide +kernel, busy_steps⟩
theorem test_witness_EveryStepKeepsPoolAndGross : PoolAndGross busy ∧ ∃ t, step busy = .next t :=
  ⟨by unfold PoolAndGross; decide +kernel, busy_steps⟩

theorem test_witness_RequestFieldsRoundTrip :
    (Instr.submit .order 9999).request = some (.order, .submit, [0x27, 0x0F])
      ∧ (Instr.setMask .engine (List.replicate 7 1)).request = some (.engine, .setMask, List.replicate 7 1) := by decide

theorem test_witness_LastByteTakesRequest :
    (Instr.submit .order 5).request = some (.order, .submit, [0, 5]) ∧ (Instr.submit .order 5).wellFormed = true
      ∧ (idle.setPort .order (.request [0x13, 2, 0])).port .order = .request [0x13, 2, 0]
      ∧ [0x13, 2, 0] ++ [5] = frameBytes RequestCode.submit.toByte [0, 5] := by decide +kernel

theorem test_witness_RefusedRequestsChangeNothing :
    (Instr.submit .order 5).request = some (.order, .submit, [0, 5]) ∧ Taking idle .order .submit [0, 5]
      ∧ exec (.submit .order 5) idle = .next (after (.submit .order 5) idle)
      ∧ Replied (after (.submit .order 5) idle) .order .noOrder [] :=
  ⟨by decide, taking rfl, rfl, by unfold Replied; decide +kernel⟩

theorem test_witness_RepliesHaveTheTablesLength :
    (Instr.readTotals .till).request = some (.till, .readTotals, []) ∧ Taking idle .till .readTotals []
      ∧ exec (.readTotals .till) idle = .next (after (.readTotals .till) idle)
      ∧ Replied (after (.readTotals .till) idle) .till .ok ((replyOn (after (.readTotals .till) idle) .till).drop 2) :=
  ⟨by decide, taking rfl, rfl, by unfold Replied; decide +kernel⟩

theorem test_witness_PortPhasesAndTests :
    State.reset.port .order = .idle ∧ idle.port .order = .request [] ∧ frameComplete ([] ++ [0x13]) = false
      ∧ (idle.setPort .order (.reply [5, 0] 1)).port .order = .reply [5, 0] 1
      ∧ (idle.setPort .order .spent).port .order = .spent
      -- a length of 63, one of 62 with an unknown code, a request of another link, a wrong length
      ∧ frameComplete [0x13, 63] = true
      ∧ (63#8).toNat > 62 ∧ frameComplete (0x10 :: 62 :: List.replicate 62 0) = true ∧ (62#8).toNat ≤ 62
      ∧ RequestCode.ofByte? 0x10 = none
      ∧ frameComplete [0x25, 0] = true ∧ RequestCode.ofByte? 0x25 = some .cut ∧ RequestCode.cut.belongs .order = false
      ∧ frameComplete [0x13, 1, 0] = true ∧ RequestCode.ofByte? 0x13 = some .submit
      ∧ RequestCode.submit.belongs .order = true ∧ (1#8).toNat ≠ RequestCode.submit.fieldLength .order
      ∧ (Instr.cut .order).request = some (.order, .cut, []) ∧ Taking idle .order .cut []
      ∧ unknownFrame 0x10 62 (List.replicate 62 0) = true ∧ unknownFrame 0x13 63 [] = true
      ∧ idle.receiving .order (0x10 :: 62 :: List.replicate 62 0) = true ∧ idle.receiving .order [0x13, 63] = true :=
  ⟨rfl, rfl, rfl, rfl, rfl, rfl, by decide, rfl, by decide, by decide, rfl, by decide, rfl, rfl, by decide, rfl, by decide,
    rfl, taking rfl, by decide +kernel, by decide +kernel, by decide +kernel, by decide +kernel⟩

/-- One order whose flag for a cause is set and no other. -/
def flagBook (o : Order) : State := book o (anItem 0 0 2 0)

/-- What the attention statements ask of a state. -/
def AttentionOk (s : State) : Prop := TicketsOk s ∧ BinsOk s ∧ PortsOk s

theorem attentionOk_of {s : State} (h : TicketsOk s ∧ BinsOk s)
    (hp : ∀ link, s.port link = .request [] ∧ (s.links.unit link).mask.length = (causesOf link).length) : AttentionOk s :=
  ⟨h.1, h.2, fun link => ⟨by rw [(hp link).1]; exact ⟨by decide, by decide⟩, (hp link).2⟩⟩

def noticeBook : State := flagBook { anOrder 5 .withdrawn with cancelNotice := true, requester := .orderLink }
def unreadBook : State := { idle with density := { idle.density with patchUnread := true } }
def stallBook : State := { idle with web := { idle.web with stall := true } }

theorem test_witness_ReadAttentionReturnsAndClears :
    (AttentionOk idle ∧ Taking idle .order .readAttention [] ∧ Taking idle .engine .readAttention []
        ∧ Taking idle .till .readAttention [] ∧ ∀ k, pendingAt idle .till k = false)
      -- an order's event, the first of three causes pending; a notice; a single event; a condition
      ∧ (AttentionOk attentionBook ∧ (priorities .till)[0]? = some .binShortage ∧ pendingAt attentionBook .till 0 = true
          ∧ ∃ o, FirstFlagged attentionBook .till .binShortage 1 o)
      ∧ (AttentionOk noticeBook ∧ (priorities .order)[1]? = some .cancelDone ∧ pendingAt noticeBook .order 1 = true
          ∧ (∀ k, k < 1 → pendingAt noticeBook .order k = false) ∧ ∃ o, FirstFlagged noticeBook .order .cancelDone 0 o)
      ∧ (AttentionOk unreadBook ∧ (priorities .engine)[6]? = some .patchUnread ∧ pendingAt unreadBook .engine 6 = true
          ∧ ∀ k, k < 6 → pendingAt unreadBook .engine k = false)
      ∧ (AttentionOk stallBook ∧ (priorities .engine)[2]? = some .stall ∧ pendingAt stallBook .engine 2 = true
          ∧ ∀ k, k < 2 → pendingAt stallBook .engine k = false) := by
  refine ⟨⟨attentionOk_of ?_ ?_, taking rfl, taking rfl, taking rfl, Laws.not_pendingAt (by decide +kernel)⟩,
    ⟨attentionOk_of ?_ ?_, rfl, by decide +kernel, _, rfl, by decide +kernel, ?_⟩,
    ⟨attentionOk_of ?_ ?_, rfl, by decide +kernel, by decide +kernel, _, rfl, by decide +kernel, ?_⟩,
    ⟨attentionOk_of ?_ ?_, rfl, by decide +kernel, by decide +kernel⟩,
    ⟨attentionOk_of ?_ ?_, rfl, by decide +kernel, by decide +kernel⟩⟩
  · unfold TicketsOk BinsOk Bin.ok; decide +kernel
  · intro link; cases link <;> exact ⟨rfl, rfl⟩
  · unfold TicketsOk BinsOk Bin.ok; decide +kernel
  · intro link; cases link <;> exact ⟨rfl, rfl⟩
  · intro k hk p hp
    obtain rfl : k = 0 := by omega
    cases hp
  · unfold TicketsOk BinsOk Bin.ok; decide +kernel
  · intro link; cases link <;> exact ⟨rfl, rfl⟩
  · intro k hk; omega
  · unfold TicketsOk BinsOk Bin.ok; decide +kernel
  · intro link; cases link <;> exact ⟨rfl, rfl⟩
  · unfold TicketsOk BinsOk Bin.ok; decide +kernel
  · intro link; cases link <;> exact ⟨rfl, rfl⟩

theorem test_witness_SetMaskReplacesTheLinksMask :
    (TicketsOk attentionBook ∧ BinsOk attentionBook ∧ PortsOk attentionBook ∧ attentionAsserted attentionBook .till = true)
      ∧ Taking attentionBook .till .setMask [0, 2, 0, 1] ∧ ([0, 2, 0, 1] : List Byte).length = (priorities .till).length
      ∧ (∃ e ∈ ([0, 2, 0, 1] : List Byte), e ≠ 0#8 ∧ e ≠ 1#8) ∧ (∀ e ∈ ([0, 1, 0, 1] : List Byte), e = 0#8 ∨ e = 1#8) :=
  have h := test_witness_ReadAttentionReturnsAndClears.2.1.1
  ⟨⟨h.1, h.2.1, h.2.2, by decide +kernel⟩, taking rfl, rfl, by decide, by decide⟩

theorem test_witness_TicketTestsComeFirst :
    (Instr.submit .order 0).request = some (.order, .submit, [0, 0]) ∧ RequestCode.submit.belongs .order = true
      ∧ ticketField (.submit .order 0) = some 0 ∧ Taking idle .order .submit [0, 0]
      ∧ TicketRefusal idle 0 .malformed ∧ TicketRefusal idle 10000 .malformed ∧ TicketRefusal idle 9999 .noOrder
      ∧ TicketRefusal idle 1 .noOrder :=
  ⟨by decide, rfl, rfl, taking rfl, by unfold TicketRefusal; decide +kernel, by unfold TicketRefusal; decide +kernel,
    by unfold TicketRefusal; decide +kernel, by unfold TicketRefusal; decide +kernel⟩

theorem listed_range {α : Type} (n : Nat) (a : Nat → α) : ∀ k, k < n →
    Table.get? ((List.range n).map fun r => (r, a r)) k ≠ none := by
  intro k hk h
  have := Laws.get?_isSome_iff (t := (List.range n).map fun r => (r, a r)) (k := k)
  simp [h, hk] at this

/-- 64 records in use. -/
def fullBook : State :=
  { idle with orderTable := { idle.orderTable with orders := (List.range 64).map fun k => (k, anOrder (k + 1) .held) } }

theorem test_witness_OpenOrderTakesLowestSlotAndFreeTicket :
    Taking idle .order .openOrder [0] ∧ Taking fullBook .order .openOrder [3] ∧ (∀ k, k < 64 → fullBook.order? k ≠ none)
      ∧ Taking wrapBook .order .openOrder [3] ∧ (3#8, OrderClass.bulk) ∈ [(1#8, OrderClass.express), (2#8, .standard), (3#8, .bulk)]
      ∧ wrapBook.order? 3 = none ∧ (∀ k, k < 3 → wrapBook.order? k ≠ none) ∧ TicketsOk wrapBook :=
  ⟨taking rfl, taking rfl, listed_range _ _, taking rfl, by decide, by decide +kernel, by decide +kernel,
    by unfold TicketsOk; decide +kernel⟩

/-- A book whose order has 24 items, and one whose item records are all in use. -/
def crowdedBook : State :=
  { openBook with orderTable := { openBook.orderTable with
      orders := [(0, { anOrder 5 .opened with items := List.range 24 })]
      items := (List.range 24).map fun r => (r, anItem 1 0 0 0) } }
def fullItems : Table Item := (List.range 512).map fun r => (r, anItem 1 0 0 0)
theorem fullItems_full : ∀ r, r < 512 → Table.get? fullItems r ≠ none := listed_range 512 fun _ => anItem 1 0 0 0
def fullPool : State := { openBook with orderTable := { openBook.orderTable with items := fullItems } }

theorem test_witness_AddItemTestsAndAppends :
    Taking openBook .order .addItem (be16 5 ++ be32 1 ++ be16 16384 ++ be16 1 ++ [2, 3, 2, 100])
      ∧ Names openBook 5 0 (anOrder 5 .opened) ∧ Names (book (anOrder 5 .held) (anItem 1 0 0 0)) 5 0 (anOrder 5 .held)
      ∧ (16#8).toNat > 15 ∧ (16385#16).toNat > 16384
      ∧ Table.get? openBook.orderTable.sizes 2 = some aSize ∧ aSize.enabled = true ∧ (16384#16).toNat ≤ 16384
      ∧ (3#8, Surface.lustre) ∈ [(1#8, Surface.gloss), (2#8, .matt), (3#8, .lustre)]
      ∧ (2#8, Mode.fit) ∈ [(1#8, Mode.fill), (2#8, .fit)]
      ∧ Table.get? openBook.orderTable.items 1 = none ∧ (∀ k, k < 1 → Table.get? openBook.orderTable.items k ≠ none)
      ∧ Names crowdedBook 5 0 { anOrder 5 .opened with items := List.range 24 } ∧ 24 ≤ (List.range 24).length
      ∧ Names fullPool 5 0 (anOrder 5 .opened) ∧ fullPool.orderTable.items = fullItems
      ∧ (∀ r, r < 512 → Table.get? fullItems r ≠ none) :=
  ⟨taking rfl, names_book _ _, names_book _ _, by decide, by decide, rfl, rfl, by decide, by decide, by decide, rfl, by decide,
    ⟨by decide, by decide, rfl, rfl⟩, by decide, ⟨by decide, by decide, rfl, rfl⟩, by simp only [fullPool],
    fullItems_full⟩

theorem test_witness_SubmitStartsTheWindow :
    Taking openBook .order .submit (be16 5) ∧ TicketRefusal openBook 6 .noOrder ∧ TicketRefusal openBook 10000 .malformed
      ∧ Names readyBook 5 0 (anOrder 5 .ready) ∧ Names openBook 5 0 (anOrder 5 .opened) ∧ (anOrder 5 .opened).items ≠ []
      -- a window of 0 on an EXPRESS order
      ∧ Names (book { anOrder 5 .opened with cls := .express } (anItem 1 0 0 0)) 5 0 { anOrder 5 .opened with cls := .express }
      ∧ openBook.orderTable.windows.express = 0 :=
  ⟨taking rfl, by unfold TicketRefusal; decide +kernel, by unfold TicketRefusal; decide +kernel, names_book _ _, names_book _ _,
    by decide, ⟨by decide, by decide, rfl, rfl⟩, rfl⟩

theorem test_witness_TimersExpireAndTimeAdvances :
    (∃ o, readyBook.order? ((0 : Fin 64) : Nat) = some o ∧ o.eligibleAt = some 0 ∧ o.windowEnded = true)
      ∧ (∃ o, (book { anOrder 5 .ready with windowEnded := false } (anItem 1 0 0 0)).order? ((0 : Fin 64) : Nat) = some o
          ∧ o.eligibleAt = some 0 ∧ o.windowEnded = false)
      ∧ 0 ≤ signedDiff readyBook.timeBase 0 ∧ signedDiff readyBook.timeBase 1 < 0
      ∧ (∃ b, Table.get? (binBook .waiting 2).sort.bins ((5 : Fin 20) + 1 : Nat) = some b ∧ b.state = .waiting ∧ b.timer = some 0)
      ∧ CannotBeRead 0x81 0 ∧ CannotBeRead 0x81 16385 ∧ CannotBeRead 7 1 ∧ ¬ CannotBeRead 0x81 16384 ∧ ¬ CannotBeRead 0x82 0
      ∧ NothingToSend idle ∧ NothingToSend rowFetched ∧ NothingToSend receivingBook :=
  ⟨⟨_, rfl, rfl, rfl⟩, ⟨_, rfl, rfl, rfl⟩, by decide, by decide, ⟨_, rfl, rfl, rfl⟩, by unfold CannotBeRead; decide,
    by unfold CannotBeRead; decide, by unfold CannotBeRead; decide, by unfold CannotBeRead; decide,
    by unfold CannotBeRead; decide, .inr ⟨rfl, .inl rfl⟩, .inr ⟨rfl, .inr rfl⟩, .inl rfl⟩

/-- A READY order's print is the standing selection, with lines queued. -/
def selectedBook : State := startBook [0, 1, 2] false

theorem test_witness_HoldLeavesListAndVoids :
    Taking selectedBook .order .hold (be16 5) ∧ Names selectedBook 5 0 (anOrder 5 .ready)
      ∧ selectedBook.scheduler.selects 0 = true ∧ Names openBook 5 0 (anOrder 5 .opened) :=
  ⟨taking rfl, ⟨by decide, by decide, rfl, rfl⟩, rfl, names_book _ _⟩
theorem test_witness_ReleaseRejoinsAtTheTail :
    Taking readyBook .order .release (be16 5) ∧ TicketRefusal readyBook 6 .noOrder ∧ Names readyBook 5 0 (anOrder 5 .ready)
      ∧ Names (book (anOrder 5 .held) (anItem 1 0 0 0)) 5 0 (anOrder 5 .held) :=
  ⟨taking rfl, by unfold TicketRefusal; decide +kernel, names_book _ _, names_book _ _⟩
theorem test_witness_CancelOfAnOpenOrderFreesIt :
    Taking openBook .till .cancel (be16 5) ∧ TicketRefusal openBook 6 .noOrder ∧ Names openBook 5 0 (anOrder 5 .opened) :=
  ⟨taking rfl, by unfold TicketRefusal; decide +kernel, names_book _ _⟩
theorem test_witness_CancelWithdraws :
    (∀ state, Taking (book (anOrder 5 state) (anItem 1 0 0 0)) .order .cancel (be16 5))
      ∧ (∀ state, Names (book (anOrder 5 state) (anItem 1 0 0 0)) 5 0 (anOrder 5 state)) :=
  ⟨fun _ => taking rfl, fun _ => names_book _ _⟩

/-- A book with an amendment open on the order. -/
def amendedBook (state : OrderState) : State :=
  let s := book (anOrder 5 state) (anItem 1 1 1 0)
  { s with price := { s.price with
      amendment := some { ticket := 5, slot := 0, discount := 100, adjustment := -999999, waive := 1 } } }

theorem names_amended (state : OrderState) : Names (amendedBook state) 5 0 (anOrder 5 state) :=
  ⟨by decide, by decide, rfl, rfl⟩

theorem test_witness_CollectTakesTheFinalAndFrees :
    Names (amendedBook .complete) 5 0 (anOrder 5 .complete) ∧ (amendedBook .complete).price.amends 0 = true
      ∧ Names (book (anOrder 5 .complete) (anItem 0 0 1 0)) 5 0 (anOrder 5 .complete)
      ∧ (book (anOrder 5 .complete) (anItem 0 0 1 0)).price.amends 0 = false
      ∧ Taking (amendedBook .complete) .till .collect (be16 5) ∧ Taking (amendedBook .complete) .till .collectPartial (be16 5) :=
  ⟨names_amended _, rfl, names_book _ _, rfl, taking rfl, taking rfl⟩
theorem test_witness_CollectPartialWithdraws :
    Names (amendedBook .inPrint) 5 0 (anOrder 5 .inPrint) ∧ (amendedBook .inPrint).price.amends 0 = true
      ∧ Taking (amendedBook .inPrint) .till .collectPartial (be16 5) ∧ Names readyBook 5 0 (anOrder 5 .ready)
      ∧ readyBook.price.amends 0 = false ∧ Names openBook 5 0 (anOrder 5 .opened) :=
  ⟨names_amended _, rfl, taking rfl, names_book _ _, rfl, names_book _ _⟩

/-- The reference bytes of an empty map and of a map with one closed segment. -/
theorem isReference_idle : IsReference idle ([255] ++ be32 (Config.freeWord idle.freeCount)
    ++ be32 (Config.freeWord (idle.freeCount + 1))) := by
  refine ⟨fun ahead k rest h => ?_, fun _ => rfl⟩
  have h : [] = ahead ++ k :: rest := h
  cases ahead <;> cases h
theorem isReference_patch : IsReference (withMap idle [seg .patch 1 100] 120103) [0, 0, 1, 0xD5, 0x25, 0, 0, 0, 2] := by
  refine ⟨fun ahead k rest h _ _ _ => ?_, fun h => absurd (h [] _ [] rfl (by simp) rfl) (by decide)⟩
  have h : [seg .patch 1 100] = ahead ++ k :: rest := h
  cases ahead with
  | nil => cases h; decide +kernel
  | cons a b => simp at h

theorem test_witness_ReadsAnswerAndChangeNothing :
    (Taking readyBook .engine .readOrder (be16 5) ∧ Names readyBook 5 0 (anOrder 5 .ready))
      ∧ (Taking readyBook .order .readItem (be16 5 ++ [0]) ∧ (anOrder 5 .ready).items[(0#8).toNat]? = some 0
        ∧ Table.get? readyBook.orderTable.items 0 = some (anItem 2 0 0 0)
        ∧ Taking readyBook .order .readItem (be16 5 ++ [1]) ∧ (anOrder 5 .ready).items.length ≤ (1#8).toNat)
      ∧ (Taking readyBook .order .readSize [15] ∧ Table.get? readyBook.orderTable.sizes 15 = some SizeEntry.reset
        ∧ Taking readyBook .order .readSize [16] ∧ 15 < (16#8).toNat)
      ∧ (Taking readyBook .till .readBin [20] ∧ Table.get? readyBook.sort.bins 20 = some Bin.reset
        ∧ Taking readyBook .till .readBin [0] ∧ Taking readyBook .till .readBin [21] ∧ 20 < (21#8).toNat)
      ∧ (Taking readyBook .till .readPrice (be16 5 ++ [255]) ∧ Taking readyBook .till .readPrice (be16 5 ++ [0])
        ∧ (0#8 ≠ 255#8) ∧ Table.get? readyBook.price.tariff 2 = some { n1 := 0, n2 := 0, p1 := 0, p2 := 0, p3 := 0 }
        ∧ Taking readyBook .till .readPrice (be16 5 ++ [1]))
      ∧ Taking readyBook .till .readTotals []
      ∧ (Taking readyBook .engine .readMagazine [] ∧ readyBook.web.leaderExposed = false
        ∧ readyBook.scheduler.leaderPending = false ∧ ¬ PatchDue readyBook)
      ∧ (Taking readyBook .engine .readWeb [127, 4] ∧ (127#8).toNat ≤ 127
        ∧ Taking readyBook .engine .readWeb [128, 0] ∧ 127 < (128#8).toNat ∧ Taking readyBook .engine .readWeb [0, 5]
        ∧ 4 < (5#8).toNat ∧ ∃ reference, IsReference idle reference ∧ idle.web.map = []) :=
  ⟨⟨taking rfl, names_book _ _⟩, ⟨taking rfl, rfl, rfl, taking rfl, by decide⟩, ⟨taking rfl, rfl, taking rfl, by decide⟩,
    ⟨taking rfl, rfl, taking rfl, taking rfl, by decide⟩, ⟨taking rfl, taking rfl, by decide, rfl, taking rfl⟩, taking rfl,
    ⟨taking rfl, rfl, rfl, by unfold PatchDue; decide⟩,
    ⟨taking rfl, by decide, taking rfl, by decide, taking rfl, by decide, _, isReference_idle, rfl⟩⟩

theorem test_witness_WriteSizeTestsAndClamps :
    Taking readyBook .order .writeSize ([2, 1] ++ be16 4096 ++ be16 12000 ++ be16 305 ++ [2])
      ∧ (∃ p ∈ readyBook.orderTable.items, p.2.sizeIndex = (2#8).toNat) ∧ (16#8).toNat > 15 ∧ 3#8 ∉ [1#8, 2#8]
      ∧ (15#8).toNat ≤ 15 ∧ (2#8, PrintGroup.large) ∈ [(1#8, PrintGroup.small), (2#8, .large)]
      ∧ (∀ p ∈ readyBook.orderTable.items, p.2.sizeIndex ≠ (15#8).toNat) :=
  ⟨taking rfl, by decide +kernel, by decide, by decide, by decide, by decide, by decide +kernel⟩

theorem test_witness_SettingsAreClampedAndStored :
    Taking idle .order .setWindows (be16 255 ++ be16 256 ++ be16 0) ∧ Taking idle .order .setRemakeLimit [3]
      ∧ Taking idle .till .setUncollectedTime (be16 0) ∧ Table.get? idle.sort.bins 20 = some Bin.reset
      ∧ Taking idle .engine .setWeb (be32 1000 ++ be16 5000 ++ be16 65535 ++ be16 100)
      ∧ Taking idle .engine .setDensity
        (be16 255 ++ be16 1023 ++ be16 1024 ++ be16 0 ++ [15] ++ be16 1 ++ [16] ++ be16 256 ++ be16 767 ++ be16 768) :=
  ⟨taking rfl, taking rfl, taking rfl, rfl, taking rfl, taking rfl⟩

theorem test_witness_LoadAndUnloadRoll :
    Taking idle .engine .loadRoll ([1] ++ be16 89 ++ [3] ++ be32 2500001) ∧ (88#16).toNat < 89 ∧ (306#16).toNat > 305
      ∧ 0#8 ∉ [1#8, 2#8]
      ∧ (2#8, Magazine.b) ∈ [(1#8, Magazine.a), (2#8, .b)] ∧ (89#16).toNat ≥ 89 ∧ (305#16).toNat ≤ 305
      ∧ (3#8, Surface.lustre) ∈ [(1#8, Surface.gloss), (2#8, .matt), (3#8, .lustre)]
      ∧ (exposeBook [] false 0).scheduler.active = some .a ∧ (exposeBook [] false 0).exposing = true
      ∧ idle.scheduler.active ≠ some .b ∧ (running idle).exposing = false
      ∧ Taking (exposeBook [] false 0) .engine .unloadRoll [1] :=
  ⟨taking rfl, by decide, by decide, by decide, by decide, by decide, by decide, by decide, rfl, rfl, by decide, rfl, taking rfl⟩

theorem test_witness_MagazineSwitchedTakesTheMagazine :
    Taking (exposeBook [] false 0) .engine .magazineSwitched [2] ∧ (exposeBook [] false 0).exposing = true
      ∧ (withMap idle [openSeg .leader 1 1] 1).web.leaderExposed = true ∧ 3#8 ∉ [1#8, 2#8]
      ∧ (running idle).exposing = false ∧ (running idle).web.leaderExposed = false :=
  ⟨taking rfl, rfl, rfl, by decide, rfl, rfl⟩

/-- An attempt at which a patch is due, one at which ticket 5 fits, and one at which it fits the other magazine or none. -/
def patchAttempt : State :=
  let s := attemptBook (anItem 2 0 0 0)
  { s with scheduler := { s.scheduler with resetPatch := true } }
def fitAttempt : State := attemptBook (anItem 2 1 0 0)
def sizeAttempt (paperWidth : Nat) : State :=
  let s := attemptBook (anItem 2 0 0 0)
  { s with orderTable := { s.orderTable with sizes := Table.put s.orderTable.sizes 2 { aSize with paperWidth := paperWidth } } }

/-- An attempt at which an EXPRESS order, ticket 6, leads with a print that fits neither magazine, and ticket 5 fits. -/
def scanAttempt : State :=
  let s := fitAttempt
  { s with
    orderTable := { s.orderTable with
      orders := s.orderTable.orders ++ [(1, { anOrder 6 .ready with cls := .express, items := [1] })]
      items := s.orderTable.items ++ [(1, { anItem 2 0 0 0 with sizeIndex := 3 })]
      sizes := Table.put s.orderTable.sizes 3 { aSize with paperWidth := 203 } }
    scheduler := { s.scheduler with express := [1] } }

/-- A class whose list is empty is passed over, and so is one whose one order has one item, of a size that fits neither
magazine. -/
theorem passedOver_nil {s : State} {active : Magazine} {c : OrderClass} (h : s.scheduler.classList c = []) :
    PassedOver s active c := by
  refine ⟨fun k hk => ?_, fun slot n i e ⟨ahead, rest, hl, _⟩ => ?_⟩
  · rw [h] at hk; cases hk
  · rw [h] at hl; simp at hl

theorem hasNextPrint_one {s : State} {slot r n : Nat} {o : Order} {i j : Item} {e d : SizeEntry} (ho : s.order? slot = some o)
    (hl : o.items = [r]) (hi : Table.get? s.orderTable.items r = some i)
    (he : Table.get? s.orderTable.sizes i.sizeIndex = some e) (h : HasNextPrint s slot n j d) : n = 0 ∧ j = i ∧ d = e := by
  obtain ⟨o', r', ho', hr, hj, _, _, hd, _⟩ := h
  rw [ho] at ho'; cases ho'
  cases n with
  | succ n => rw [hl] at hr; simp at hr
  | zero =>
    rw [hl] at hr; cases hr
    rw [hi] at hj; cases hj
    rw [he] at hd; cases hd
    exact ⟨rfl, rfl, rfl⟩

theorem noneFits_one {s : State} {active m : Magazine} {slot r : Nat} {o : Order} {i : Item} {e : SizeEntry}
    (ho : s.order? slot = some o) (hl : o.items = [r]) (hi : Table.get? s.orderTable.items r = some i)
    (he : Table.get? s.orderTable.sizes i.sizeIndex = some e) (hw : (s.scheduler.magazine active).width ≠ e.paperWidth) :
    NoneFits s active [slot] := by
  intro k hk n j d h f
  obtain rfl := List.mem_singleton.mp hk
  obtain ⟨_, rfl, rfl⟩ := hasNextPrint_one ho hl hi he h
  exact hw f.2.1

theorem passedOver_one {s : State} {active : Magazine} {c : OrderClass} {slot r : Nat} {o : Order} {i : Item} {e : SizeEntry}
    (hc : s.scheduler.classList c = [slot]) (ho : s.order? slot = some o) (hl : o.items = [r])
    (hi : Table.get? s.orderTable.items r = some i) (he : Table.get? s.orderTable.sizes i.sizeIndex = some e)
    (hw : ∀ m, (s.scheduler.magazine m).width ≠ e.paperWidth) : PassedOver s active c := by
  refine ⟨hc ▸ noneFits_one (m := active) ho hl hi he (hw _), fun k n j d ⟨ahead, rest, h, _, hp⟩ f => ?_⟩
  rw [hc] at h
  obtain rfl : slot = k := by cases ahead <;> simp_all
  obtain ⟨_, rfl, rfl⟩ := hasNextPrint_one ho hl hi he hp
  exact hw _ f.2.1

theorem nextPrint_zero {s : State} {slot r : Nat} {o : Order} {i : Item} {e : SizeEntry} (ho : s.order? slot = some o)
    (hl : o.items[0]? = some r) (hi : Table.get? s.orderTable.items r = some i) (hw : i.waiting ≠ 0) (hf : i.faulted = false)
    (he : Table.get? s.orderTable.sizes i.sizeIndex = some e) : HasNextPrint s slot 0 i e :=
  ⟨o, r, ho, hl, hi, hw, hf, he, fun _ _ _ h => absurd h (Nat.not_lt_zero _)⟩

/-- The start conditions of a state whose magazine A is active. -/
theorem startConditions_of {s : State} (h : s.web.transport = .run
    ∧ (s.scheduler.active = some .a ∧ s.scheduler.magA.present = true) ∧ (∀ c, s.channel.enabled.get c = true)
    ∧ s.web.lpath ≠ 0 ∧ s.web.fault = none ∧ s.density.fault = false ∧ s.web.stall = false ∧ s.web.map.length < 128
    ∧ s.scheduler.switchRequested = none) : StartConditions s := by
  obtain ⟨a, ⟨b, c⟩, d, e, f, g, i, j, k⟩ := h
  exact ⟨a, ⟨.a, b, c⟩, d, e, f, g, i, j, k⟩

/-- The work of the book's print, a line of it next; a FILL print needs the rows at its next line. -/
def jobOf : PrintJob :=
  { slot := 0, item := 0, copy := 1, handle := 0x01020304#32, ws := 4, hs := 6, mode := .fill, wp := 2, lp := 3
    geometry := geometryOf .fill 4 6 2 3 }
def workAt (line : Nat) : Work := { owner := .selection, job := .print jobOf, nextLine := line }

theorem needsRows_workAt {line lo hi : Nat} (h : line < 3)
    (hr : lo = held jobOf.geometry.hsN (jobOf.geometry.oy + line * jobOf.geometry.step) / 65536
      ∧ hi = neighbour jobOf.geometry.hsN lo) : NeedsRows (workAt line) lo hi :=
  ⟨jobOf, line, rfl, ⟨Nat.le_refl _, h, fun h => absurd h.1 (by decide), fun _ h1 h2 => absurd h2 (Nat.not_lt.mpr h1)⟩, hr⟩

theorem test_witness_SelectionAttemptChooses :
    ¬ AttemptMade idle
      ∧ (AttemptMade patchAttempt ∧ patchAttempt.scheduler.active = some .a ∧ PatchDue patchAttempt
        ∧ 100 + patchAttempt.scheduler.endReserve ≤ (patchAttempt.scheduler.magazine .a).remaining)
      -- the head of the first class fits
      ∧ (AttemptMade fitAttempt ∧ NoPatchTaken fitAttempt .a ∧ PassedOver fitAttempt .a .express
        ∧ fitAttempt.scheduler.classList .standard = [] ++ 0 :: [] ∧ HasNextPrint fitAttempt 0 0 (anItem 2 1 0 0) aSize
        ∧ FitsPaper (fitAttempt.scheduler.magazine .a) fitAttempt.scheduler.endReserve (anItem 2 1 0 0) aSize
        ∧ 1 ≤ aSize.wp ∧ 1 ≤ aSize.lp ∧ fitAttempt.fetch.inFlight = none
        ∧ (fitAttempt.resampler.work = none ∧ NeedsRows (workAt 0) 0 1))
      -- the scan marks a leading order of a higher class and goes on
      ∧ (AttemptMade scanAttempt ∧ NoPatchTaken scanAttempt .a ∧ PassedOver scanAttempt .a .express
        ∧ Leads scanAttempt .express 1 0 { anItem 2 0 0 0 with sizeIndex := 3 } { aSize with paperWidth := 203 }
        ∧ scanAttempt.scheduler.classList .standard = [] ++ 0 :: [] ∧ HasNextPrint scanAttempt 0 0 (anItem 2 1 0 0) aSize
        ∧ FitsPaper (scanAttempt.scheduler.magazine .a) scanAttempt.scheduler.endReserve (anItem 2 1 0 0) aSize) :=
  ⟨fun h => absurd h.2.2.2 (by decide),
    ⟨⟨rfl, rfl, startConditions_of (by decide +kernel), rfl⟩, rfl, ⟨by decide, .inr (.inr rfl)⟩, by decide +kernel⟩,
    ⟨⟨rfl, rfl, startConditions_of (by decide +kernel), rfl⟩, .inl (by unfold PatchDue; decide +kernel), passedOver_nil rfl, rfl,
      nextPrint_zero (r := 0) rfl rfl rfl (by decide) rfl rfl, by unfold FitsPaper; decide +kernel, by decide, by decide, rfl, rfl,
      needsRows_workAt (by decide) (by decide +kernel)⟩,
    ⟨⟨rfl, rfl, startConditions_of (by decide +kernel), rfl⟩, .inl (by unfold PatchDue; decide +kernel),
      passedOver_one (slot := 1) (r := 1) rfl rfl rfl rfl rfl (by intro m; cases m <;> decide +kernel),
      ⟨[], [], rfl, by simp, nextPrint_zero (r := 1) rfl rfl rfl (by decide) rfl rfl⟩, rfl,
      nextPrint_zero (r := 0) rfl rfl rfl (by decide) rfl rfl, by unfold FitsPaper; decide +kernel⟩⟩

theorem test_witness_SelectionAttemptRequestsOrMarks :
    (AttemptMade (sizeAttempt 152) ∧ NoPatchTaken (sizeAttempt 152) .a ∧ PassedOver (sizeAttempt 152) .a .express
        ∧ NoneFits (sizeAttempt 152) .a ((sizeAttempt 152).scheduler.classList .standard)
        ∧ Leads (sizeAttempt 152) .standard 0 0 (anItem 2 0 0 0) { aSize with paperWidth := 152 }
        ∧ FitsPaper ((sizeAttempt 152).scheduler.magazine (Magazine.other .a)) (sizeAttempt 152).scheduler.endReserve
          (anItem 2 0 0 0) { aSize with paperWidth := 152 })
      ∧ (AttemptMade (sizeAttempt 203) ∧ NoPatchTaken (sizeAttempt 203) .a ∧ ∀ c, PassedOver (sizeAttempt 203) .a c)
      -- a command among all commands: a HOLD that voids the selection
      ∧ (Instr.hold .order 5 ≠ .powerOnReset ∧ (∀ link byte, Instr.hold .order 5 ≠ .linkByteComplete link byte)
        ∧ (ListsAgree beginning ∧ PoolAndGross beginning ∧ CopiesCounted beginning)
        ∧ exec (.hold .order 5) beginning = .next (after (.hold .order 5) beginning)
        ∧ beginning.scheduler.attemptCause = false
        ∧ AttemptCalledFor (.hold .order 5) beginning (after (.hold .order 5) beginning)) :=
  ⟨⟨⟨rfl, rfl, startConditions_of (by decide +kernel), rfl⟩, .inl (by unfold PatchDue; decide +kernel), passedOver_nil rfl,
      noneFits_one (slot := 0) (r := 0) (m := .a) rfl rfl rfl rfl (by decide +kernel),
      ⟨[], [], rfl, by simp, nextPrint_zero (r := 0) rfl rfl rfl (by decide) rfl rfl⟩, by unfold FitsPaper; decide +kernel⟩,
    ⟨⟨rfl, rfl, startConditions_of (by decide +kernel), rfl⟩, .inl (by unfold PatchDue; decide +kernel), fun c => match c with
      | .express => passedOver_nil rfl
      | .standard => passedOver_one (slot := 0) (r := 0) rfl rfl rfl rfl rfl (by intro m; cases m <;> decide +kernel)
      | .bulk => passedOver_nil rfl⟩,
    ⟨by decide, fun _ _ h => (by cases h), beginning_agrees, rfl, rfl, .inl ⟨.standard, by decide +kernel⟩⟩⟩

/-- The rows of the selection's pair held, ready for its first line; and a FIT print whose first line is a border. -/
def lineBook : State := after (.rowData 1 somePixels) (after .rowFetch (after (.rowData 0 somePixels) rowFetched))
def lineWork : Work := (lineBook.resampler.work).getD aWork
def borderWork : Work :=
  { owner := .selection, nextLine := 0
    job := .print { slot := 0, item := 0, copy := 1, handle := 1, ws := 3000, hs := 4000, mode := .fit, wp := 2, lp := 1900
                    geometry := geometryOf .fit 3000 4000 1275 1900 } }

theorem test_witness_LineProductionQueuesOrDiscards :
    -- a patch, a line of a FILL print, a border row of a FIT print, and a print whose rows are not held
    (∃ w, patchWork.resampler.work = some w ∧ LineCodes patchWork w { c0 := [506, 506], c1 := [512, 512], c2 := [512, 512] }
        ∧ patchWork.channel.queue.length < 8)
      ∧ (lineBook.resampler.work = some lineWork
        ∧ LineCodes lineBook lineWork { c0 := [1016, 1004], c1 := [1012, 1000], c2 := [1008, 996] })
      ∧ LineCodes idle borderWork { c0 := [0, 0], c1 := [0, 0], c2 := [0, 0] }
      ∧ (∃ w, rowBook.resampler.work = some w ∧ ∀ codes, ¬ LineCodes rowBook w codes)
      ∧ 8 ≤ (lines .selection (List.range 8)).length
      -- the line after is one that needs a row not held, and a patch needs none
      ∧ (lineWork = workAt 0 ∧ (workAt 0).nextLine + 1 < jobOf.lp ∧ NeedsRows (workAt 1) 1 2
        ∧ (∃ r, RowHeld lineBook 1 r) ∧ (∀ r, ¬ RowHeld lineBook 2 r) ∧ lineBook.fetch.inFlight = none)
      ∧ (∀ lo hi, ¬ NeedsRows { owner := .selection, job := .patch 2, nextLine := 98 } lo hi) := by
  refine ⟨⟨_, rfl, by unfold LineCodes; decide +kernel, by decide⟩, ⟨rfl, ?_, fun _ => ?_⟩,
    ⟨fun _ => by decide +kernel, fun h => ?_⟩,
    ⟨_, rfl, fun codes h => ?_⟩, by decide,
    ⟨rfl, by decide, needsRows_workAt (by decide) (by decide +kernel), ⟨_, rfl, .inr ⟨rfl, fun a h => ?_⟩⟩, fun r h => ?_, rfl⟩,
    fun lo hi ⟨p, _, h, _⟩ => (by cases h)⟩
  · rintro ⟨h, _⟩
    exact absurd h (by decide +kernel)
  · refine ⟨_, _, ⟨?_, .inl rfl⟩, ⟨?_, .inr ⟨rfl, ?_⟩⟩, fun c => ⟨by revert c; decide +kernel, ?_⟩⟩
    · decide +kernel
    · decide +kernel
    · intro a h; cases h; decide +kernel
    · intro j x f v code hc hx hf hv
      subst hx hf hv
      match c, j, hc with
      | 0, 0, hc | 0, 1, hc | 1, 0, hc | 1, 1, hc | 2, 0, hc | 2, 1, hc =>
        cases hc
        exact ⟨fun h => absurd h (by decide +kernel), fun _ => by decide +kernel⟩
      | 0, _ + 2, hc | 1, _ + 2, hc | 2, _ + 2, hc => cases hc
  · exact absurd ⟨rfl, by unfold Inside; decide +kernel⟩ h
  · obtain ⟨lo, hi, ⟨_, hlo⟩, _⟩ := h.2 fun ⟨h, _⟩ => absurd h (by decide +kernel)
    rcases hlo with hlo | ⟨hlo, _⟩ <;> cases hlo
  · cases h; decide +kernel
  · obtain ⟨hi, h | ⟨h, _⟩⟩ := h
    · have h : some _ = some r := h
      cases h; exact absurd hi (by decide +kernel)
    · have h : some _ = some r := h
      cases h; exact absurd hi (by decide +kernel)

/-- The first row of the pair held, the second asked for; and the last row of the image asked for, which is needed twice. -/
def secondRow : State := after .rowFetch (after (.rowData 0 somePixels) rowFetched)
def lastRow : State :=
  { rowFetched with
    resampler := { rowFetched.resampler with work := some (workAt 2) }
    fetch := { rowFetched.fetch with inFlight := rowFetched.fetch.inFlight.map fun f => { f with row := 2 } } }

theorem test_witness_RowsAreFetchedAndPlaced :
    (∃ f, rowBook.fetch.inFlight = some f ∧ rowBook.fetch.timer = none ∧ rowBook.fetch.link.phase = .idle)
      -- a frame being sent for the fetch in flight, and for one abandoned meanwhile
      ∧ (∃ f frame, sendingBook.fetch.link.phase = .sending frame ∧ sendingBook.fetch.inFlight = some f
          ∧ frame = [0x01#8, f.tag] ++ be32 f.handle ++ n8 f.level ++ n16 f.row)
      ∧ (∃ frame, (after .warmReset sendingBook).fetch.link.phase = .sending frame
          ∧ (after .warmReset sendingBook).fetch.inFlight = none)
      ∧ NothingToSend rowFetched ∧ NothingToSend receivingBook ∧ NothingToSend idle
      ∧ CannotBeRead 0x81 0 ∧ CannotBeRead 0x83 1
      ∧ (∃ f w p, rowFetched.fetch.inFlight = some f ∧ somePixels.length = f.expected ∧ 1 ≤ f.expected ∧ f.expected ≤ 16384
          ∧ rowFetched.resampler.work = some w ∧ w.job = .print p ∧ NeedsRows w (min f.row 1) (max f.row 1)
          ∧ rowFetched.resampler.rowA = none ∧ f.row ≠ 1 ∧ ∀ row, ¬ RowHeld rowFetched 1 row)
      -- the second row of the pair
      ∧ (∃ f w, secondRow.fetch.inFlight = some f ∧ f.row = 1 ∧ secondRow.resampler.rowB = none
          ∧ (∃ a, secondRow.resampler.rowA = some a ∧ a.index = 0) ∧ secondRow.resampler.work = some w
          ∧ NeedsRows w (min f.row 0) (max f.row 0))
      -- the last row of the image, needed twice
      ∧ (NothingToSend lastRow ∧ ∃ f w, lastRow.fetch.inFlight = some f ∧ lastRow.resampler.work = some w
          ∧ lastRow.resampler.rowA = none ∧ NeedsRows w (min f.row 2) (max f.row 2) ∧ f.row = 2)
      ∧ (∀ f, rowFetched.fetch.inFlight = some f → f.tag ≠ 1) := by
  refine ⟨⟨_, rfl, rfl, rfl⟩, ⟨_, _, rfl, rfl, rfl⟩, ⟨_, rfl, rfl⟩, .inr ⟨rfl, .inr rfl⟩, .inl rfl, .inr ⟨rfl, .inl rfl⟩,
    by unfold CannotBeRead; decide, by unfold CannotBeRead; decide,
    ⟨_, workAt 0, jobOf, rfl, ?_, ?_, ?_, rfl, rfl, needsRows_workAt (by decide) (by decide +kernel), rfl, ?_, ?_⟩,
    ⟨_, workAt 0, rfl, ?_, rfl, ⟨_, rfl, ?_⟩, rfl, needsRows_workAt (by decide) (by decide +kernel)⟩,
    ⟨.inr ⟨rfl, .inr rfl⟩, _, workAt 2, rfl, rfl, rfl, needsRows_workAt (by decide) (by decide +kernel), rfl⟩, ?_⟩
  any_goals decide +kernel
  rintro row ⟨_, h | ⟨h, _⟩⟩ <;> cases h

/-- A fetch of each owner's work: the selection's, that of the print being exposed, and that of a closed print. -/
def faultBook (owner : WorkOwner) : State :=
  { cancelBook with
    resampler := { cancelBook.resampler with work := some { aWork with owner := owner } }
    scheduler := { cancelBook.scheduler with selection := if owner = .selection then some (.print 0 0 6) else none } }

theorem test_witness_RasterFaultStrikesItemAndOrder :
    (faultBook .exposed).fetch.inFlight = some aFetch
      ∧ IsRasterFault (faultBook .exposed) aFetch (.rowFault 3 16) (.rowFault 15)
      ∧ IsRasterFault (faultBook .exposed) aFetch (.rowFault 3 1) (.rowFault 1)
      ∧ IsRasterFault (faultBook .exposed) aFetch (.rowData 3 somePixels) .wrongLength
      ∧ IsRasterFault { faultBook .exposed with timeBase := 250 } aFetch .fetchTimeout .timeout
      ∧ (∀ owner, (faultBook owner).resampler.work = some { aWork with owner := owner })
      ∧ (∃ p, aWork.job = .print p ∧ p.slot = 0 ∧ p.item = 0) ∧ (faultBook .selection).scheduler.selects 0 = true
      ∧ (∃ o r i, (faultBook .exposed).order? 0 = some o ∧ o.state = .inPrint ∧ o.items[0]? = some r
          ∧ Table.get? (faultBook .exposed).orderTable.items r = some i) := by
  exact ⟨rfl, ⟨rfl, rfl⟩, ⟨rfl, rfl⟩, ⟨rfl, by decide, by decide, by decide, rfl⟩, ⟨⟨_, rfl, by decide⟩, rfl⟩, fun _ => rfl,
    ⟨_, rfl, rfl, rfl⟩, rfl, ⟨_, _, _, rfl, rfl, rfl, rfl⟩⟩

/-! ### Maps of 127 and 128 segments, and detections that merge -/

/-- A full map of closed segments; the same segments merged. -/
def fullMap : List Segment := (List.range 128).map fun k => seg .patch (k * 100 + 1) 100
def merging (map : List Segment) : List Segment := map.map fun k => { k with merged := true }

/-- Detection merges these first segments and stops at the next. -/
theorem passed_append {lpath : Nat} {position : Word32} {passed : List Segment} {left : List Segment}
    (h : ∀ k ∈ passed, k.merged = true
      ∨ k.closed = true ∧ 26 ≤ signedDiff position (k.start + BitVec.ofNat 32 (k.length + lpath)))
    (hl : ∀ k ∈ left.head?, k.merged = false
      ∧ (k.closed = false ∨ signedDiff position (k.start + BitVec.ofNat 32 (k.length + lpath)) ≤ 25)) :
    PassedMerged lpath position (passed ++ left) (merging passed ++ left) :=
  ⟨passed, left, rfl, rfl, h, fun k rest e => hl k (by simp [e])⟩

theorem not_losesSync {s : State} {map after : List Segment} (h : after.length ≠ 128) : ¬ LosesSync s map after :=
  fun l => h l.2.2.2.1

/-- A map of merged segments, and of merged segments before an open BLANK, has no reference end and no exposed tail. -/
theorem noReference_merged {passed left : List Segment} (h : ∀ g ∈ passed, g.merged = true) (hl : ∀ g ∈ left, g.closed = false)
    : NoReference (passed ++ left) := by
  intro ahead k rest e _ hk
  have : k ∈ passed ++ left := by rw [e]; simp
  rcases List.mem_append.mp this with m | m
  · rw [h k m] at hk; cases hk
  · exact hl k m

theorem not_exposedTail {map : List Segment} (h : ∀ g ∈ map, g.closed = true ∨ g.kind = .blank) : ¬ ExposedTail map := by
  rintro ⟨ahead, g, rfl, hc, hk⟩
  rcases h g (by simp) with e | e
  · rw [e] at hc; cases hc
  · exact hk e

/-- Where nothing is selected, no selection is tested. -/
theorem not_tested_none {s : State} {fits : Bool} (h : s.scheduler.selection = none) : ¬ SelectionTested s fits := by
  rintro ⟨_, _, ⟨e, _⟩ | ⟨_, _, _, _, _, _, _, e, _⟩⟩ <;> rw [h] at e <;> cases e

/-- 127 closed segments before an open BLANK. -/
def lastBlank (odometer : Nat) : State := withMap idle (fullMap.take 127 ++ [openSeg .blank 12701 5]) odometer

/-- The selection's print fits neither magazine. -/
def misfitBook : State :=
  { selectedBook with orderTable := { selectedBook.orderTable with
      sizes := Table.put selectedBook.orderTable.sizes 2 { aSize with paperWidth := 203 } } }

theorem misfit_tested : SelectionTested misfitBook false ∧ ¬ SelectionTested misfitBook true := by
  have fits : ¬ FitsPaper (misfitBook.scheduler.magazine .a) misfitBook.scheduler.endReserve (anItem 2 0 0 0)
      { aSize with paperWidth := 203 } := by unfold FitsPaper; decide +kernel
  refine ⟨⟨.a, rfl, .inr ⟨0, 0, 1, _, 0, _, _, rfl, rfl, rfl, rfl, rfl,
    ⟨startConditions_of (by decide +kernel), fun h => (by cases h), rfl, rfl, ?_⟩, fun h => (by cases h), fun h => absurd h fits⟩⟩, ?_⟩
  · rw [LinesStand, if_neg (by decide)]; decide +kernel
  · rintro ⟨m, hm, ⟨h, _⟩ | ⟨slot, n, copy, o, r, i, e, h, ho, hr, hi, he, _, hf⟩⟩
    · cases h
    · cases h; cases hm; cases ho; cases hr; cases hi; cases he
      exact fits (hf.mp rfl)

theorem test_witness_EveryStrobeAdvancesOdometerAndRoll :
    -- the monitor at a strobe: OFF on an empty map, with the transport running and stopped, and on a map; in FIRST
    ((running idle).web.map = [] ∧ (running idle).web.transport = .run)
      ∧ (idle.web.stage = .off ∧ idle.web.transport = .stop)
      ∧ ((withMap idle fullMap 9).web.stage = .off ∧ (withMap idle fullMap 9).web.map ≠ []) ∧ busy.web.stage ≠ .off := by
  decide +kernel

theorem waiting_not_tested (fits : Bool) : ¬ SelectionTested (startBook [0, 1] false) fits := by
  rintro ⟨m, hm, ⟨h, _⟩ | ⟨slot, n, copy, o, r, i, e, h, ho, hr, hi, he, hw, _⟩⟩
  · cases h
  · cases h; cases ho; cases hr; cases hi; cases he
    have := hw.2.2.2.2
    rw [LinesStand, if_neg (by decide)] at this
    exact absurd this (by decide +kernel)

theorem test_witness_IdleStrobesLayBlankOrLeader :
    -- an empty map, an open BLANK that closes, a pending leader, a leader that closes, a full map, where no end is passed
    (idle.channel.exposure = none ∧ WebShape idle ∧ ¬ SelectionTested idle true ∧ PassedMerged 0 1 [openSeg .blank 1 1] [openSeg .blank 1 1])
      ∧ (WebShape (withMap idle [openSeg .blank 1 2147483646] 5) ∧ (openSeg .blank 1 2147483646).closed = false)
      ∧ (WebShape (after (.magazineSwitched .engine 2) (running idle))
        ∧ (after (.magazineSwitched .engine 2) (running idle)).scheduler.leaderPending = true)
      ∧ (let s := { withMap idle [openSeg .leader 1 249] 249 with web := { (withMap idle [openSeg .leader 1 249] 249).web with
            leaderTarget := 250 } }
        WebShape s ∧ s.web.leaderExposed = true)
      ∧ (WebShape (withMap idle fullMap 12800) ∧ (withMap idle fullMap 12800).web.map.length = 128
        ∧ ∀ g ∈ fullMap, g.closed = true)
      -- 127 segments, and 128 with an open tail, without WEB FAULT: no end is passed, one is, all 127 are
      ∧ (WebShape (withMap idle (fullMap.take 127) 120125) ∧ (fullMap.take 127).length = 127
        ∧ PassedMerged 120000 120126 (fullMap.take 127) (fullMap.take 127))
      ∧ (WebShape (lastBlank 120126)
        ∧ PassedMerged 120000 120127 (fullMap.take 127 ++ [openSeg .blank 12701 6])
          (merging (fullMap.take 1) ++ ((fullMap.take 127).drop 1 ++ [openSeg .blank 12701 6])))
      ∧ (WebShape (lastBlank 200000)
        ∧ PassedMerged 120000 200001 (fullMap.take 127 ++ [openSeg .blank 12701 6])
          (merging (fullMap.take 127) ++ [openSeg .blank 12701 6])
        ∧ LosesSync (lastBlank 200000) (fullMap.take 127 ++ [openSeg .blank 12701 6])
          (merging (fullMap.take 127) ++ [openSeg .blank 12701 6]))
      -- a selection that waits for its lines, and one that does not fit
      ∧ (WebShape (startBook [0, 1] false) ∧ (startBook [0, 1] false).channel.exposure = none
        ∧ ∀ fits, ¬ SelectionTested (startBook [0, 1] false) fits)
      ∧ (WebShape misfitBook ∧ misfitBook.channel.exposure = none ∧ SelectionTested misfitBook false
        ∧ ¬ SelectionTested misfitBook true) := by
  refine ⟨⟨rfl, ?_, not_tested_none rfl, passed_append (passed := []) (by simp) (by decide)⟩, ⟨?_, rfl⟩, ⟨?_, rfl⟩, ⟨?_, rfl⟩,
    ⟨?_, rfl, ?_⟩, ⟨?_, rfl, passed_append (passed := []) (by simp) (by decide +kernel)⟩,
    ⟨?_, passed_append (passed := fullMap.take 1) (left := (fullMap.take 127).drop 1 ++ [openSeg .blank 12701 6])
      (by decide +kernel) (by decide +kernel)⟩,
    ⟨?_, passed_append (by decide +kernel) (by decide), rfl, ?_,
      noReference_merged (by decide +kernel) (by decide), rfl, not_exposedTail (by decide +kernel)⟩,
    ⟨?_, rfl, waiting_not_tested⟩, ⟨?_, rfl, misfit_tested⟩⟩
  all_goals first | decide +kernel | (unfold WebShape; decide +kernel)

/-- A print of one line selected over a map of 127; its path length makes every end, its own too, one that is passed. -/
def oneLineBook : State :=
  let s := startBook [0] false
  { s with
    orderTable := { s.orderTable with sizes := Table.put s.orderTable.sizes 2 { aSize with lp := 1 } }
    web := { s.web with map := fullMap.take 127, lpath := 2147483648 } }

theorem test_witness_StrobeBeginsTheSelection :
    -- a print of three lines, fewer than four
    (selectedBook.scheduler.active = some .a
        ∧ (∃ l rest, selectedBook.channel.queue = l :: rest ∧ l.owner = .selection ∧ l.number = 0)
        ∧ selectedBook.scheduler.selection = some (.print 0 0 1) ∧ selectedBook.order? 0 = some (anOrder 5 .ready)
        ∧ Table.get? selectedBook.orderTable.items 0 = some (anItem 2 0 0 0)
        ∧ Table.get? selectedBook.orderTable.sizes 2 = some aSize ∧ WouldBegin selectedBook aSize.lp
        ∧ FitsPaper (selectedBook.scheduler.magazine .a) selectedBook.scheduler.endReserve (anItem 2 0 0 0) aSize)
      -- right behind a print, with one line
      ∧ LinesStand (startBook [0] true) 3
      -- a print of one line at which synchronism is lost
      ∧ (WouldBegin oneLineBook 1 ∧ LosesSync oneLineBook (fullMap.take 127 ++ [seg (.print 0 0 1) 1 1])
          (merging (fullMap.take 127 ++ [seg (.print 0 0 1) 1 1]) ++ [])
        ∧ PassedMerged 2147483648 1 ((fullMap.take 127 ++ [seg (.print 0 0 1) 1 1]) ++ [])
          (merging (fullMap.take 127 ++ [seg (.print 0 0 1) 1 1]) ++ []))
      -- a patch
      ∧ (let s : State := { startBook [0, 1, 2, 3] false with
            scheduler := { selectedBook.scheduler with selection := some .patch } }
        WouldBegin s 100 ∧ 100 + s.scheduler.endReserve ≤ (s.scheduler.magazine .a).remaining) := by
  refine ⟨⟨rfl, ⟨_, _, rfl, rfl, rfl⟩, rfl, rfl, rfl, rfl,
      ⟨startConditions_of (by decide +kernel), fun h => (by cases h), rfl, rfl, ?_⟩, by unfold FitsPaper; decide +kernel⟩, ?_,
    ⟨⟨startConditions_of (by decide +kernel), fun h => (by cases h), rfl, rfl, ?_⟩,
      ⟨rfl, by decide +kernel, noReference_merged (by decide +kernel) (by decide), rfl, not_exposedTail (by decide +kernel)⟩,
      passed_append (by decide +kernel) (by simp)⟩,
    ⟨startConditions_of (by decide +kernel), fun h => (by cases h), rfl, rfl, ?_⟩, by decide +kernel⟩
  · rw [LinesStand, if_neg (by decide)]; decide +kernel
  · rw [LinesStand, if_pos (by decide)]; exact ⟨_, _, rfl, rfl, rfl⟩
  · rw [LinesStand, if_neg (by decide)]; decide +kernel
  · rw [LinesStand, if_neg (by decide)]; decide +kernel

/-- The last line of a print at the tail of a full map, every end of which, its own too, is passed. -/
def lastLineBook : State :=
  let s := exposeBook (lines .exposed [2]) false 0
  { withMap s (fullMap.take 127 ++ [openSeg (.print 0 0 1) 12701 2]) 200000 with
    channel := { s.channel with exposure := s.channel.exposure.map fun e => { e with linesExposed := 2 } } }

theorem test_witness_StrobeExposesTheLineDue :
    WebShape (exposeBook (lines .exposed [1, 2]) false 0)
      ∧ (exposeBook (lines .exposed [1, 2]) false 0).web.map = [] ++ [openSeg (.print 0 0 1) 1 1]
      ∧ (∃ e, (exposeBook (lines .exposed [1, 2]) false 0).channel.exposure = some e ∧ e.blanked = false ∧ e.linesExposed = 1)
      ∧ (∃ l rest, lines .exposed [1, 2] = l :: rest ∧ l.owner = .exposed ∧ l.number = 1)
      ∧ WebShape (exposeBook [] true 0) ∧ (∃ e, (exposeBook [] true 0).channel.exposure = some e ∧ e.blanked = true)
      -- an underrun at the tolerance, and another line at the head of the queue
      ∧ (∃ e, (exposeBook [] false 2).channel.exposure = some e ∧ e.blanked = false ∧ e.repeatCount = 2)
      ∧ (∀ l rest, lines .exposed [2] = l :: rest → l.owner ≠ .exposed ∨ l.number ≠ 1)
      -- synchronism lost at the last line of a print at the end of a full map, and not with the map one shorter
      ∧ (WebShape lastLineBook ∧ (∃ e, lastLineBook.channel.exposure = some e ∧ e.lineCount ≤ e.linesExposed + 1)
        ∧ PassedMerged 120000 200001 ((fullMap.take 127 ++ [seg (.print 0 0 1) 12701 3]) ++ [])
          (merging (fullMap.take 127 ++ [seg (.print 0 0 1) 12701 3]) ++ [])
        ∧ LosesSync lastLineBook (fullMap.take 127 ++ [seg (.print 0 0 1) 12701 3])
          (merging (fullMap.take 127 ++ [seg (.print 0 0 1) 12701 3]) ++ [])
        ∧ ¬ LosesSync lastLineBook (fullMap.take 127) (merging (fullMap.take 127))) := by
  refine ⟨?_, rfl, ⟨_, rfl, rfl, rfl⟩, ⟨_, _, rfl, rfl, rfl⟩, ?_, ⟨_, rfl, rfl⟩, ⟨_, rfl, rfl, rfl⟩, ?_, ?_, ⟨_, rfl, by decide⟩,
    passed_append (by decide +kernel) (by simp),
    ⟨rfl, by decide +kernel, noReference_merged (by decide +kernel) (by decide), rfl, not_exposedTail (by decide +kernel)⟩,
    not_losesSync (by decide +kernel)⟩
  · unfold WebShape; decide +kernel
  · unfold WebShape; decide +kernel
  · intro l rest h; cases h; exact .inr (by decide)
  · unfold WebShape; decide +kernel

theorem test_witness_HeadsAndTransport :
    Taking (exposeBook [] false 0) .engine .headFault [2] ∧ (2#8).toNat = (2 : Fin 3).val ∧ (3#8).toNat > 2
      ∧ Taking idle .engine .headReady [0] ∧ (0#8).toNat = (0 : Fin 3).val ∧ Taking idle .engine .transport [1]
      ∧ (exposeBook [] false 0).web.stage = .off ∧ (exposeBook [] false 0).web.map ≠ [] ∧ idle.web.map = []
      ∧ (stalled (.first 0)).web.stage ≠ .off ∧ (exposeBook [] false 0).exposing = true :=
  ⟨taking rfl, rfl, by decide, taking rfl, rfl, taking rfl, rfl, by decide, rfl, by decide, rfl⟩

theorem test_witness_StallStagesExpire :
    (stalled (.first 0)).web.stage = .first 0 ∧ 0 ≤ signedDiff (stalled (.first 0)).timeBase 0
      ∧ (stalled (.second 0)).web.stage = .second 0 ∧ (stalled (.second 0)).web.fault = none
      ∧ ({ stalled (.second 0) with web := { (stalled (.second 0)).web with fault := some .syncLost } } : State).web.fault.isSome = true
      ∧ signedDiff (stalled (.first 1)).timeBase 1 < 0 := by decide +kernel

/-- A sound print at the head of the map, its reference end at 121,903, its order in slot 0. -/
def cutBook (odometer : Nat) (g : Segment) (o : Order) : State :=
  withMap (book o (anItem 1 1 0 0)) [g] odometer
def soundPrint : Segment := seg (.print 0 0 1) 1900 3

theorem cutBook_bins (odometer : Nat) (g : Segment) (o : Order) : BinsOk (cutBook odometer g o) := by
  show BinsOk (book (anOrder 5 .ready) (anItem 1 1 0 0))
  unfold BinsOk Bin.ok
  decide +kernel

theorem test_witness_CutDeliversASoundPrint :
    let s := cutBook 121928 soundPrint (anOrder 5 .inPrint)
    let u := { s with orderTable := { s.orderTable with items := [(0, anItem 0 1 0 0)] } }
    Taking s .engine .cut [] ∧ s.web.fault = none ∧ s.web.map = soundPrint :: []
      ∧ signedDiff s.web.odometer (soundPrint.start + BitVec.ofNat 32 (soundPrint.length + s.web.lpath)) = 25
      ∧ signedDiff (cutBook 121878 soundPrint (anOrder 5 .inPrint)).web.odometer
          (soundPrint.start + BitVec.ofNat 32 (soundPrint.length + s.web.lpath)) = -25
      ∧ s.order? 0 = some (anOrder 5 .inPrint) ∧ Table.get? s.orderTable.items 0 = some (anItem 1 1 0 0)
      ∧ Table.get? s.orderTable.sizes 2 = some aSize
      ∧ Table.get? s.price.tariff 2 = some { n1 := 0, n2 := 0, p1 := 0, p2 := 0, p3 := 0 } ∧ BinsOk s
      -- the order is not complete with the copy, and is
      ∧ ¬ (∀ k ∈ [0], ∀ j, Table.get? s.orderTable.items k = some j → j.waiting = 0 ∧ j.onWeb = if k = 0 then 1 else 0)
      ∧ (∀ k ∈ [0], ∀ j, Table.get? u.orderTable.items k = some j → j.waiting = 0 ∧ j.onWeb = if k = 0 then 1 else 0) := by
  refine ⟨taking rfl, rfl, rfl, by decide +kernel, by decide +kernel, rfl, rfl, rfl, rfl, cutBook_bins _ _ _, fun h => ?_,
    fun k hk j hj => ?_⟩
  · exact absurd (h 0 (by simp) _ rfl).1 (by decide)
  · obtain rfl := List.mem_singleton.mp hk
    cases hj
    decide

/-- A merged group, of a print counted on web and a patch that is not read, before a sound print. -/
def groupBook : State := missedBook [{ s2 with merged := true }, s3, s4] 5123903 1 1

theorem test_witness_CutRejectsASinglePiece :
    let s := cutBook 121928 { soundPrint with suspect := true } (anOrder 5 .withdrawn)
    let u := { s with web := { s.web with fault := some .stall } }
    (Taking s .engine .cut [] ∧ s.web.map = [{ soundPrint with suspect := true }] ++ [] ∧ s.web.fault = none
        ∧ signedDiff s.web.odometer (soundPrint.start + BitVec.ofNat 32 (soundPrint.length + s.web.lpath)) = 25
        ∧ s.order? 0 = some (anOrder 5 .withdrawn) ∧ PoolAndGross s ∧ CopiesOnWeb [{ soundPrint with suspect := true }] s)
      ∧ (u.web.fault.isSome = true ∧ Taking u .engine .cut [] ∧ PoolAndGross u)
      -- a merged group
      ∧ (Taking groupBook .engine .cut [] ∧ groupBook.web.map = ([{ s2 with merged := true }] ++ [s3]) ++ [s4]
        ∧ signedDiff groupBook.web.odometer (s3.start + BitVec.ofNat 32 (s3.length + groupBook.web.lpath)) = 3
        ∧ PoolAndGross groupBook ∧ CopiesOnWeb ([{ s2 with merged := true }] ++ [s3]) groupBook
        ∧ ([{ s2 with merged := true }] ++ [s3] : List Segment).countP Segment.isPrint = 1)
      ∧ (cutBook 121928 (seg .patch 1803 100) (anOrder 5 .ready)).web.map = [seg .patch 1803 100] ++ [] :=
  ⟨⟨taking rfl, rfl, rfl, by decide +kernel, rfl, by unfold PoolAndGross; decide +kernel, copiesOnWeb_of (by decide +kernel)⟩,
    ⟨rfl, taking rfl, by unfold PoolAndGross; decide +kernel⟩,
    ⟨taking rfl, rfl, by decide +kernel, by unfold PoolAndGross; decide +kernel, copiesOnWeb_of (by decide +kernel), by decide⟩,
    rfl⟩

/-- A full map of which every end is passed. -/
def lostBook : State := withMap idle fullMap 200000

theorem test_witness_CutThatPopsNothing :
    -- a detection that merges one segment, and one that loses synchronism
    (WebShape (missedBook [s2, s3, s4] 5123826 1 1) ∧ Taking (missedBook [s2, s3, s4] 5123826 1 1) .engine .cut []
        ∧ PassedMerged 120000 5123826 ([s2] ++ [s3, s4]) (merging [s2] ++ [s3, s4])
        ∧ ¬ LosesSync (missedBook [s2, s3, s4] 5123826 1 1) [s2, s3, s4] (merging [s2] ++ [s3, s4]))
      ∧ (WebShape lostBook ∧ Taking lostBook .engine .cut [] ∧ lostBook.web.fault = none
        ∧ PassedMerged 120000 200000 (fullMap ++ []) (merging fullMap ++ [])
        ∧ LosesSync lostBook lostBook.web.map (merging fullMap ++ []))
      ∧ Taking idle .engine .cut [] ∧ idle.web.map = []
      ∧ (∀ k ∈ (cutBook 9 { soundPrint with merged := true } (anOrder 5 .ready)).web.map, k.merged = true)
      ∧ (cutBook 9 (openSeg .blank 1 1) (anOrder 5 .ready)).web.map = [] ++ openSeg .blank 1 1 :: []
      ∧ signedDiff (cutBook 121877 soundPrint (anOrder 5 .ready)).web.odometer
          (soundPrint.start + BitVec.ofNat 32 (soundPrint.length + 120000)) = -26
      ∧ (let s := cutBook 9 (openSeg .blank 1 1) (anOrder 5 .ready)
        let u := { s with web := { s.web with fault := some .stall } }
        u.web.fault.isSome = true ∧ ∀ g rest, u.web.map = g :: rest → g.closed = false) := by
  refine ⟨⟨by unfold WebShape; decide +kernel, taking rfl, passed_append (by decide +kernel) (by decide +kernel),
      not_losesSync (by decide)⟩,
    ⟨by unfold WebShape; decide +kernel, taking rfl, rfl, passed_append (by decide +kernel) (by simp), rfl, by decide +kernel,
      noReference_merged (by decide +kernel) (by simp), rfl, not_exposedTail (by decide +kernel)⟩,
    taking rfl, rfl, by decide, rfl, by decide +kernel, rfl, ?_⟩
  intro g rest h
  cases h
  rfl

theorem test_witness_WebClearedEmptiesTheMap :
    Taking (exposeBook [] false 0) .engine .webCleared [] ∧ (exposeBook [] false 0).web.fault = none
      ∧ (exposeBook [] false 0).exposing = true
      ∧ Taking clearBook .engine .webCleared [] ∧ clearBook.exposing = false ∧ clearBook.web.leaderExposed = false
      ∧ (PoolAndGross clearBook ∧ CopiesOnWeb clearBook.web.map clearBook) :=
  ⟨taking rfl, rfl, rfl, taking rfl, rfl, rfl, clearBook_ok⟩

theorem test_witness_PatchReadingSteersAndMarks :
    Taking readingBook .engine .patchReading (be16 1023 ++ be16 512 ++ be16 0) ∧ (1024#16).toNat > 1023
      ∧ (∀ g ∈ idle.web.map, ¬ (g.kind = .patch ∧ g.closed = true ∧ g.read = false))
      ∧ readingBook.web.map = [] ++ seg .patch 100 100 :: ([seg (.print 0 0 3) 200 1900, seg (.print 0 0 4) 2100 1900,
          openSeg (.print 1 0 1) 4000 800] ++ [])
      ∧ (seg .patch 100 100).closed = true ∧ (seg .patch 100 100).read = false
      ∧ (∀ k ∈ [seg (.print 0 0 3) 200 1900, seg (.print 0 0 4) 2100 1900, openSeg (.print 1 0 1) 4000 800], k.kind ≠ .patch)
      ∧ (1023#16).toNat ≤ 1023 :=
  ⟨taking rfl, by decide, by decide, rfl, rfl, rfl, by decide, by decide⟩

theorem test_witness_DensityResetStartsAfresh : Taking readingBook .engine .densityReset [] := taking rfl

theorem test_witness_EmptyingBinsAndTray :
    (∀ state, Taking (binBook state 2) .engine .binEmptied [6]) ∧ (21#8).toNat > 20 ∧ (0#8).toNat = 0
      ∧ Taking idle .engine .binEmptied [20] ∧ Table.get? idle.sort.bins (20#8).toNat = some Bin.reset
      ∧ (∃ b, Table.get? (binBook .filling 2).sort.bins (6#8).toNat = some b ∧ b.state = .filling ∧ b.owner = some 0)
      ∧ Taking idle .engine .trayEmptied [] :=
  ⟨fun _ => taking rfl, by decide, rfl, taking rfl, rfl, ⟨_, rfl, rfl, rfl⟩, taking rfl⟩

theorem test_witness_SetBinChangesAFreeBin :
    Taking idle .engine .setBin [20, 3, 251] ∧ Table.get? idle.sort.bins (20#8).toNat = some Bin.reset
      ∧ Bin.reset.state = .free ∧ (21#8).toNat > 20 ∧ 4#8 ∉ [1#8, 2#8, 3#8]
      ∧ (3#8, BinGroup.any) ∈ [(1#8, BinGroup.small), (2#8, .large), (3#8, .any)]
      ∧ (∃ b, Table.get? (binBook .full 50).sort.bins (6#8).toNat = some b ∧ b.state ≠ .free) :=
  ⟨taking rfl, rfl, rfl, by decide, by decide, by decide, ⟨_, rfl, by decide⟩⟩

theorem test_witness_AmendmentIsStaged :
    Names (amendedBook .ready) 5 0 (anOrder 5 .ready) ∧ Taking (amendedBook .ready) .till .amendOpen (be16 5)
      ∧ (amendedBook .ready).price.amendment.isSome = true
      ∧ Names readyBook 5 0 (anOrder 5 .ready) ∧ readyBook.price.amendment = none ∧ Names openBook 5 0 (anOrder 5 .opened)
      ∧ Taking (amendedBook .ready) .till .amendSet (be16 5 ++ [3] ++ be32 0)
      ∧ (∃ a, (amendedBook .ready).price.amendment = some a ∧ a.slot = 0)
      ∧ (∀ a, readyBook.price.amendment = some a → a.slot ≠ 0)
      ∧ (5#8).toNat > 4 ∧ (anOrder 5 .ready).items.length ≤ (1#32).toNat ∧ (0#32).toNat < (anOrder 5 .ready).items.length
      ∧ Taking (amendedBook .ready) .till .amendDrop (be16 5) :=
  ⟨names_amended _, taking rfl, rfl, names_book _ _, rfl, names_book _ _, taking rfl, ⟨_, rfl, rfl⟩, fun _ h => (by cases h),
    by decide, by decide, by decide, taking rfl⟩

theorem test_witness_AmendCommitWaivesAndRefunds :
    Taking (amendedBook .ready) .till .amendCommit (be16 5) ∧ TicketRefusal (amendedBook .ready) 6 .noOrder
      ∧ Names (amendedBook .ready) 5 0 (anOrder 5 .ready)
      ∧ (∃ a, (amendedBook .ready).price.amendment = some a ∧ a.slot = 0) ∧ (anOrder 5 .ready).items.Nodup
      ∧ (∀ a, readyBook.price.amendment = some a → a.slot ≠ 0) :=
  ⟨taking rfl, by unfold TicketRefusal; decide +kernel, names_amended _, ⟨_, rfl, rfl⟩, by decide, fun _ h => by cases h⟩

theorem test_witness_TariffAndDayClose :
    Taking idle .till .writeTariff ([1, 15] ++ be16 1 ++ be16 9999 ++ be16 0 ++ be16 0 ++ be16 0) ∧ idle.price.lock = false
      ∧ (after (.lockTariff .till) idle).price.lock = true ∧ (16#8).toNat > 15 ∧ (10000#16).toNat > 9999
      ∧ Taking idle .till .lockTariff [] ∧ Taking idle .till .closeDay [] ∧ idle.price.amendment = none
      ∧ idle.price.closedDay.read = true ∧ (after (.closeDay .till) idle).price.closedDay.read = false
      ∧ (amendedBook .ready).price.amendment.isSome = true ∧ Taking idle .till .readClosedDay [] :=
  ⟨taking rfl, rfl, rfl, by decide, by decide, taking rfl, taking rfl, rfl, rfl, rfl, rfl, taking rfl⟩

theorem test_witness_FillPositionsLieInside :
    IsGeometry .fill 3000 4000 1275 1900 { level := 1, wsN := 1500, hsN := 2000, step := 68985, ox := 5174062, oy := 250 }
      ∧ IsStep .fill 1500 2000 1275 1900 68985 ∧ 4096 ≤ 68985
      ∧ IsGeometry .fit 3000 4000 1275 1900 { level := 1, wsN := 1500, hsN := 2000, step := 77102, ox := -525, oy := -7710900 } := by
  refine ⟨⟨137970, 68985, rfl, ?_⟩, rfl, by decide, ⟨154203, 77102, ⟨154203, 137971, ⟨?_, fun k h => ?_⟩, ⟨?_, fun k h => ?_⟩, ?_⟩,
    ?_, ?_, ?_, ⟨77102, 68986, ⟨?_, fun k h => ?_⟩, ⟨?_, fun k h => ?_⟩, ?_⟩, ?_⟩⟩
  all_goals first | decide +kernel | omega | (dsimp only at h; omega) | exact ⟨rfl, rfl, rfl, rfl, rfl, rfl, rfl⟩

theorem test_witness_CodesStayInRange : (0 ≤ 255 ∧ 255 ≤ 255) ∧ 256 ≤ 767 ∧ 767 ≤ 767 := by decide

end Sys2Proof.Tests
end

/-! The opening of an order, SUBMIT, RELEASE, CANCEL of an OPEN order and WRITE SIZE (chapter 1): first what the tables, the
class lists, the ticket search and the operands answer, then the five statements. -/

namespace Sys2Proof.OrdersAndItems

open Sys2Proof.Machine Sys2Proof.Laws

/-! ## What two operations in a row leave unchanged -/

theorem same_trans {s t u : State} {p : Part} (hst : Same s t p) (htu : Same t u p) : Same s u p := by
  cases p <;> simp_all [Same]

theorem onlyChanges_trans {parts more : List Part} {s t u : State} (hst : OnlyChanges parts s t)
    (htu : OnlyChanges more t u) : OnlyChanges (parts ++ more) s u := by
  intro p hp
  obtain ⟨hp1, hp2⟩ : p ∉ parts ∧ p ∉ more := by simpa using hp
  exact same_trans (hst p hp1) (htu p hp2)

theorem onlyChanges_mono {parts more : List Part} {s t : State} (h : OnlyChanges parts s t) (hsub : parts ⊆ more) :
    OnlyChanges more s t := fun p hp => h p fun hin => hp (hsub hin)

theorem onlyChanges_modifyOrder (s : State) (slot : Nat) (f : Order → Order) :
    OnlyChanges [.orders] s (s.modifyOrder slot f) := by
  intro p hp
  cases p <;> simp_all [Same, State.port]

theorem onlyChanges_enlist (s : State) (slot : Nat) : OnlyChanges [.classLists, .attemptCause] s (s.enlist slot) := by
  intro p hp
  cases p <;> simp_all [Same, State.port]

/-! ## Tables -/

/-- A filter on the numbers keeps the records of the numbers it lets through and frees the others. -/
theorem get?_filter_keys {α : Type} (t : Table α) (keep : Nat → Bool) (k : Nat) :
    Table.get? (t.filter fun p => keep p.1) k = if keep k then Table.get? t k else none := by
  induction t with
  | nil => simp
  | cons p rest ih =>
    obtain ⟨j, a⟩ := p
    by_cases hj : j = k
    · subst hj
      cases hk : keep j <;> simp [hk, ih]
    · cases hk : keep j <;> simp [hk, hj, ih]

theorem modify_modify {α : Type} (t : Table α) (k : Nat) (f g : α → α) :
    Table.modify (Table.modify t k f) k g = Table.modify t k (g ∘ f) := by
  unfold Table.modify
  rw [List.map_map]
  refine List.map_congr_left fun p _ => ?_
  by_cases hk : p.1 = k <;> simp [hk]

theorem modifyOrder_modifyOrder (s : State) (slot : Nat) (f g : Order → Order) :
    (s.modifyOrder slot f).modifyOrder slot g = s.modifyOrder slot (g ∘ f) := by
  simp [State.modifyOrder, OrderTable.modifyOrder, modify_modify]

theorem lowestFree_eq_none {α : Type} {t : Table α} {limit : Nat} (h : ∀ k, k < limit → Table.get? t k ≠ none) :
    Table.lowestFree t limit = none := by
  unfold Table.lowestFree
  simpa [Option.isSome_iff_ne_none] using h

theorem lowestFree_eq_some {α : Type} {t : Table α} {limit k : Nat} (hk : k < limit) (hfree : Table.get? t k = none)
    (hbelow : ∀ j, j < k → Table.get? t j ≠ none) : Table.lowestFree t limit = some k := by
  cases hl : Table.lowestFree t limit with
  | none =>
    unfold Table.lowestFree at hl
    have := List.find?_eq_none.1 hl k (by simpa using hk)
    simp [hfree] at this
  | some j =>
    obtain ⟨-, hj, hjbelow⟩ := lowestFree_spec hl
    rcases Nat.lt_trichotomy j k with hlt | heq | hgt
    · exact absurd hj (hbelow j hlt)
    · rw [heq]
    · simpa [hfree] using hjbelow k hgt

/-- A table in rising order whose numbers lie below a limit, with one of them free, holds fewer records than the limit. -/
theorem length_lt_of_free {α : Type} {t : Table α} {limit k : Nat} (hrising : (t.map Prod.fst).Pairwise (· < ·))
    (hlt : ∀ p ∈ t, p.1 < limit) (hk : k < limit) (hfree : Table.get? t k = none) : t.length < limit := by
  have hnotin : k ∉ t.map Prod.fst := fun hin => by simpa [hfree] using get?_isSome_iff.2 hin
  have hnodup : (k :: t.map Prod.fst).Nodup :=
    List.nodup_cons.2 ⟨hnotin, hrising.imp fun h => Nat.ne_of_lt h⟩
  have hsub : (k :: t.map Prod.fst) ⊆ List.range limit := by
    intro j hj
    rcases List.mem_cons.1 hj with rfl | hj
    · exact List.mem_range.2 hk
    · obtain ⟨p, hp, rfl⟩ := List.mem_map.1 hj
      exact List.mem_range.2 (hlt p hp)
  simpa using (hnodup.subperm hsub).length_le

/-! ## Orders and class lists -/

theorem order?_of_names {s : State} {ticket : Word16} {slot : Nat} {o : Order} (h : Names s ticket slot o) :
    s.order? slot = some o := by
  obtain ⟨-, -, -, ho⟩ := h
  exact ho

theorem classList_enlist {s : State} {slot : Nat} {o : Order} (h : s.order? slot = some o) (c : OrderClass) :
    (s.enlist slot).scheduler.classList c =
      if c = o.cls then s.scheduler.classList c ++ [slot] else s.scheduler.classList c := by
  simp only [State.enlist, h, eq_comm (a := c)]
  cases c <;> rfl

/-- R8 on a READY order: window ended is set and the order joins its class list. -/
theorem expireWindow_of_ready {s : State} {slot : Nat} {o : Order} (h : s.order? slot = some o)
    (hready : o.state = .ready) :
    s.expireWindow slot = (s.modifyOrder slot fun o => { o with windowEnded := true }).enlist slot := by
  simp [State.expireWindow, h, hready]

/-- What a request leaves that changes one order's record, never its class, and then appends the order to its class list
if `joins`. -/
theorem answered_modifyOrder_enlist {s : State} {link : Link} {slot : Nat} {o : Order} {f : Order → Order} {r : Reply}
    (joins : Prop) [Decidable joins] (ho : s.order? slot = some o) (hcls : (f o).cls = o.cls) :
    let u := s.modifyOrder slot f
    let t := s.answered link (if joins then u.enlist slot else u, r)
    t.order? slot = some (f o) ∧ AppendedToListIf joins o.cls slot s t ∧ OtherOrdersSame slot s t
      ∧ OnlyChanges [.orders, .classLists, .attemptCause, .port link] s t := by
  intro u t
  have hu : u.order? slot = some (f o) := by simp [u, order?_modifyOrder, ho]
  have horder : ∀ k, t.order? k = u.order? k := fun k => by
    by_cases hj : joins <;> simp only [t, hj, if_true, if_false] <;> rfl
  refine ⟨(horder slot).trans hu, fun c => ?_, fun k hk => ?_, ?_⟩
  · by_cases hj : joins <;> simp [t, hj, classList_enlist hu, hcls, u]
  · simp [horder, u, order?_modifyOrder, hk]
  · refine onlyChanges_answered ?_ (by simp) (.inl (by simp))
    have hmod := onlyChanges_modifyOrder s slot f
    by_cases hj : joins
    · simpa only [hj, if_true] using
        onlyChanges_mono (onlyChanges_trans hmod (onlyChanges_enlist u slot)) (by simp)
    · simpa only [hj, if_false] using onlyChanges_mono hmod (by simp)

/-! ## Tickets (R3) -/

/-- The ticket a number of steps after another, 9,999 before 1. -/
def ticketFrom (t steps : Nat) : Nat := (t - 1 + steps) % 9999 + 1

theorem ticketFrom_zero {t : Nat} (h1 : 1 ≤ t) (h2 : t ≤ 9999) : ticketFrom t 0 = t := by
  unfold ticketFrom; omega

theorem ticketFrom_ticketAfter {t : Nat} (h1 : 1 ≤ t) (h2 : t ≤ 9999) (steps : Nat) :
    ticketFrom (ticketAfter t) steps = ticketFrom t (steps + 1) := by
  unfold ticketFrom ticketAfter
  split <;> omega

theorem ticketAfter_range {t : Nat} (h2 : t ≤ 9999) : 1 ≤ ticketAfter t ∧ ticketAfter t ≤ 9999 := by
  unfold ticketAfter
  split <;> omega

theorem ticketFrom_injOn {t i j : Nat} (hi : i < 9999) (hj : j < 9999) (h : ticketFrom t i = ticketFrom t j) : i = j := by
  unfold ticketFrom at h
  omega

/-- The search ends at the first ticket that no record in use holds, or has passed over as many held tickets as it has
steps. -/
theorem searchTicket_spec (T : OrderTable) (fuel : Nat) {t : Nat} (h1 : 1 ≤ t) (h2 : t ≤ 9999) :
    ∃ j, T.searchTicket fuel t = ticketFrom t j ∧ (∀ i, i < j → T.findTicket (ticketFrom t i) ≠ none)
      ∧ (T.findTicket (ticketFrom t j) = none ∨ j = fuel) := by
  induction fuel generalizing t with
  | zero => exact ⟨0, (ticketFrom_zero h1 h2).symm, by simp, .inr rfl⟩
  | succ fuel ih =>
    unfold OrderTable.searchTicket
    split
    · next hheld =>
      obtain ⟨hn1, hn2⟩ := ticketAfter_range h2
      obtain ⟨j, hj, hpassed, hend⟩ := ih hn1 hn2
      rw [ticketFrom_ticketAfter h1 h2] at hj hend
      refine ⟨j + 1, hj, fun i hi => ?_, hend.imp id (congrArg (· + 1))⟩
      cases i with
      | zero => rwa [ticketFrom_zero h1 h2, ← Option.isSome_iff_ne_none]
      | succ i => rw [← ticketFrom_ticketAfter h1 h2]; exact hpassed i (by omega)
    · next hfree =>
      refine ⟨0, (ticketFrom_zero h1 h2).symm, by simp, .inl ?_⟩
      simpa [ticketFrom_zero h1 h2] using hfree

theorem mem_tickets_of_findTicket {T : OrderTable} {ticket : Nat} (h : T.findTicket ticket ≠ none) :
    ticket ∈ T.orders.map fun p => p.2.ticket := by
  simpa [OrderTable.findTicket] using h

/-- Tickets that follow one another and are all held are no more than the records in use. -/
theorem heldRun_le_orders {T : OrderTable} {t n : Nat} (hn : n ≤ 9999)
    (hheld : ∀ i, i < n → T.findTicket (ticketFrom t i) ≠ none) : n ≤ T.orders.length := by
  have hnodup : ((List.range n).map (ticketFrom t)).Nodup :=
    List.nodup_range.map_on fun i hi j hj h => by
      have hi := List.mem_range.1 hi
      have hj := List.mem_range.1 hj
      exact ticketFrom_injOn (by omega) (by omega) h
  have hsub : (List.range n).map (ticketFrom t) ⊆ T.orders.map fun p => p.2.ticket := by
    intro x hx
    obtain ⟨i, hi, rfl⟩ := List.mem_map.1 hx
    exact mem_tickets_of_findTicket (hheld i (List.mem_range.1 hi))
  simpa using (hnodup.subperm hsub).length_le

/-- R3: with a slot free, the search of 64 steps assigns the first ticket that no record in use holds. -/
theorem searchTicket_assigns {s : State} {slot : Nat} (htickets : TicketsOk s) (hslot : slot < 64)
    (hfree : s.order? slot = none) :
    AssignsTicket s (s.orderTable.searchTicket 64 s.orderTable.nextTicket) := by
  obtain ⟨hrising, hrange, -, hnext1, hnext2⟩ := htickets
  have hfew : s.orderTable.orders.length < 64 :=
    length_lt_of_free hrising (fun p hp => (hrange p hp).1) hslot hfree
  obtain ⟨j, hj, hpassed, hend⟩ := searchTicket_spec s.orderTable 64 hnext1 hnext2
  refine ⟨j, hj, ?_, hpassed⟩
  rcases hend with hnone | rfl
  · rwa [hj]
  · exact absurd (heldRun_le_orders (by omega) hpassed) (by omega)

/-! ## Operands -/

theorem orderClass_ofByte?_eq_none {b : Byte} (h1 : b ≠ 1#8) (h2 : b ≠ 2#8) (h3 : b ≠ 3#8) :
    OrderClass.ofByte? b = none := by simp [OrderClass.ofByte?, h1, h2, h3]

theorem orderClass_ofByte?_eq_some {b : Byte} {c : OrderClass}
    (h : (b, c) ∈ [(1#8, OrderClass.express), (2#8, .standard), (3#8, .bulk)]) : OrderClass.ofByte? b = some c := by
  simp only [List.mem_cons, Prod.mk.injEq, List.not_mem_nil, or_false] at h
  rcases h with ⟨rfl, rfl⟩ | ⟨rfl, rfl⟩ | ⟨rfl, rfl⟩ <;> rfl

theorem printGroup_ofByte?_eq_none {b : Byte} (h : b ∉ [1#8, 2#8]) : PrintGroup.ofByte? b = none := by
  obtain ⟨h1, h2⟩ : b ≠ 1#8 ∧ b ≠ 2#8 := by simpa using h
  simp [PrintGroup.ofByte?, h1, h2]

/-- The bin group a byte names, and the byte that names it. -/
theorem printGroup_ofByte?_eq_some {b : Byte} {g : PrintGroup}
    (h : (b, g) ∈ [(1#8, PrintGroup.small), (2#8, .large)]) : PrintGroup.ofByte? b = some g ∧ g.toByte = b := by
  simp only [List.mem_cons, Prod.mk.injEq, List.not_mem_nil, or_false] at h
  rcases h with ⟨rfl, rfl⟩ | ⟨rfl, rfl⟩ <;> exact ⟨rfl, rfl⟩

theorem clampNat_eq_self_iff {lo hi n : Nat} (h : lo ≤ hi) : clampNat lo hi n = n ↔ lo ≤ n ∧ n ≤ hi := by
  unfold clampNat
  omega

theorem sizeInUse_iff (T : OrderTable) (index : Nat) :
    T.sizeInUse index = true ↔ ∃ p ∈ T.items, p.2.sizeIndex = index := by
  simp [OrderTable.sizeInUse]

/-! ## OPEN ORDER (R3, R4) -/

theorem serveOpenOrder_full {s : State} {cls : Byte} {c : OrderClass} (hc : OrderClass.ofByte? cls = some c)
    (hfull : ∀ k, k < 64 → s.order? k ≠ none) : serveOpenOrder cls s = refuse s .full := by
  simp [serveOpenOrder, hc, lowestFree_eq_none hfull]

/-- The state once a new record stands in a slot. -/
def opened (s : State) (slot ticket : Nat) (c : OrderClass) : State :=
  { s with orderTable := { s.orderTable with
      orders := Table.put s.orderTable.orders slot (Order.opened ticket c)
      nextTicket := ticketAfter ticket } }

theorem serveOpenOrder_taken {s : State} {cls : Byte} {c : OrderClass} {slot : Nat}
    (hc : OrderClass.ofByte? cls = some c) (hslot : slot < 64) (hfree : s.order? slot = none)
    (hbelow : ∀ k, k < slot → s.order? k ≠ none) :
    serveOpenOrder cls s =
      (opened s slot (s.orderTable.searchTicket 64 s.orderTable.nextTicket) c,
       .taken false (n16 (s.orderTable.searchTicket 64 s.orderTable.nextTicket) ++ n8 slot)) := by
  simp only [serveOpenOrder, hc, lowestFree_eq_some hslot hfree hbelow, opened]

theorem onlyChanges_opened (s : State) (slot ticket : Nat) (c : OrderClass) :
    OnlyChanges [.orders, .ticketCounter] s (opened s slot ticket c) := by
  intro p hp
  cases p <;> simp_all [Same, State.port, opened]

/-- Settles O22: the search for a ticket ends within its 64 steps, since a free slot leaves fewer than 64 tickets held. -/
theorem openOrderTakesLowestSlotAndFreeTicket : Obligations.OpenOrderTakesLowestSlotAndFreeTicket := by
  intro s cls htaking
  refine ⟨fun h1 h2 h3 => ?_, fun hcls hfull => ?_, fun c slot hc hslot hfree hbelow htickets => ?_⟩
  · exact refusedWith_of_refuse rfl htaking rfl rfl (by simp [serveOpenOrder, orderClass_ofByte?_eq_none h1 h2 h3])
  · obtain ⟨c, hc⟩ : ∃ c, OrderClass.ofByte? cls = some c := by
      rcases hcls with rfl | rfl | rfl <;> exact ⟨_, rfl⟩
    exact refusedWith_of_refuse rfl htaking rfl rfl (serveOpenOrder_full hc hfull)
  · obtain ⟨hexec, hreplied⟩ := answered_of_served (c := .openOrder .order cls) rfl htaking rfl rfl
      (serveOpenOrder_taken (orderClass_ofByte?_eq_some hc) hslot hfree hbelow)
    refine ⟨_, _, hexec, searchTicket_assigns htickets hslot hfree, get?_put_self _ _ _, rfl, hreplied,
      fun k hk => get?_put_of_ne hk, ?_⟩
    exact onlyChanges_answered (onlyChanges_mono (onlyChanges_opened _ _ _ _) (by simp)) (by simp)
      (.inr ⟨rfl, rfl, rfl⟩)

/-! ## SUBMIT (R7) -/

/-- The record of an order submitted with a window of so many milliseconds; the expiry that a window of 0 brings with it
sets window ended. -/
def submitted (now : Word32) (ms : Nat) (o : Order) : Order :=
  { o with state := .ready, eligibleAt := some (later now ms), windowEnded := o.windowEnded || decide (ms = 0) }

/-- SUBMIT of an OPEN order with items: the expiry that a window length of 0 brings with it sets window ended in the same
change of the record, and the order joins its class list. -/
theorem serveSubmit_taken {s : State} {ticket : Word16} {slot : Nat} {o : Order} (hnames : Names s ticket slot o)
    (hopened : o.state = .opened) (hitems : o.items ≠ []) (ms : Nat)
    (hms : ms = s.orderTable.windows.ofClass o.cls * 1000) :
    let u := s.modifyOrder slot (submitted s.timeBase ms)
    serveSubmit ticket s = (if ms = 0 then u.enlist slot else u, .taken false (n32 ms)) := by
  have ho := order?_of_names hnames
  rw [serveSubmit, withOrder_of_names hnames, if_neg (by simp [hopened, hitems]), ← hms]
  unfold submitted
  dsimp only
  by_cases h0 : ms = 0
  · rw [expireWindow_of_ready (o := { o with state := .ready, eligibleAt := some (later s.timeBase ms) })
      (by simp [order?_modifyOrder, ho]) rfl, modifyOrder_modifyOrder]
    simp [h0, Function.comp_def]
  · simp [h0]

/-- Settles O24: the expiry within SUBMIT is one change of the record and one append to the class list. -/
theorem submitStartsTheWindow : Obligations.SubmitStartsTheWindow := by
  intro s ticket htaking
  refine ⟨fun status hrefusal => ?_, fun slot o hnames => ⟨fun hwrong => ?_, fun ms hopened hitems hms => ?_⟩⟩
  · exact refusedWith_of_refuse rfl htaking rfl rfl (withOrder_of_refusal hrefusal)
  · exact refusedWith_of_refuse rfl htaking rfl rfl (by rw [serveSubmit, withOrder_of_names hnames, if_pos hwrong])
  · have hwindow : ms = s.orderTable.windows.ofClass o.cls * 1000 := by
      rw [hms, Nat.mul_comm]
      cases o.cls <;> rfl
    obtain ⟨hexec, hreplied⟩ := answered_of_served (c := .submit .order ticket) rfl htaking rfl rfl
      (serveSubmit_taken hnames hopened hitems ms hwindow)
    have ho := order?_of_names hnames
    obtain ⟨horder, hlist, hothers, honly⟩ := answered_modifyOrder_enlist (link := .order)
      (f := submitted s.timeBase ms) (ms = 0) ho rfl
    exact ⟨_, hexec, horder, hlist, hreplied, hothers, honly⟩

/-! ## RELEASE (R10) -/

/-- The record of an order released. -/
def released (started : Bool) (o : Order) : Order := { o with state := if started then .inPrint else .ready }

theorem serveRelease_taken {s : State} {ticket : Word16} {slot : Nat} {o : Order} (hnames : Names s ticket slot o)
    (hheld : o.state = .held) :
    let u := s.modifyOrder slot (released o.started)
    serveRelease ticket s =
      (if o.windowEnded = true then u.enlist slot else u, .taken false [if o.started then 3 else 2]) := by
  rw [serveRelease, withOrder_of_names hnames, if_neg (not_not_intro hheld)]
  cases o.started <;> rfl

/-- Settles O27: one change of the record, with an append to the class list where the window has ended. -/
theorem releaseRejoinsAtTheTail : Obligations.ReleaseRejoinsAtTheTail := by
  intro s ticket htaking
  refine ⟨fun status hrefusal => ?_, fun slot o hnames => ⟨fun hwrong => ?_, fun hheld => ?_⟩⟩
  · exact refusedWith_of_refuse rfl htaking rfl rfl (withOrder_of_refusal hrefusal)
  · exact refusedWith_of_refuse rfl htaking rfl rfl (by rw [serveRelease, withOrder_of_names hnames, if_pos hwrong])
  · obtain ⟨hexec, hreplied⟩ := answered_of_served (c := .release .order ticket) rfl htaking rfl rfl
      (serveRelease_taken hnames hheld)
    have ho := order?_of_names hnames
    obtain ⟨horder, hlist, hothers, honly⟩ := answered_modifyOrder_enlist (link := .order)
      (f := released o.started) (o.windowEnded = true) ho rfl
    exact ⟨_, hexec, horder, hlist, hreplied, hothers, honly⟩

/-! ## CANCEL of an OPEN order (R18, R24) -/

theorem freeRecord_items {s : State} {slot : Nat} {o : Order} (ho : s.order? slot = some o) :
    (s.freeRecord slot).orderTable.items = s.orderTable.items.filter fun p => !o.items.contains p.1 := by
  unfold State.order? at ho
  simp [State.freeRecord, OrderTable.refsOf, ho]

theorem recordFreed_freeRecord {s : State} {slot : Nat} {o : Order} (ho : s.order? slot = some o) :
    RecordFreed slot o s (s.freeRecord slot) := by
  have hget : ∀ r, Table.get? (s.freeRecord slot).orderTable.items r =
      if !o.items.contains r then Table.get? s.orderTable.items r else none := fun r => by
    rw [freeRecord_items ho]
    exact get?_filter_keys _ (fun k => !o.items.contains k) r
  refine ⟨get?_erase_self _ _, fun k hk => get?_erase_of_ne hk, fun r hr => ?_, fun r hr => ?_⟩
  · simp [hget, hr]
  · simp [hget, hr]

/-- The size entries named once a record is freed are those that an item of another order names. -/
theorem sizeInUse_freeRecord {s : State} {slot : Nat} {o : Order} (ho : s.order? slot = some o) (index : Nat) :
    (s.freeRecord slot).orderTable.sizeInUse index = true ↔
      ∃ p ∈ s.orderTable.items, p.1 ∉ o.items ∧ p.2.sizeIndex = index := by
  simp [sizeInUse_iff, freeRecord_items ho, and_assoc]

theorem onlyChanges_freeRecord (s : State) (slot : Nat) : OnlyChanges [.orders, .items] s (s.freeRecord slot) := by
  intro p hp
  cases p <;> simp_all [Same, State.port]

theorem serveCancel_opened {s : State} {link : Link} {ticket : Word16} {slot : Nat} {o : Order}
    (hnames : Names s ticket slot o) (hopened : o.state = .opened) :
    serveCancel link ticket s = (s.freeRecord slot, .taken false [1]) := by
  simp [serveCancel, withOrder_of_names hnames, hopened, outcomeByte]

/-- Settles O28: what R24 frees is read off the filter on the item numbers. -/
theorem cancelOfAnOpenOrderFreesIt : Obligations.CancelOfAnOpenOrderFreesIt := by
  intro s link ticket hlink htaking
  have hbelongs : RequestCode.cancel.belongs link = true := by rcases hlink with rfl | rfl <;> rfl
  refine ⟨fun status hrefusal => ?_, fun slot o hnames hopened => ?_⟩
  · exact refusedWith_of_refuse rfl htaking hbelongs rfl (withOrder_of_refusal hrefusal)
  · obtain ⟨hexec, hreplied⟩ := answered_of_served (c := .cancel link ticket) rfl htaking hbelongs rfl
      (serveCancel_opened hnames hopened)
    have ho := order?_of_names hnames
    refine ⟨_, hexec, recordFreed_freeRecord ho, sizeInUse_freeRecord ho, hreplied, ?_⟩
    exact onlyChanges_answered (onlyChanges_mono (onlyChanges_freeRecord s slot) (by simp)) (by simp)
      (.inr ⟨rfl, rfl, rfl⟩)

/-! ## WRITE SIZE (R27) -/

section
variable {s : State} {index enabled group : Byte} {wp lp paperWidth : Word16}

theorem serveWriteSize_malformed (h : index.toNat > 15 ∨ group ∉ [1#8, 2#8]) :
    serveWriteSize index enabled wp lp paperWidth group s = refuse s .malformed := by
  unfold serveWriteSize
  rcases h with h | h
  · cases PrintGroup.ofByte? group <;> simp [h]
  · simp [printGroup_ofByte?_eq_none h]

theorem serveWriteSize_locked (hindex : index.toNat ≤ 15) (hgroup : group ∈ [1#8, 2#8])
    (hused : ∃ p ∈ s.orderTable.items, p.2.sizeIndex = index.toNat) :
    serveWriteSize index enabled wp lp paperWidth group s = refuse s .locked := by
  obtain ⟨g, hg⟩ : ∃ g, PrintGroup.ofByte? group = some g := by
    simp only [List.mem_cons, List.not_mem_nil, or_false] at hgroup
    rcases hgroup with rfl | rfl <;> exact ⟨_, rfl⟩
  simp [serveWriteSize, hg, Nat.not_lt.2 hindex, (sizeInUse_iff _ _).2 hused]

/-- The state once an entry of the size table is written. -/
def sizeWritten (s : State) (index : Nat) (e : SizeEntry) : State :=
  { s with orderTable := { s.orderTable with sizes := Table.put s.orderTable.sizes index e } }

theorem onlyChanges_sizeWritten (s : State) (index : Nat) (e : SizeEntry) :
    OnlyChanges [.sizes] s (sizeWritten s index e) := by
  intro p hp
  cases p <;> simp_all [Same, State.port, sizeWritten]

theorem serveWriteSize_taken {g : PrintGroup} (hg : PrintGroup.ofByte? group = some g) (hindex : index.toNat ≤ 15)
    (hfree : ∀ p ∈ s.orderTable.items, p.2.sizeIndex ≠ index.toNat) :
    let e := SizeEntry.clamped enabled wp lp paperWidth g
    serveWriteSize index enabled wp lp paperWidth group s =
      (sizeWritten s index.toNat e,
       .taken (e.wp != wp.toNat || e.lp != lp.toNat || e.paperWidth != paperWidth.toNat) (sizeRecord e)) := by
  have hunused : ¬ s.orderTable.sizeInUse index.toNat = true := fun h => by
    obtain ⟨p, hp, hindexed⟩ := (sizeInUse_iff _ _).1 h
    exact hfree p hp hindexed
  simp [serveWriteSize, hg, Nat.not_lt.2 hindex, hunused, sizeWritten]

/-- R27: the status is OK exactly where every field stands in its range. -/
theorem clampedStatus_eq (g : PrintGroup) :
    let e := SizeEntry.clamped enabled wp lp paperWidth g
    (Reply.taken (e.wp != wp.toNat || e.lp != lp.toNat || e.paperWidth != paperWidth.toNat) (sizeRecord e)).status =
      if 1 ≤ wp.toNat ∧ wp.toNat ≤ 4096 ∧ 1 ≤ lp.toNat ∧ lp.toNat ≤ 12000 ∧ 89 ≤ paperWidth.toNat
        ∧ paperWidth.toNat ≤ 305 then .ok else .clamped := by
  have hwp := clampNat_eq_self_iff (n := wp.toNat) (show 1 ≤ 4096 by decide)
  have hlp := clampNat_eq_self_iff (n := lp.toNat) (show 1 ≤ 12000 by decide)
  have hwidth := clampNat_eq_self_iff (n := paperWidth.toNat) (show 89 ≤ 305 by decide)
  simp only [Reply.taken, SizeEntry.clamped, Bool.or_eq_true, bne_iff_ne, ne_eq, hwp, hlp, hwidth,
    ← not_and_or, and_assoc, ite_not]

/-- The record sent back for the entry WRITE SIZE stores. -/
theorem sizeRecord_clamped {g : PrintGroup} (hg : g.toByte = group) :
    sizeRecord (SizeEntry.clamped enabled wp lp paperWidth g) =
      [if enabled = 0 then 0 else 1] ++ n16 (max 1 (min 4096 wp.toNat)) ++ n16 (max 1 (min 12000 lp.toNat))
        ++ n16 (max 89 (min 305 paperWidth.toNat)) ++ [group] := by
  by_cases h0 : enabled = 0 <;> simp [sizeRecord, SizeEntry.clamped, clampNat, flagByte, hg, h0]

end

/-- Settles O33: a field is clamped exactly where it stands outside its range. -/
theorem writeSizeTestsAndClamps : Obligations.WriteSizeTestsAndClamps := by
  intro s index enabled wp lp paperWidth group htaking
  refine ⟨fun hbad => ?_, fun hindex hgroup hused => ?_, fun g hindex hgroup hfree => ?_⟩
  · exact refusedWith_of_refuse rfl htaking rfl rfl (serveWriteSize_malformed hbad)
  · exact refusedWith_of_refuse rfl htaking rfl rfl (serveWriteSize_locked hindex hgroup hused)
  · obtain ⟨hg, hbyte⟩ := printGroup_ofByte?_eq_some hgroup
    obtain ⟨hexec, hreplied⟩ := answered_of_served
      (c := .writeSize .order index enabled wp lp paperWidth group) rfl htaking rfl rfl
      (serveWriteSize_taken hg hindex hfree)
    rw [clampedStatus_eq] at hreplied
    refine ⟨_, hexec, get?_put_self _ _ _, fun k hk => get?_put_of_ne hk, ?_, ?_⟩
    · rw [← sizeRecord_clamped hbyte]
      exact hreplied
    · exact onlyChanges_answered (onlyChanges_mono (onlyChanges_sizeWritten _ _ _) (by simp)) (by simp)
        (.inr ⟨rfl, rfl, rfl⟩)

end Sys2Proof.OrdersAndItems

/-! LOAD ROLL, UNLOAD ROLL and MAGAZINE SWITCHED (chapter 2): each changes fields of the Exposure Scheduler, may then void
the standing selection (R43), and is answered. What these three stages leave unchanged is said first, once for all three
requests. -/

namespace Sys2Proof.Magazines

open Sys2Proof.Machine Sys2Proof.Laws Sys2Proof.OrdersAndItems

/-! ## Operands -/

theorem magazine_ofByte?_eq_none {b : Byte} (h : b ∉ [1#8, 2#8]) : Magazine.ofByte? b = none := by
  obtain ⟨h1, h2⟩ : b ≠ 1#8 ∧ b ≠ 2#8 := by simpa using h
  simp [Magazine.ofByte?, h1, h2]

theorem magazine_ofByte?_eq_some {b : Byte} {m : Magazine} (h : (b, m) ∈ [(1#8, Magazine.a), (2#8, .b)]) :
    Magazine.ofByte? b = some m := by
  simp only [List.mem_cons, Prod.mk.injEq, List.not_mem_nil, or_false] at h
  rcases h with ⟨rfl, rfl⟩ | ⟨rfl, rfl⟩ <;> rfl

theorem surface_ofByte?_eq_none {b : Byte} (h : b ∉ [1#8, 2#8, 3#8]) : Surface.ofByte? b = none := by
  obtain ⟨h1, h2, h3⟩ : b ≠ 1#8 ∧ b ≠ 2#8 ∧ b ≠ 3#8 := by simpa using h
  simp [Surface.ofByte?, h1, h2, h3]

theorem surface_ofByte?_eq_some {b : Byte} {u : Surface}
    (h : (b, u) ∈ [(1#8, Surface.gloss), (2#8, .matt), (3#8, .lustre)]) : Surface.ofByte? b = some u := by
  simp only [List.mem_cons, Prod.mk.injEq, List.not_mem_nil, or_false] at h
  rcases h with ⟨rfl, rfl⟩ | ⟨rfl, rfl⟩ | ⟨rfl, rfl⟩ <;> rfl

/-! ## Magazine records -/

@[simp] theorem magazine_setMagazine_same (sch : Scheduler) (m : Magazine) (r : MagazineRecord) :
    (sch.setMagazine m r).magazine m = r := by cases m <;> rfl

@[simp] theorem magazine_setMagazine_other (sch : Scheduler) (m : Magazine) (r : MagazineRecord) :
    (sch.setMagazine m r).magazine m.other = sch.magazine m.other := by cases m <;> rfl

theorem magazine_of_same {s t : State} (h : Same s t .magazines) (m : Magazine) :
    t.scheduler.magazine m = s.scheduler.magazine m := by
  obtain ⟨ha, hb⟩ := h
  cases m
  · exact ha
  · exact hb

theorem onlyChanges_setMagazine (s : State) (m : Magazine) (r : MagazineRecord) :
    OnlyChanges [.magazines] s { s with scheduler := s.scheduler.setMagazine m r } := by
  intro p hp
  cases m <;> cases p <;> simp_all [Same, State.port, Scheduler.setMagazine]

theorem magazineRecord_eq_layout (r : MagazineRecord) : magazineRecord r = r.layout := by
  have hflags : magazineFlags r = flagSum [(0, r.present), (1, r.low)] := by
    cases hp : r.present <;> cases hl : r.low <;> simp [magazineFlags, packFlags, flagSum, hp, hl]
  simp [magazineRecord, MagazineRecord.layout, hflags]

/-- R50: a request for a magazine ends, a request for the other one stands. -/
theorem filter_ne_eq_ite (requested : Option Magazine) (m : Magazine) :
    (requested.filter fun x => x != m) = if requested = some m then none else requested := by
  cases requested with
  | none => rfl
  | some x => by_cases h : x = m <;> simp [Option.filter, h]

/-! ## Voiding the standing selection and answering -/

theorem onlyChanges_refl (parts : List Part) (s : State) : OnlyChanges parts s s := by
  intro p _
  cases p <;> simp [Same]

theorem onlyChanges_voidSelection (s : State) :
    OnlyChanges [.selection, .attemptCause, .lineQueue, .work, .rows, .fetch] s s.voidSelection := by
  intro p hp
  cases p <;> simp_all [Same, State.port]

theorem onlyChanges_answer (s t : State) (link : Link) (r : Reply) :
    OnlyChanges [.attemptCause, .port link] t (s.answered link (t, r)) := by
  intro p hp
  cases p with
  | port l => exact port_answered_of_ne (by simpa using hp)
  | mask l => exact mask_answered s link l (t, r)
  | attemptCause => simp at hp
  | _ => simp [Same, State.answered, State.setPort]

/-- The state once a scheduler has taken the place of the one before and, where `voids`, its standing selection is
voided. -/
def rescheduled (s : State) (sch : Scheduler) (voids : Prop) [Decidable voids] : State :=
  if voids then State.voidSelection { s with scheduler := sch } else { s with scheduler := sch }

section
variable {s : State} {sch : Scheduler} {voids : Prop} [Decidable voids]

theorem onlyChanges_answered_rescheduled (link : Link) (r : Reply) :
    OnlyChanges [.selection, .attemptCause, .lineQueue, .work, .rows, .fetch, .port link] { s with scheduler := sch }
      (s.answered link (rescheduled s sch voids, r)) := by
  have hvoid : OnlyChanges [.selection, .attemptCause, .lineQueue, .work, .rows, .fetch] { s with scheduler := sch }
      (rescheduled s sch voids) := by
    unfold rescheduled
    split
    · exact onlyChanges_voidSelection _
    · exact onlyChanges_refl _ _
  exact onlyChanges_mono (onlyChanges_trans hvoid (onlyChanges_answer s _ link r)) (by simp)

theorem attemptCause_answered_rescheduled (hcause : sch.attemptCause = true) (link : Link) (r : Reply) :
    (s.answered link (rescheduled s sch voids, r)).scheduler.attemptCause = true := by
  have hkept : (rescheduled s sch voids).scheduler.attemptCause = true := by
    unfold rescheduled State.voidSelection
    split
    · split
      · rfl
      · exact hcause
    · exact hcause
  unfold State.answered
  simp [State.setPort, hkept]

/-- R43: what becomes of the standing selection where the scheduler that takes over holds the same one. -/
theorem voidedIf_answered_rescheduled (hsel : sch.selection = s.scheduler.selection) (link : Link) (r : Reply) :
    VoidedIf voids s (s.answered link (rescheduled s sch voids, r)) := by
  have hanswered : ∀ t : State, VoidedIf voids s t → VoidedIf voids s (s.answered link (t, r)) := fun _ h => h
  apply hanswered
  unfold VoidedIf
  split
  · next h =>
    obtain ⟨hvoids, hstands⟩ := h
    by_cases hworks : s.resampler.worksForSelection = true <;>
      simp [rescheduled, State.voidSelection, ChannelOutput.drop, WorkEnded, WorkSame, Same, Resampler.idle,
        RasterFetch.abandon, hvoids, hsel, hstands, hworks]
  · next h =>
    have hsame : rescheduled s sch voids = { s with scheduler := sch } := by
      unfold rescheduled State.voidSelection
      split
      · next hvoids => exact if_neg fun hstands => h ⟨hvoids, by simpa [hsel] using hstands⟩
      · rfl
    simp [hsame, Same, WorkSame, hsel]

/-- A request whose block puts another scheduler in place and then voids the selection where `voids`: its reply, what becomes
of the selection, and what voiding and answering leave of the scheduler put in place. -/
theorem rescheduled_of_served {c : Instr} {link : Link} {code : RequestCode} {fields : List Byte}
    {serve : State → State × Reply} {r : Reply} (hc : exec c s = .next (takeRequest link code fields serve s))
    (h : Taking s link code fields) (hb : code.belongs link = true) (hl : fields.length = code.fieldLength link)
    (hs : serve s = (rescheduled s sch voids, r)) (hsel : sch.selection = s.scheduler.selection) :
    ∃ t, exec c s = .next t ∧ Replied t link r.status r.fields ∧ VoidedIf voids s t
      ∧ (sch.attemptCause = true → t.scheduler.attemptCause = true)
      ∧ OnlyChanges [.selection, .attemptCause, .lineQueue, .work, .rows, .fetch, .port link]
          { s with scheduler := sch } t := by
  obtain ⟨hexec, hreplied⟩ := answered_of_served hc h hb hl hs
  exact ⟨_, hexec, hreplied, voidedIf_answered_rescheduled hsel link r,
    fun hcause => attemptCause_answered_rescheduled hcause link r, onlyChanges_answered_rescheduled link r⟩

end

/-! ## LOAD ROLL (R47) -/

/-- The scheduler once a roll is loaded: switch-patch is set if the magazine is the active one. -/
def rollLoaded (sch : Scheduler) (m : Magazine) (r : MagazineRecord) : Scheduler :=
  { sch.setMagazine m r with
    attemptCause := true
    switchPatch := sch.switchPatch || decide (sch.active = some m) }

theorem onlyChanges_rollLoaded (s : State) (m : Magazine) (r : MagazineRecord) :
    OnlyChanges [.magazines, .patchCadence, .attemptCause] s { s with scheduler := rollLoaded s.scheduler m r } := by
  have hrest : OnlyChanges [.patchCadence, .attemptCause] { s with scheduler := s.scheduler.setMagazine m r }
      { s with scheduler := rollLoaded s.scheduler m r } := by
    intro p hp
    cases p <;> simp_all [Same, State.port, rollLoaded]
  exact onlyChanges_trans (onlyChanges_setMagazine s m r) hrest

section
variable {s : State} {magazine surface : Byte} {width : Word16} {length : Word32}

theorem serveLoadRoll_malformed
    (h : magazine ∉ [1#8, 2#8] ∨ width.toNat < 89 ∨ width.toNat > 305 ∨ surface ∉ [1#8, 2#8, 3#8]) :
    serveLoadRoll magazine width surface length s = refuse s .malformed := by
  unfold serveLoadRoll
  split
  · next m u hm hu =>
    have hwidth : width.toNat < 89 ∨ width.toNat > 305 := by
      rcases h with h | h | h | h
      · simp [magazine_ofByte?_eq_none h] at hm
      · exact .inl h
      · exact .inr h
      · simp [surface_ofByte?_eq_none h] at hu
    exact if_pos hwidth
  · rfl

variable {m : Magazine} {u : Surface} (hm : Magazine.ofByte? magazine = some m) (hu : Surface.ofByte? surface = some u)
  (hmin : 89 ≤ width.toNat) (hmax : width.toNat ≤ 305)

include hm hu hmin hmax

theorem serveLoadRoll_wrongState (hactive : s.scheduler.active = some m) (hexposing : s.exposing = true) :
    serveLoadRoll magazine width surface length s = refuse s .wrongState := by
  simp [serveLoadRoll, hm, hu, Nat.not_lt.2 hmin, Nat.not_lt.2 hmax, hactive, hexposing]

theorem serveLoadRoll_taken (h : s.scheduler.active ≠ some m ∨ s.exposing = false) :
    let r := MagazineRecord.loaded width u length s.scheduler.endReserve
    serveLoadRoll magazine width surface length s =
      (rescheduled s (rollLoaded s.scheduler m r) (s.scheduler.active = some m),
       .taken (decide (length.toNat > 2500000)) r.layout) := by
  have hallowed : ¬ (s.scheduler.active = some m ∧ s.exposing = true) := by
    rintro ⟨hactive, hexposing⟩
    simp [hactive, hexposing] at h
  simp [serveLoadRoll, hm, hu, Nat.not_lt.2 hmin, Nat.not_lt.2 hmax, hallowed, magazineRecord_eq_layout, rescheduled,
    rollLoaded, beq_eq_decide]

end

/-- R47: the status is CLAMPED exactly where the length is past its range. -/
theorem loadedStatus_eq (length : Nat) (fields : List Byte) :
    (Reply.taken (decide (length > 2500000)) fields).status = if length ≤ 2500000 then .ok else .clamped := by
  by_cases h : length ≤ 2500000 <;> simp [Reply.taken, h]

/-! ## UNLOAD ROLL (R48) -/

/-- R48: the record of a magazine unloaded. -/
def unloaded (r : MagazineRecord) : MagazineRecord := { r with present := false, low := false }

/-- The scheduler once a roll is unloaded: a switch request for the magazine ends. -/
def rollUnloaded (sch : Scheduler) (m : Magazine) : Scheduler :=
  { sch.setMagazine m (unloaded (sch.magazine m)) with
    switchRequested := if sch.switchRequested = some m then none else sch.switchRequested }

theorem onlyChanges_rollUnloaded (s : State) (m : Magazine) :
    OnlyChanges [.magazines, .switchRequest] s { s with scheduler := rollUnloaded s.scheduler m } := by
  have hrest : OnlyChanges [.switchRequest]
      { s with scheduler := s.scheduler.setMagazine m (unloaded (s.scheduler.magazine m)) }
      { s with scheduler := rollUnloaded s.scheduler m } := by
    intro p hp
    cases p <;> simp_all [Same, State.port, rollUnloaded]
  exact onlyChanges_trans (onlyChanges_setMagazine s m _) hrest

section
variable {s : State} {magazine : Byte} {m : Magazine}

theorem serveUnloadRoll_malformed (h : magazine ∉ [1#8, 2#8]) :
    serveUnloadRoll magazine s = refuse s .malformed := by
  simp [serveUnloadRoll, magazine_ofByte?_eq_none h]

theorem serveUnloadRoll_wrongState (hm : Magazine.ofByte? magazine = some m) (hactive : s.scheduler.active = some m)
    (hexposing : s.exposing = true) : serveUnloadRoll magazine s = refuse s .wrongState := by
  simp [serveUnloadRoll, hm, hactive, hexposing]

theorem serveUnloadRoll_taken (hm : Magazine.ofByte? magazine = some m)
    (h : s.scheduler.active ≠ some m ∨ s.exposing = false) :
    serveUnloadRoll magazine s =
      (rescheduled s (rollUnloaded s.scheduler m) (s.scheduler.active = some m),
       .taken false (unloaded (s.scheduler.magazine m)).layout) := by
  have hallowed : ¬ (s.scheduler.active = some m ∧ s.exposing = true) := by
    rintro ⟨hactive, hexposing⟩
    simp [hactive, hexposing] at h
  simp [serveUnloadRoll, hm, hallowed, magazineRecord_eq_layout, rescheduled, rollUnloaded, unloaded,
    filter_ne_eq_ite]

end

/-- Settles O35: the scheduler's fields are read off the scheduler each request puts in place, which voiding and answering
leave alone but for the selection and the attempt cause. -/
theorem loadAndUnloadRoll : Obligations.LoadAndUnloadRoll := by
  refine ⟨fun s magazine width surface length htaking => ⟨fun hbad => ?_, fun m u hm hmin hmax hu =>
      ⟨fun hactive hexposing => ?_, fun hallowed => ?_⟩⟩,
    fun s magazine htaking => ⟨fun hbad => ?_, fun m hm => ⟨fun hactive hexposing => ?_, fun hallowed => ?_⟩⟩⟩
  · exact refusedWith_of_refuse rfl htaking rfl rfl (serveLoadRoll_malformed hbad)
  · exact refusedWith_of_refuse rfl htaking rfl rfl (serveLoadRoll_wrongState (magazine_ofByte?_eq_some hm)
      (surface_ofByte?_eq_some hu) hmin hmax hactive hexposing)
  · have hloaded := onlyChanges_rollLoaded s m (MagazineRecord.loaded width u length s.scheduler.endReserve)
    obtain ⟨t, hexec, hreplied, hvoided, hcause, hafter⟩ := rescheduled_of_served
      (c := .loadRoll .engine magazine width surface length) rfl htaking rfl rfl
      (serveLoadRoll_taken (magazine_ofByte?_eq_some hm) (surface_ofByte?_eq_some hu) hmin hmax hallowed)
      (hloaded .selection (by simp))
    rw [loadedStatus_eq] at hreplied
    have hmagazine := magazine_of_same (hafter .magazines (by simp))
    obtain ⟨hcounter, hswitch, hreset⟩ := hafter .patchCadence (by simp)
    obtain ⟨hcounter', -, hreset'⟩ := onlyChanges_setMagazine s m
      (MagazineRecord.loaded width u length s.scheduler.endReserve) .patchCadence (by simp)
    refine ⟨t, _, hexec, rfl, (hmagazine m).trans (magazine_setMagazine_same _ _ _),
      (hmagazine m.other).trans (magazine_setMagazine_other _ _ _), hswitch, hcounter.trans hcounter',
      hreset.trans hreset', hcause rfl, hvoided, hreplied, ?_⟩
    exact onlyChanges_mono (onlyChanges_trans hloaded hafter) (by simp)
  · exact refusedWith_of_refuse rfl htaking rfl rfl (serveUnloadRoll_malformed hbad)
  · exact refusedWith_of_refuse rfl htaking rfl rfl
      (serveUnloadRoll_wrongState (magazine_ofByte?_eq_some hm) hactive hexposing)
  · have hunloaded := onlyChanges_rollUnloaded s m
    obtain ⟨t, hexec, hreplied, hvoided, -, hafter⟩ := rescheduled_of_served
      (c := .unloadRoll .engine magazine) rfl htaking rfl rfl
      (serveUnloadRoll_taken (magazine_ofByte?_eq_some hm) hallowed) (hunloaded .selection (by simp))
    have hmagazine := magazine_of_same (hafter .magazines (by simp))
    refine ⟨t, _, hexec, rfl, (hmagazine m).trans (magazine_setMagazine_same _ _ _),
      (hmagazine m.other).trans (magazine_setMagazine_other _ _ _), hafter .switchRequest (by simp), hvoided,
      hreplied, ?_⟩
    exact onlyChanges_mono (onlyChanges_trans hunloaded hafter) (by simp)

/-! ## MAGAZINE SWITCHED (R51, R52) -/

/-- The scheduler once a magazine is made active. -/
def magazineTaken (sch : Scheduler) (m : Magazine) : Scheduler :=
  { sch with
    active := some m
    switchRequested := if sch.switchRequested = some m then none else sch.switchRequested
    switchPatch := true
    leaderPending := decide (sch.leaderLength ≠ 0)
    attemptCause := true }

theorem onlyChanges_magazineTaken (s : State) (m : Magazine) :
    OnlyChanges [.active, .switchRequest, .patchCadence, .leaderPending, .attemptCause] s
      { s with scheduler := magazineTaken s.scheduler m } := by
  intro p hp
  cases p <;> simp_all [Same, State.port, magazineTaken]

section
variable {s : State} {magazine : Byte}

theorem serveMagazineSwitched_malformed (h : magazine ∉ [1#8, 2#8]) :
    serveMagazineSwitched magazine s = refuse s .malformed := by
  simp [serveMagazineSwitched, magazine_ofByte?_eq_none h]

theorem serveMagazineSwitched_wrongState (hmem : magazine ∈ [1#8, 2#8])
    (h : s.exposing = true ∨ s.web.leaderExposed = true) :
    serveMagazineSwitched magazine s = refuse s .wrongState := by
  obtain ⟨m, hm⟩ : ∃ m, Magazine.ofByte? magazine = some m := by
    simp only [List.mem_cons, List.not_mem_nil, or_false] at hmem
    rcases hmem with rfl | rfl <;> exact ⟨_, rfl⟩
  simp [serveMagazineSwitched, hm, h]

theorem serveMagazineSwitched_taken {m : Magazine} (hm : Magazine.ofByte? magazine = some m)
    (hexposing : s.exposing = false) (hleader : s.web.leaderExposed = false) :
    serveMagazineSwitched magazine s =
      (rescheduled s (magazineTaken s.scheduler m) True, .taken false []) := by
  have hpending : (s.scheduler.leaderLength != 0) = decide (s.scheduler.leaderLength ≠ 0) := by
    simp [bne, beq_eq_decide]
  simp [serveMagazineSwitched, hm, hexposing, hleader, rescheduled, magazineTaken, filter_ne_eq_ite, hpending]

end

/-- Settles O36: the fields of the scheduler that takes over are those asked for, and its selection is voided whatever it
is. -/
theorem magazineSwitchedTakesTheMagazine : Obligations.MagazineSwitchedTakesTheMagazine := by
  intro s magazine htaking
  refine ⟨fun hbad => ?_, fun hmem hbusy => ?_, fun m hm hexposing hleader => ?_⟩
  · exact refusedWith_of_refuse rfl htaking rfl rfl (serveMagazineSwitched_malformed hbad)
  · exact refusedWith_of_refuse rfl htaking rfl rfl (serveMagazineSwitched_wrongState hmem hbusy)
  · obtain ⟨t, hexec, hreplied, hvoided, hcause, hafter⟩ := rescheduled_of_served
      (c := .magazineSwitched .engine magazine) rfl htaking rfl rfl
      (serveMagazineSwitched_taken (magazine_ofByte?_eq_some hm) hexposing hleader) rfl
    obtain ⟨hcounter, hswitch, hreset⟩ := hafter .patchCadence (by simp)
    refine ⟨t, hexec, hafter .active (by simp), hafter .switchRequest (by simp), hvoided, hswitch, hcounter,
      hreset, hafter .leaderPending (by simp), hcause rfl, hreplied, ?_⟩
    exact onlyChanges_mono (onlyChanges_trans (onlyChanges_magazineTaken s m) hafter) (by simp)

end Sys2Proof.Magazines

/-! BIN EMPTIED, TRAY EMPTIED and SET BIN (chapter 7): what the operands name, what a change of one bin and of its owner's
record leaves, then the two statements. -/

namespace Sys2Proof.Sorting

open Sys2Proof.Machine Sys2Proof.Laws Sys2Proof.OrdersAndItems

/-! ## Operands -/

theorem binNumber?_eq_none {b : Byte} (h : b.toNat = 0 ∨ b.toNat > 20) : binNumber? b = none :=
  if_neg (by omega)

theorem binNumber?_eq_some {b : Byte} (hmin : 1 ≤ b.toNat) (hmax : b.toNat ≤ 20) : binNumber? b = some b.toNat :=
  if_pos ⟨hmin, hmax⟩

theorem binGroup_ofByte?_eq_none {b : Byte} (h : b ∉ [1#8, 2#8, 3#8]) : BinGroup.ofByte? b = none := by
  obtain ⟨h1, h2, h3⟩ : b ≠ 1#8 ∧ b ≠ 2#8 ∧ b ≠ 3#8 := by simpa using h
  simp [BinGroup.ofByte?, h1, h2, h3]

/-- The group of a bin a byte names, and the byte that names it. -/
theorem binGroup_ofByte?_eq_some {b : Byte} {g : BinGroup}
    (h : (b, g) ∈ [(1#8, BinGroup.small), (2#8, .large), (3#8, .any)]) : BinGroup.ofByte? b = some g ∧ g.toByte = b := by
  simp only [List.mem_cons, Prod.mk.injEq, List.not_mem_nil, or_false] at h
  rcases h with ⟨rfl, rfl⟩ | ⟨rfl, rfl⟩ | ⟨rfl, rfl⟩ <;> exact ⟨rfl, rfl⟩

theorem n8_toNat (b : Byte) : n8 b.toNat = [b] := by simp [n8]

/-! ## The change of one bin -/

/-- The state once one bin is changed. -/
def binChanged (s : State) (n : Nat) (f : Bin → Bin) : State :=
  { s with sort := { s.sort with bins := Table.modify s.sort.bins n f } }

theorem bin_binChanged {s : State} {n : Nat} {b : Bin} (hb : Table.get? s.sort.bins n = some b) (f : Bin → Bin) :
    Table.get? (binChanged s n f).sort.bins n = some (f b) := by
  simp [binChanged, hb]

theorem otherBinsSame_binChanged (s : State) (n : Nat) (f : Bin → Bin) : OtherBinsSame [n] s (binChanged s n f) :=
  fun _ hk => get?_modify_of_ne (by simpa using hk)

theorem onlyChanges_binChanged (s : State) (n : Nat) (f : Bin → Bin) : OnlyChanges [.bins] s (binChanged s n f) := by
  intro p hp
  cases p <;> simp_all [Same, State.port, binChanged]

/-! ## The change of the record of a bin's owner -/

/-- The state once the record of an order is changed, where a bin has an owner. -/
def ownerChanged (s : State) (owner : Option Nat) (f : Order → Order) : State :=
  { s with orderTable := match owner with
      | some slot => s.orderTable.modifyOrder slot f
      | none => s.orderTable }

theorem order?_ownerChanged (s : State) (owner : Option Nat) (f : Order → Order) (k : Nat) :
    (ownerChanged s owner f).order? k = if owner = some k then (s.order? k).map f else s.order? k := by
  cases owner with
  | none => rfl
  | some slot =>
    refine (order?_modifyOrder s slot k f).trans ?_
    by_cases hk : k = slot
    · simp [hk]
    · simp [hk, Ne.symm hk]

theorem onlyChanges_ownerChanged (s : State) (owner : Option Nat) (f : Order → Order) :
    OnlyChanges [.orders] s (ownerChanged s owner f) := by
  cases owner with
  | none => intro p _; cases p <;> simp [Same, State.port, ownerChanged]
  | some slot => exact onlyChanges_modifyOrder s slot f

/-! ## BIN EMPTIED and TRAY EMPTIED (R151, R153) -/

theorem serveBinEmptied_malformed {bin : Byte} (h : bin.toNat = 0 ∨ bin.toNat > 20) (s : State) :
    serveBinEmptied bin s = refuse s .malformed := by
  simp [serveBinEmptied, binNumber?_eq_none h]

/-- The state once a bin is emptied that had this record. -/
def binCleared (s : State) (n : Nat) (b : Bin) : State :=
  ownerChanged (binChanged s n Bin.emptied) b.owner (Order.binEmptied b.state n)

theorem serveBinEmptied_taken {s : State} {bin : Byte} {b : Bin} (hmin : 1 ≤ bin.toNat) (hmax : bin.toNat ≤ 20)
    (hb : Table.get? s.sort.bins bin.toNat = some b) :
    serveBinEmptied bin s = (binCleared s bin.toNat b, .taken false [b.emptied.state.toByte]) := by
  simp only [serveBinEmptied, binNumber?_eq_some hmin hmax, hb]
  rfl

theorem onlyChanges_binCleared (s : State) (n : Nat) (b : Bin) :
    OnlyChanges [.orders, .bins] s (binCleared s n b) :=
  onlyChanges_mono (onlyChanges_trans (onlyChanges_binChanged s n _) (onlyChanges_ownerChanged _ _ _)) (by simp)

/-- The state once the tray is emptied. -/
def trayCleared (s : State) : State := { s with sort := { s.sort with trayCount := 0 } }

theorem onlyChanges_trayCleared (s : State) : OnlyChanges [.trayCount] s (trayCleared s) := by
  intro p hp
  cases p <;> simp_all [Same, State.port, trayCleared]

/-- Settles O54: emptying a bin changes its record and the record of its owner, and each is read back by its own law. -/
theorem emptyingBinsAndTray : Obligations.EmptyingBinsAndTray := by
  refine ⟨fun s bin htaking => ⟨fun hbad => ?_, fun b hmin hmax hb => ?_⟩, fun s htaking => ?_⟩
  · exact refusedWith_of_refuse rfl htaking rfl rfl (serveBinEmptied_malformed hbad s)
  · obtain ⟨hexec, hreplied⟩ := answered_of_served (c := .binEmptied .engine bin) rfl htaking rfl rfl
      (serveBinEmptied_taken hmin hmax hb)
    refine ⟨_, b.emptied, hexec, ?_, bin_binChanged hb _, otherBinsSame_binChanged s _ _, fun slot => ?_, hreplied, ?_⟩
    · unfold Bin.emptied
      cases b.state <;> rfl
    · refine (order?_ownerChanged (binChanged s bin.toNat Bin.emptied) b.owner _ slot).trans ?_
      cases b.state <;> rfl
    · exact onlyChanges_answered (onlyChanges_mono (onlyChanges_binCleared s _ b) (by simp)) (by simp)
        (.inr ⟨rfl, rfl, rfl⟩)
  · obtain ⟨hexec, hreplied⟩ := answered_of_served (c := .trayEmptied .engine) (t := trayCleared s)
      (serve := serveTrayEmptied) rfl htaking rfl rfl rfl
    refine ⟨_, hexec, rfl, hreplied, ?_⟩
    exact onlyChanges_answered (onlyChanges_mono (onlyChanges_trayCleared s) (by simp)) (by simp)
      (.inr ⟨rfl, rfl, rfl⟩)

/-! ## SET BIN (R154) -/

/-- The record of a bin that takes a group and a capacity. -/
def binSet (g : BinGroup) (capacity : Nat) (b : Bin) : Bin := { b with group := g, capacity := capacity }

section
variable {s : State} {bin group capacity : Byte}

theorem serveSetBin_malformed (h : bin.toNat = 0 ∨ bin.toNat > 20 ∨ group ∉ [1#8, 2#8, 3#8]) :
    serveSetBin bin group capacity s = refuse s .malformed := by
  rcases or_assoc.2 h with h | h
  · simp [serveSetBin, binNumber?_eq_none h]
  · simp [serveSetBin, binGroup_ofByte?_eq_none h]

variable {b : Bin} {g : BinGroup} (hmin : 1 ≤ bin.toNat) (hmax : bin.toNat ≤ 20) (hg : BinGroup.ofByte? group = some g)
  (hb : Table.get? s.sort.bins bin.toNat = some b)

include hmin hmax hg hb

theorem serveSetBin_wrongState (hstate : b.state ≠ .free) :
    serveSetBin bin group capacity s = refuse s .wrongState := by
  simp [serveSetBin, binNumber?_eq_some hmin hmax, hg, hb, hstate]

theorem serveSetBin_taken (hbyte : g.toByte = group) (hstate : b.state = .free) :
    let c := clampNat 1 250 capacity.toNat
    serveSetBin bin group capacity s =
      (binChanged s bin.toNat (binSet g c),
       .taken (c != capacity.toNat) ([bin, group] ++ n8 c)) := by
  simp only [serveSetBin, binNumber?_eq_some hmin hmax, hg, hb, hstate, n8_toNat, hbyte, ne_eq, not_true_eq_false,
    if_false]
  rfl

end

/-- R154: the status is OK exactly where the capacity stands in its range. -/
theorem setBinStatus_eq (capacity : Nat) (fields : List Byte) :
    (Reply.taken (clampNat 1 250 capacity != capacity) fields).status =
      if 1 ≤ capacity ∧ capacity ≤ 250 then .ok else .clamped := by
  simp only [Reply.taken, bne_iff_ne, ne_eq, clampNat_eq_self_iff (show 1 ≤ 250 by decide), ite_not]

/-- Settles O55: a refused request fails one of R154's tests; a taken one changes the group and the capacity of one bin. -/
theorem setBinChangesAFreeBin : Obligations.SetBinChangesAFreeBin := by
  intro s bin group capacity htaking
  refine ⟨fun hbad => ?_, fun b g hmin hmax hgroup hb => ?_⟩
  · exact refusedWith_of_refuse rfl htaking rfl rfl (serveSetBin_malformed hbad)
  · obtain ⟨hg, hbyte⟩ := binGroup_ofByte?_eq_some hgroup
    refine ⟨fun hstate => ?_, fun hstate => ?_⟩
    · exact refusedWith_of_refuse rfl htaking rfl rfl (serveSetBin_wrongState hmin hmax hg hb hstate)
    · obtain ⟨hexec, hreplied⟩ := answered_of_served (c := .setBin .engine bin group capacity) rfl htaking rfl rfl
        (serveSetBin_taken hmin hmax hg hb hbyte hstate)
      rw [setBinStatus_eq] at hreplied
      refine ⟨_, hexec, bin_binChanged hb _, otherBinsSame_binChanged s _ _, hreplied, ?_⟩
      exact onlyChanges_answered (onlyChanges_mono (onlyChanges_binChanged s _ _) (by simp)) (by simp)
        (.inr ⟨rfl, rfl, rfl⟩)

end Sys2Proof.Sorting

/-! AMEND COMMIT (R168), the tariff (R159, R160) and the day close (R179, R180): which items a waive set names, what a request
that changes nothing but the Price Unit leaves, then the two statements. -/

namespace Sys2Proof.Till

open Sys2Proof.Machine Sys2Proof.Laws Sys2Proof.OrdersAndItems

/-! ## The items of an order and of a waive set -/

section
variable {s : State} {slot : Nat} {o : Order} (ho : s.order? slot = some o)

include ho

theorem itemRef?_of_order (n : Nat) : s.orderTable.itemRef? slot n = o.items[n]? := by
  unfold State.order? at ho
  simp [OrderTable.itemRef?, ho]

theorem refsOf_of_order : s.orderTable.refsOf slot = o.items := by
  unfold State.order? at ho
  simp [OrderTable.refsOf, ho]

theorem item?_eq_some {n : Nat} {i : Item} :
    s.orderTable.item? slot n = some i ↔ ∃ r, o.items[n]? = some r ∧ Table.get? s.orderTable.items r = some i := by
  simp [OrderTable.item?, itemRef?_of_order ho, Option.bind_eq_some_iff]

theorem mem_numberedItems {n : Nat} {i : Item} :
    (n, i) ∈ s.orderTable.numberedItems slot ↔ s.orderTable.item? slot n = some i := by
  constructor
  · intro h
    simp only [OrderTable.numberedItems, List.mem_filterMap, Option.map_eq_some_iff, Prod.mk.injEq] at h
    obtain ⟨_, -, _, hi, rfl, rfl⟩ := h
    exact hi
  · intro hi
    obtain ⟨r, hr, -⟩ := (item?_eq_some ho).1 hi
    obtain ⟨hn, -⟩ := List.getElem?_eq_some_iff.1 hr
    exact List.mem_filterMap.2 ⟨n, by simpa [refsOf_of_order ho] using hn, by simp [hi]⟩

/-- R168: the records AMEND COMMIT waives are those of the order's items that are in the waive set and not yet waived. -/
theorem mem_waivedRefs {w : BitVec 24} {r : Nat} :
    r ∈ s.orderTable.waivedRefs slot w ↔
      ∃ n i, o.items[n]? = some r ∧ Table.get? s.orderTable.items r = some i ∧ w.getLsbD n = true
        ∧ i.waived = false := by
  simp only [OrderTable.waivedRefs, List.mem_filterMap, List.mem_filter, Prod.exists, mem_numberedItems ho,
    item?_eq_some ho, itemRef?_of_order ho, inWaiveSet, Bool.and_eq_true, Bool.not_eq_true']
  constructor
  · rintro ⟨n, i, ⟨⟨r', hr', hi⟩, hin, hwaived⟩, hr⟩
    obtain rfl : r' = r := Option.some.inj (hr'.symm.trans hr)
    exact ⟨n, i, hr, hi, hin, hwaived⟩
  · rintro ⟨n, i, hr, hi, hin, hwaived⟩
    exact ⟨n, i, ⟨⟨r, hr, hi⟩, hin, hwaived⟩, hr⟩

/-- Where no item record is listed twice, the record of one item number is waived by that number's own bit. -/
theorem mem_waivedRefs_of_nodup (hnodup : o.items.Nodup) {w : BitVec 24} {n r : Nat} {i : Item}
    (hr : o.items[n]? = some r) (hi : Table.get? s.orderTable.items r = some i) :
    r ∈ s.orderTable.waivedRefs slot w ↔ w.getLsbD n = true ∧ i.waived = false := by
  rw [mem_waivedRefs ho]
  constructor
  · rintro ⟨m, j, hm, hj, hin, hwaived⟩
    obtain ⟨hn, -⟩ := List.getElem?_eq_some_iff.1 hr
    obtain rfl : n = m := (List.getElem?_inj hn hnodup).1 (hr.trans hm.symm)
    obtain rfl : i = j := Option.some.inj (hi.symm.trans hj)
    exact ⟨hin, hwaived⟩
  · rintro ⟨hin, hwaived⟩
    exact ⟨n, i, hr, hi, hin, hwaived⟩

end

/-! ## AMEND COMMIT (R168) -/

section
variable {s : State} {ticket : Word16} {slot : Nat} {o : Order} {serve : Nat → Order → Amendment → State × Reply}

theorem withAmendment_of_refusal {status : Status} (h : TicketRefusal s ticket status) :
    withAmendment s ticket serve = refuse s status := withOrder_of_refusal h

theorem withAmendment_wrongState (hnames : Names s ticket slot o)
    (hother : ∀ a, s.price.amendment = some a → a.slot ≠ slot) :
    withAmendment s ticket serve = refuse s .wrongState := by
  rw [withAmendment, withOrder_of_names hnames]
  cases ha : s.price.amendment with
  | none => rfl
  | some a => exact if_neg (hother a ha)

theorem withAmendment_of_amended (hnames : Names s ticket slot o) {a : Amendment} (ha : s.price.amendment = some a)
    (hslot : a.slot = slot) : withAmendment s ticket serve = serve slot o a := by
  rw [withAmendment, withOrder_of_names hnames]
  simp [ha, hslot]

end

/-- The state once the amendment of the order in a slot is committed and closed. -/
def committed (s : State) (slot : Nat) (a : Amendment) : State :=
  { s with orderTable := s.orderTable.commit slot a, price := { s.price with amendment := none } }

/-- The record of an order that takes the discount and the adjustment of an amendment and gives back a refund. -/
def amended (a : Amendment) (refund : Nat) (o : Order) : Order :=
  Order.withFinal { o with discount := a.discount, adjustment := a.adjustment, gross := o.gross - refund }

theorem order?_committed (s : State) (slot : Nat) (a : Amendment) (k : Nat) :
    (committed s slot a).order? k =
      if k = slot then (s.order? slot).map (amended a (s.orderTable.refundOf slot a.waive)) else s.order? k :=
  get?_modify s.orderTable.orders slot k (amended a (s.orderTable.refundOf slot a.waive))

theorem item_committed (s : State) (slot : Nat) (a : Amendment) (r : Nat) :
    Table.get? (committed s slot a).orderTable.items r =
      if r ∈ s.orderTable.waivedRefs slot a.waive then (Table.get? s.orderTable.items r).map Item.waive
      else Table.get? s.orderTable.items r :=
  get?_modifyAll s.orderTable.items (s.orderTable.waivedRefs slot a.waive) r Item.waive

theorem otherItemsSame_committed {s : State} {slot : Nat} {o : Order} (ho : s.order? slot = some o) (a : Amendment) :
    OtherItemsSame o.items s (committed s slot a) := by
  intro r hr
  have hout : r ∉ s.orderTable.waivedRefs slot a.waive := fun hin => by
    obtain ⟨_, _, hlisted, -⟩ := (mem_waivedRefs ho).1 hin
    exact hr (List.mem_of_getElem? hlisted)
  rw [item_committed, if_neg hout]

theorem onlyChanges_committed (s : State) (slot : Nat) (a : Amendment) :
    OnlyChanges [.orders, .items, .amendment] s (committed s slot a) := by
  intro p hp
  cases p <;> simp_all [Same, State.port, committed, OrderTable.commit, OrderTable.modifyOrder]

theorem serveAmendCommit_taken {s : State} {ticket : Word16} {slot : Nat} {o : Order} {a : Amendment}
    (hnames : Names s ticket slot o) (ha : s.price.amendment = some a) (hslot : a.slot = slot) :
    let refund := waivedSum s o a.waive
    serveAmendCommit ticket s = (committed s slot a,
      .taken false (n32 refund ++ n32 (o.gross - refund)
        ++ n32 (finalOf (o.gross - refund) a.discount a.adjustment))) := by
  rw [serveAmendCommit, withAmendment_of_amended hnames ha hslot, refundOf_eq (order?_of_names hnames)]
  rfl

/-- Settles O57: the waived records are found by item number, and the refund is the sum over the same numbers. -/
theorem amendCommitWaivesAndRefunds : Obligations.AmendCommitWaivesAndRefunds := by
  intro s ticket htaking
  refine ⟨fun status hrefusal => ?_, fun slot o hnames => ⟨fun hother => ?_, fun a ha hslot hnodup => ?_⟩⟩
  · exact refusedWith_of_refuse rfl htaking rfl rfl (withAmendment_of_refusal hrefusal)
  · exact refusedWith_of_refuse rfl htaking rfl rfl (withAmendment_wrongState hnames hother)
  · obtain ⟨hexec, hreplied⟩ := answered_of_served (c := .amendCommit .till ticket) rfl htaking rfl rfl
      (serveAmendCommit_taken hnames ha hslot)
    have ho := order?_of_names hnames
    refine ⟨_, _, _, _, hexec, rfl, rfl, rfl, ?_, fun n r i hr hi => ?_, rfl, hreplied, fun k hk => ?_,
      otherItemsSame_committed ho a, ?_⟩
    · rw [order?_answered, order?_committed, if_pos rfl, ho, refundOf_eq ho]
      rfl
    · refine (item_committed s slot a r).trans ?_
      simp only [mem_waivedRefs_of_nodup ho hnodup hr hi, hi, Option.map_some, apply_ite some]
      rfl
    · rw [order?_answered, order?_committed, if_neg hk]
    · exact onlyChanges_answered (onlyChanges_mono (onlyChanges_committed s slot a) (by simp)) (by simp)
        (.inr ⟨rfl, rfl, rfl⟩)

/-! ## A request that changes the Price Unit only -/

/-- The state once another Price Unit has taken the place of the one before. -/
def repriced (s : State) (p : PriceUnit) : State := { s with price := p }

/-- The parts of the state that are the Price Unit's. -/
def priceParts : List Part := [.tariff, .tariffLock, .amendment, .totals, .closedDay]

theorem onlyChanges_repriced {s : State} {p : PriceUnit} {parts : List Part}
    (hprice : ∀ part ∈ priceParts, part ∉ parts → Same s (repriced s p) part) :
    OnlyChanges parts s (repriced s p) := by
  intro part hpart
  cases part
  case tariff | tariffLock | amendment | totals | closedDay => exact hprice _ (by simp [priceParts]) hpart
  all_goals simp [Same, State.port, repriced]

/-- A request whose block puts another Price Unit in place and answers: its reply, and what of the Price Unit it leaves. -/
theorem repriced_of_served {c : Instr} {s : State} {p : PriceUnit} {link : Link} {code : RequestCode}
    {fields : List Byte} {serve : State → State × Reply} {r : Reply} {parts : List Part}
    (hc : exec c s = .next (takeRequest link code fields serve s)) (h : Taking s link code fields)
    (hb : code.belongs link = true) (hl : fields.length = code.fieldLength link) (hs : serve s = (repriced s p, r))
    (hport : .port link ∈ parts) (hprice : ∀ part ∈ priceParts, part ∉ parts → Same s (repriced s p) part) :
    ∃ t, exec c s = .next t ∧ t.price = p ∧ Replied t link r.status r.fields ∧ OnlyChanges parts s t := by
  obtain ⟨hexec, hreplied⟩ := answered_of_served hc h hb hl hs
  exact ⟨_, hexec, rfl, hreplied,
    onlyChanges_answered (onlyChanges_repriced hprice) hport (.inr ⟨rfl, rfl, rfl⟩)⟩

/-! ## WRITE TARIFF (R159) -/

section
variable {s : State} {target index : Byte} {f0 f1 f2 f3 f4 : Word16}

theorem serveWriteTariff_noTarget (h : (target ≠ 1#8 ∧ target ≠ 2#8) ∨ (target = 1#8 ∧ index.toNat > 15)) :
    serveWriteTariff target index f0 f1 f2 f3 f4 s = refuse s .malformed := by
  unfold serveWriteTariff
  rcases h with ⟨h1, h2⟩ | ⟨h1, hindex⟩
  · rw [if_neg h1, if_neg h2]
  · rw [if_pos h1, if_pos hindex]

theorem serveWriteTariff_locked (h : (target = 1#8 ∧ index.toNat ≤ 15) ∨ target = 2#8) (hlock : s.price.lock = true) :
    serveWriteTariff target index f0 f1 f2 f3 f4 s = refuse s .locked := by
  unfold serveWriteTariff
  rcases h with ⟨rfl, hindex⟩ | rfl
  · rw [if_pos rfl, if_neg (Nat.not_lt.2 hindex), if_pos hlock]
  · rw [if_neg (by decide), if_pos rfl, if_pos hlock]

theorem serveWriteTariff_badBands (hindex : index.toNat ≤ 15) (hlock : s.price.lock = false)
    (hbands : f0.toNat = 0 ∨ f1.toNat < f0.toNat ∨ f1.toNat > 9999) :
    serveWriteTariff 1#8 index f0 f1 f2 f3 f4 s = refuse s .malformed := by
  rw [serveWriteTariff, if_pos rfl, if_neg (Nat.not_lt.2 hindex), if_neg (by simp [hlock]), if_pos hbands]

theorem serveWriteTariff_entry (hindex : index.toNat ≤ 15) (hlock : s.price.lock = false) (hmin : 1 ≤ f0.toNat)
    (horder : f0.toNat ≤ f1.toNat) (hmax : f1.toNat ≤ 9999) :
    serveWriteTariff 1#8 index f0 f1 f2 f3 f4 s =
      (repriced s { s.price with
          tariff := Table.put s.price.tariff index.toNat
            { n1 := f0.toNat, n2 := f1.toNat, p1 := f2.toNat, p2 := f3.toNat, p3 := f4.toNat } },
       .taken false []) := by
  rw [serveWriteTariff, if_pos rfl, if_neg (Nat.not_lt.2 hindex), if_neg (by simp [hlock]), if_neg (by omega)]
  rfl

theorem serveWriteTariff_surcharges (hlock : s.price.lock = false) :
    serveWriteTariff 2#8 index f0 f1 f2 f3 f4 s =
      (repriced s { s.price with surcharges := { gloss := f0.toNat, matt := f1.toNat, lustre := f2.toNat } },
       .taken false []) := by
  rw [serveWriteTariff, if_neg (by decide), if_pos rfl, if_neg (by simp [hlock])]
  rfl

end

theorem get?_put {α : Type} (t : Table α) (k j : Nat) (a : α) :
    Table.get? (Table.put t k a) j = if j = k then some a else Table.get? t j := by
  split
  · next h => rw [h, get?_put_self]
  · next h => exact get?_put_of_ne h

/-! ## CLOSE DAY (R179) -/

section
variable {s : State}

theorem serveCloseDay_locked (h : s.price.amendment.isSome = true) : serveCloseDay s = refuse s .locked := if_pos h

theorem serveCloseDay_unread (ha : s.price.amendment = none) (hread : s.price.closedDay.read = false) :
    serveCloseDay s = refuse s .unread := by
  rw [serveCloseDay, if_neg (by simp [ha]), if_pos (by simp [hread])]

theorem serveCloseDay_taken (ha : s.price.amendment = none) (hread : s.price.closedDay.read = true) :
    let number := closeAfter s.price.closedDay.number
    serveCloseDay s =
      (repriced s { s.price with
        closedDay := { totals := s.price.totals, number := number, read := false }
        totals := Totals.zero
        lock := false },
       .taken false (n16 number)) := by
  rw [serveCloseDay, if_neg (by simp [ha]), if_neg (by simp [hread])]
  rfl

end

/-- Settles O58: a refused request fails one of the tests of its rule, and a taken one changes the Price Unit only. -/
theorem tariffAndDayClose : Obligations.TariffAndDayClose := by
  refine ⟨fun s target index f0 f1 f2 f3 f4 htaking => ⟨fun hbad => ?_, fun htarget hlock => ?_, ?_, ?_, ?_⟩,
    fun s htaking => ?_, fun s htaking => ⟨fun hamended => ?_, fun hnone hunread => ?_, fun hnone hread => ?_⟩,
    fun s htaking => ?_⟩
  · exact refusedWith_of_refuse rfl htaking rfl rfl (serveWriteTariff_noTarget hbad)
  · exact refusedWith_of_refuse rfl htaking rfl rfl (serveWriteTariff_locked htarget hlock)
  · rintro rfl hindex hlock hbands
    exact refusedWith_of_refuse rfl htaking rfl rfl (serveWriteTariff_badBands hindex hlock hbands)
  · rintro rfl hindex hlock hmin horder hmax
    obtain ⟨t, hexec, hprice, hreplied, honly⟩ := repriced_of_served (parts := [.tariff, .port .till])
      (c := .writeTariff .till 1 index f0 f1 f2 f3 f4) rfl htaking rfl rfl
      (serveWriteTariff_entry hindex hlock hmin horder hmax) (by simp) (by simp [priceParts, Same, repriced])
    exact ⟨t, hexec, fun k => by rw [hprice, get?_put], by rw [hprice], hreplied, honly⟩
  · rintro rfl hlock
    obtain ⟨t, hexec, hprice, hreplied, honly⟩ := repriced_of_served (parts := [.tariff, .port .till])
      (c := .writeTariff .till 2 index f0 f1 f2 f3 f4) rfl htaking rfl rfl
      (serveWriteTariff_surcharges hlock) (by simp) (by simp [priceParts, Same, repriced])
    exact ⟨t, hexec, by rw [hprice], by rw [hprice], hreplied, honly⟩
  · obtain ⟨t, hexec, hprice, hreplied, honly⟩ := repriced_of_served (parts := [.tariffLock, .port .till])
      (c := .lockTariff .till) (serve := serveLockTariff) (p := { s.price with lock := true }) rfl htaking rfl rfl rfl
      (by simp) (by simp [priceParts, Same, repriced])
    exact ⟨t, hexec, by rw [hprice], hreplied, honly⟩
  · exact refusedWith_of_refuse rfl htaking rfl rfl (serveCloseDay_locked hamended)
  · exact refusedWith_of_refuse rfl htaking rfl rfl (serveCloseDay_unread hnone hunread)
  · obtain ⟨t, hexec, hprice, hreplied, honly⟩ := repriced_of_served
      (parts := [.closedDay, .totals, .tariffLock, .port .till]) (c := .closeDay .till) rfl htaking rfl rfl
      (serveCloseDay_taken hnone hread) (by simp) (by simp [priceParts, Same, repriced])
    exact ⟨t, _, hexec, rfl, by rw [hprice]; rfl, by rw [hprice]; rfl, by rw [hprice], hreplied, honly⟩
  · obtain ⟨t, hexec, hprice, hreplied, honly⟩ := repriced_of_served (parts := [.closedDay, .port .till])
      (c := .readClosedDay .till) (serve := serveReadClosedDay)
      (p := { s.price with closedDay := { s.price.closedDay with read := true } }) rfl htaking rfl rfl rfl
      (by simp) (by simp [priceParts, Same, repriced])
    exact ⟨t, hexec, by rw [hprice], hreplied, honly⟩

end Sys2Proof.Till

/-! Steps and resets (O1, O2, O3): what the front of the queue decides, the values of power-on, and the invariants they
meet. -/

namespace Sys2Proof.Resets

open Sys2Proof.Machine Sys2Proof.Laws Sys2Proof.OrdersAndItems

theorem onlyChanges_rasterTick (s : State) : OnlyChanges [.rasterLink, .freeCount] s s.rasterTick := by
  intro p hp
  cases p <;> simp_all [Same, State.port]

theorem waiting?_eq_some_iff (r : RasterFetch) (f : Fetch) :
    r.waiting? = some f ↔ r.inFlight = some f ∧ r.timer = none := by
  unfold RasterFetch.waiting?
  cases r.timer <;> simp

theorem waiting?_eq_none_iff (r : RasterFetch) :
    r.waiting? = none ↔ r.inFlight = none ∨ r.timer.isSome = true := by
  unfold RasterFetch.waiting?
  cases r.timer <;> simp

/-- Settles O1: a step unfolds once, and the raster link goes by its phase and the waiting fetch. -/
theorem stepRunsFrontCommand : Obligations.StepRunsFrontCommand := by
  intro s
  refine ⟨fun c rest hq => by simp [step, hq], fun hq => ⟨s.rasterTick, by simp [step, hq], rfl, ?_, ?_, ?_, rfl,
    onlyChanges_rasterTick s⟩⟩
  · intro hphase
    unfold State.rasterTick
    cases h : s.fetch.link.phase <;> simp_all
  · intro f hphase hf htimer
    simp [State.rasterTick, hphase, (waiting?_eq_some_iff s.fetch f).2 ⟨hf, htimer⟩, Fetch.frame]
  · intro hphase hf
    simp [State.rasterTick, hphase, (waiting?_eq_none_iff s.fetch).2 hf]

theorem get?_range_map {α : Type} (a : α) {limit base k : Nat} (hmin : base ≤ k) (hmax : k < base + limit) :
    Table.get? ((List.range limit).map fun i => (i + base, a)) k = some a := by
  have hmem : k ∈ ((List.range limit).map fun i => (i + base, a)).map Prod.fst := by
    simp only [List.map_map, List.mem_map, List.mem_range, Function.comp]
    exact ⟨k - base, by omega, by omega⟩
  obtain ⟨b, hb⟩ := Option.isSome_iff_exists.1 (get?_isSome_iff.2 hmem)
  obtain ⟨i, -, hi⟩ := List.mem_map.1 (mem_of_get? hb)
  rw [hb, ← (Prod.mk.inj hi).2]

/-- Settles O2: every value is the one the reset of its block is defined with. -/
theorem powerOnResetValues : Obligations.PowerOnResetValues := by
  intro s
  refine ⟨_, rfl, fun _ => rfl, rfl, rfl, fun i hi => ?_, rfl, rfl, fun c => by cases c <;> rfl, rfl, rfl, rfl, rfl,
    fun m => by cases m <;> exact ⟨rfl, rfl, rfl, rfl, rfl⟩, rfl, rfl, rfl, rfl, rfl, ⟨rfl, rfl, rfl, rfl, rfl⟩, ?_,
    rfl, rfl, rfl, rfl, rfl, rfl, ?_, rfl, ?_, rfl, rfl, rfl, rfl, rfl, rfl, rfl, rfl, rfl, rfl, rfl, rfl, rfl, rfl, rfl,
    rfl, rfl, rfl, fun n hmin hmax => ?_, rfl, rfl, rfl, fun i hi => ?_, rfl, rfl, rfl, rfl, rfl, ?_, rfl, rfl, rfl⟩
  · exact get?_range_map SizeEntry.reset (base := 0) (Nat.zero_le i) (by omega)
  · exact fun c => by fin_cases c <;> rfl
  · exact fun c => by fin_cases c <;> rfl
  · exact fun c => by fin_cases c <;> exact ⟨rfl, rfl⟩
  · exact get?_range_map Bin.reset (base := 1) hmin (by omega)
  · exact get?_range_map TariffEntry.reset (base := 0) (Nat.zero_le i) (by omega)
  · intro link
    refine ⟨by cases link <;> rfl, fun m hm => List.eq_of_mem_replicate (n := ?_) (a := false) ?_⟩
    · exact match link with | .order => 3 | .engine => 7 | .till => 4
    · cases link <;> exact hm

/-- Settles O3: the tables of orders and items are empty, and the other invariants are read off the values of power-on. -/
theorem resetMeetsInvariants : Obligations.ResetMeetsInvariants := by
  have hempty : ∀ slot, State.reset.order? slot = none := fun _ => rfl
  have hbin : ∀ n b, Table.get? State.reset.sort.bins n = some b → b = Bin.reset := fun n b hb => by
    obtain ⟨i, -, hi⟩ := List.mem_map.1 (mem_of_get? hb)
    exact (Prod.mk.inj hi).2.symm
  refine ⟨?_, ⟨?_, ?_, ?_, ?_, ?_⟩, ?_, ?_, ⟨by decide, ?_⟩, ?_, ?_, ?_, ?_, ?_, ⟨?_, ?_⟩, ⟨?_, ?_⟩⟩
  · intro p hp
    cases hp
  · intro c
    cases c <;> exact List.nodup_nil
  · intro c slot
    simp only [hempty, reduceCtorEq, false_and, exists_false, iff_false]
    cases c <;> exact List.not_mem_nil
  · exact List.Pairwise.nil
  · intro slot o ho
    cases ho
  · intro slot n copy h
    cases h
  · exact ⟨by decide, by decide, rfl, by decide, by decide, by decide⟩
  · exact ⟨by simp [State.reset, Web.reset], by simp [State.reset, Web.reset]⟩
  · intro p hp
    obtain ⟨i, -, rfl⟩ := List.mem_map.1 hp
    simp [Bin.ok, Bin.reset]
  · exact ⟨by unfold MagazineRecord.ok; decide, by unfold MagazineRecord.ok; decide⟩
  · unfold SettingsInRange
    decide
  · intro link
    cases link <;> exact ⟨trivial, rfl⟩
  · exact ⟨List.Pairwise.nil, by simp [State.reset, OrderTable.reset], List.nodup_nil, by decide, by decide⟩
  · exact ⟨List.Pairwise.nil, by simp [State.reset, OrderTable.reset], List.Pairwise.nil, List.Perm.nil,
      by simp [State.reset, OrderTable.reset]⟩
  · intro n b slot hb howner
    rw [hbin n b hb] at howner
    cases howner
  · intro slot o ho
    cases ho
  · intro slot o n r i ho
    cases ho
  · intro g hg
    cases hg

end Sys2Proof.Resets

/-! Interpolation and exposure codes (O60): each is a weighted mean or a clamped sum. -/

namespace Sys2Proof.ImageCodes

open Sys2Proof.Machine

/-- R64, R65: a weighted mean of two values lies between them. -/
theorem blend_between {a b f : Nat} (hf : f ≤ 255) : min a b ≤ blend a b f ∧ blend a b f ≤ max a b := by
  have hsplit : ∀ m : Nat, m * (256 - f) + m * f = m * 256 := fun m => by
    rw [← Nat.mul_add]
    congr 1
    omega
  have hlow := hsplit (min a b)
  have hhigh := hsplit (max a b)
  have h1 := Nat.mul_le_mul_right (256 - f) (Nat.min_le_left a b)
  have h2 := Nat.mul_le_mul_right f (Nat.min_le_right a b)
  have h3 := Nat.mul_le_mul_right (256 - f) (Nat.le_max_left a b)
  have h4 := Nat.mul_le_mul_right f (Nat.le_max_right a b)
  unfold blend
  constructor <;> omega

theorem linearCode_le {v gain : Nat} (hgain : gain ≤ 767) : linearCode v gain ≤ 1528 := by
  have h : (255 - v) * gain ≤ 255 * 767 := Nat.mul_le_mul (by omega) hgain
  unfold linearCode
  omega

theorem toCode_toNat (e : Int) : ((toCode e).toNat : Int) = max 0 (min 1023 e) := by
  unfold toCode clampInt
  rw [BitVec.toNat_ofNat]
  omega

/-- Settles O60: the blend is a weighted mean, the linear code a product of bounded factors, the code a clamped sum. -/
theorem codesStayInRange : Obligations.CodesStayInRange := by
  refine ⟨fun a b f _ _ hf => ⟨(blend_between hf).1, (blend_between hf).2, ?_⟩,
    fun v gain _ _ hgain => ⟨rfl, linearCode_le hgain, ?_, ?_, ?_⟩, fun v gain offset => toCode_toNat _⟩
  · unfold blend
    omega
  · simp [linearCode]
  · unfold linearCode
    omega
  · unfold linearCode
    omega

end Sys2Proof.ImageCodes

/-! The field bytes of requests (O14): two and four bytes read back as the word they were sent for. -/

namespace Sys2Proof.Frames

open Sys2Proof.Machine Sys2Proof.Laws

theorem word16_be16 (w : Word16) : word16 (w.extractLsb' 8 8) (w.extractLsb' 0 8) = w := by
  unfold word16
  rw [BitVec.extractLsb'_append_extractLsb'_eq_extractLsb' (by rfl)]
  simp

theorem word32_be32 (w : Word32) :
    word32 (w.extractLsb' 24 8) (w.extractLsb' 16 8) (w.extractLsb' 8 8) (w.extractLsb' 0 8) = w := by
  unfold word32
  rw [BitVec.extractLsb'_append_extractLsb'_eq_extractLsb' (by rfl),
    BitVec.extractLsb'_append_extractLsb'_eq_extractLsb' (by rfl),
    BitVec.extractLsb'_append_extractLsb'_eq_extractLsb' (by rfl)]
  simp

/-- Settles O14: each request in turn, its fields of two and four bytes read back. -/
theorem requestFieldsRoundTrip : Obligations.RequestFieldsRoundTrip := by
  intro i link c fields h
  cases i <;> cases h
  all_goals
    refine ⟨?_, ofByte?_toByte _, fun h => by first | rfl | exact absurd rfl h⟩
    change some _ = some _
    simp only [word16_be16, word32_be32]

end Sys2Proof.Frames

/-! Requests at their ports (O15, O18, O21): every request command is its block's service behind the tests of the port, and
the byte that completes a frame runs the same tests. -/

namespace Sys2Proof.Ports

open Sys2Proof.Machine Sys2Proof.Laws Sys2Proof.OrdersAndItems Sys2Proof.Frames

/-! ## Request commands -/

theorem exec_of_request {i : Instr} {link : Link} {c : RequestCode} {fields : List Byte}
    (h : i.request = some (link, c, fields)) (s : State) :
    exec i s = .next (takeRequest link c fields (serveRequest i) s) := by
  cases i <;> cases h <;> rfl

theorem fields_length {i : Instr} {link : Link} {c : RequestCode} {fields : List Byte}
    (h : i.request = some (link, c, fields)) (hc : c ≠ .setMask) : fields.length = c.fieldLength link := by
  obtain ⟨-, -, hlen⟩ := requestFieldsRoundTrip i link c fields h
  exact hlen hc

/-- R183: the field bytes of a request that can arise fit in one frame. -/
theorem fields_length_le {i : Instr} {link : Link} {c : RequestCode} {fields : List Byte}
    (h : i.request = some (link, c, fields)) (hw : i.wellFormed = true) : fields.length ≤ 62 := by
  by_cases hc : c = .setMask
  · subst hc
    cases i <;> cases h
    simpa [Instr.wellFormed] using hw
  · have := fieldLength_le link c
    rw [fields_length h hc]
    omega

/-- A request command that is being taken is answered as the tests of the port let it through. -/
theorem exec_of_taking {i : Instr} {s : State} {link : Link} {c : RequestCode} {fields : List Byte}
    (h : i.request = some (link, c, fields)) (ht : Taking s link c fields) :
    exec i s = .next (s.answered link (answerFrame link c.toByte fields.length (serveRequest i) s)) := by
  rw [exec_of_request h, takeRequest, if_pos (show s.receiving link (frameBytes c.toByte fields) = true from ht)]

/-! ## The port's own tests (R184) -/

section
variable {link : Link} {code : Byte} {len : Nat} {serve : State → State × Reply} {s : State}

theorem answerFrame_long (h : len > 62) : answerFrame link code len serve s = refuse s .malformed := if_pos h

theorem answerFrame_unknown (h : len ≤ 62) (hc : RequestCode.ofByte? code = none) :
    answerFrame link code len serve s = refuse s .unknown := by
  simp [answerFrame, Nat.not_lt.2 h, hc]

theorem answerFrame_foreign {c : RequestCode} (h : len ≤ 62) (hc : RequestCode.ofByte? code = some c)
    (hb : c.belongs link = false) : answerFrame link code len serve s = refuse s .notOnThisLink := by
  simp [answerFrame, Nat.not_lt.2 h, hc, hb]

theorem answerFrame_wrongLength {c : RequestCode} (h : len ≤ 62) (hc : RequestCode.ofByte? code = some c)
    (hb : c.belongs link = true) (hl : len ≠ c.fieldLength link) :
    answerFrame link code len serve s = refuse s .malformed := by
  simp [answerFrame, Nat.not_lt.2 h, hc, hb, hl]

theorem answerFrame_served {c : RequestCode} (hc : RequestCode.ofByte? code = some c) (hb : c.belongs link = true)
    (hl : len = c.fieldLength link) : answerFrame link code len serve s = serve s := by
  have := fieldLength_le link c
  simp [answerFrame, hc, hb, hl, show ¬ c.fieldLength link > 62 by omega]

/-- What the tests of the port come to: a refusal, or the service of a request of the link with its own length. -/
theorem answerFrame_cases :
    (∃ status, status ≠ .ok ∧ status ≠ .clamped ∧ answerFrame link code len serve s = refuse s status)
      ∨ ∃ c, RequestCode.ofByte? code = some c ∧ c.belongs link = true ∧ len = c.fieldLength link
          ∧ answerFrame link code len serve s = serve s := by
  by_cases hlong : len > 62
  · exact .inl ⟨.malformed, by decide, by decide, answerFrame_long hlong⟩
  have hlen : len ≤ 62 := by omega
  cases hc : RequestCode.ofByte? code with
  | none => exact .inl ⟨.unknown, by decide, by decide, answerFrame_unknown hlen hc⟩
  | some c =>
    cases hb : c.belongs link with
    | false => exact .inl ⟨.notOnThisLink, by decide, by decide, answerFrame_foreign hlen hc hb⟩
    | true =>
      by_cases hl : len = c.fieldLength link
      · exact .inr ⟨c, rfl, hb, hl, answerFrame_served hc hb hl⟩
      · exact .inl ⟨.malformed, by decide, by decide, answerFrame_wrongLength hlen hc hb hl⟩

end

theorem refusedWith_of_answered {c : Instr} {s : State} {link : Link} {status : Status}
    (h : exec c s = .next (s.answered link (refuse s status))) : RefusedWith c s link status :=
  ⟨_, h, by simpa [refuse, Reply.refused] using replied_answered s link (refuse s status), onlyChanges_refused s link status⟩

/-! ## Bytes on the link clock (R182) -/

theorem onlyChanges_setPort (s : State) (link : Link) (p : Port) : OnlyChanges [.port link] s (s.setPort link p) := by
  intro q hq
  cases q with
  | port l => exact port_setPort_of_ne (by simpa using hq)
  | mask l => exact mask_setPort s link l p
  | _ => simp [Same]

theorem exec_byte_of_request {s : State} {link : Link} {byte : Byte} {got : List Byte} (h : s.port link = .request got) :
    exec (.linkByteComplete link byte) s = .next (s.receiveByte link (got ++ [byte])) := by
  simp [exec, execLinkByteComplete, h]

theorem receiveByte_incomplete {s : State} {link : Link} {got : List Byte} (h : frameComplete got = false) :
    s.receiveByte link got = s.setPort link (.request got) := by
  unfold State.receiveByte
  split
  · simp [h]
  · rfl

theorem receiveByte_complete {s : State} {link : Link} {code len : Byte} {fields : List Byte}
    (h : frameComplete (code :: len :: fields) = true) :
    s.receiveByte link (code :: len :: fields) =
      s.answered link (answerFrame link code len.toNat (serveFields link code fields) s) := by
  simp [State.receiveByte, h]

/-- Settles O15: the completing byte makes the frame the request command stands for, and both run the same tests on it. -/
theorem lastByteTakesRequest : Obligations.LastByteTakesRequest := by
  intro i s link c fields got byte hi hw hport hframe
  have hlen := fields_length_le hi hw
  have hlast : (BitVec.ofNat 8 fields.length).toNat = fields.length := by
    rw [BitVec.toNat_ofNat]
    omega
  rw [frameBytes, if_pos hlen] at hframe
  have htaking : Taking s link c fields := by
    have hpre : got <+: got ++ [byte] := List.prefix_append _ _
    simp [Taking, State.receiving, hport, frameBytes, hlen, ← hframe]
  have hcomplete : frameComplete (c.toByte :: BitVec.ofNat 8 fields.length :: fields) = true := by
    simp [frameComplete, hlast]
  rw [exec_byte_of_request hport, hframe, receiveByte_complete hcomplete, hlast, exec_of_taking hi htaking]
  congr 2
  obtain ⟨hdecode, hcode, -⟩ := requestFieldsRoundTrip i link c fields hi
  have hserve : serveFields link c.toByte fields s = serveRequest i s := by simp [serveFields, hcode, hdecode]
  unfold answerFrame
  simp only [hserve]

/-- Settles O18: the phases are the cases of the port, and each refusal is the first test of R184 that fails. -/
theorem portPhasesAndTests : Obligations.PortPhasesAndTests := by
  refine ⟨fun s link byte => ⟨fun hidle => ?_, ?_, fun got hport hpart => ?_, fun bytes sent hport => ?_, fun hport => ?_⟩,
    fun s link got byte code len fields hport hgot hcomplete => ?_, fun i s link c fields hi htaking hb => ?_,
    fun s link code len fields hunknown hreceiving => ?_⟩
  · exact ⟨s.setPort link (.request []), by simp [exec, execSelectAsserted, hidle], by simp, onlyChanges_setPort _ _ _⟩
  · exact ⟨s.setPort link .idle, rfl, by simp, onlyChanges_setPort _ _ _⟩
  · exact ⟨_, by rw [exec_byte_of_request hport, receiveByte_incomplete hpart], by simp, onlyChanges_setPort _ _ _⟩
  · refine ⟨s.setPort link (if bytes.length ≤ sent + 1 then .spent else .reply bytes (sent + 1)),
      by simp [exec, execLinkByteComplete, hport], ?_, onlyChanges_setPort _ _ _⟩
    by_cases hlast : sent + 1 < bytes.length
    · simp [hlast, Nat.not_le.2 hlast]
    · simp [hlast, Nat.not_lt.1 hlast]
  · rcases hport with hport | hport <;> simp [exec, execLinkByteComplete, hport]
  · rw [hgot] at hcomplete
    have hexec : exec (.linkByteComplete link byte) s =
        .next (s.answered link (answerFrame link code len.toNat (serveFields link code fields) s)) := by
      rw [exec_byte_of_request hport, hgot, receiveByte_complete hcomplete]
    refine ⟨fun hlong => ?_, fun hlen hc => ?_, fun c hlen hc hb => ?_, fun c hlen hc hb hl => ?_⟩
    · exact refusedWith_of_answered (by rw [hexec, answerFrame_long hlong])
    · exact refusedWith_of_answered (by rw [hexec, answerFrame_unknown hlen hc])
    · exact refusedWith_of_answered (by rw [hexec, answerFrame_foreign hlen hc hb])
    · exact refusedWith_of_answered (by rw [hexec, answerFrame_wrongLength hlen hc hb hl])
  · have hlen : fields.length ≤ 62 := by
      have hc : c ≠ .setMask := by rintro rfl; cases hb
      have := fieldLength_le link c
      rw [fields_length hi hc]
      omega
    exact refusedWith_of_answered
      (by rw [exec_of_taking hi htaking, answerFrame_foreign hlen (ofByte?_toByte c) hb])
  · exact refusedWith_of_answered (by simp [exec, execUnknownRequest, hunknown, hreceiving])

/-- Settles O21: each request that names a ticket is served behind the ticket's tests. -/
theorem ticketTestsComeFirst : Obligations.TicketTestsComeFirst := by
  intro i s link c fields ticket status hi hb hticket htaking hrefusal
  have hc : c ≠ .setMask := by
    rintro rfl
    cases i <;> cases hi
    cases hticket
  refine refusedWith_of_refuse (exec_of_request hi s) htaking hb (fields_length hi hc) ?_
  cases i <;> cases hticket <;> exact withOrder_of_refusal hrefusal

end Sys2Proof.Ports

/-! What a step can do, said once: `Change` lists the effects of all commands, each with what its command has tested;
`step_change` says that a step is one of them, but for the ports and the cause of an attempt. The answer of a request is a
refusal or a reply of the table's length (O16, O17). -/

namespace Sys2Proof.Steps

open Sys2Proof.Machine Sys2Proof.Laws Sys2Proof.OrdersAndItems Sys2Proof.Magazines Sys2Proof.Sorting Sys2Proof.Till
open Sys2Proof.Ports

/-! ## The effects of commands -/

/-- R6: the state once an item record is filled and appended to the list of an order. -/
def itemAdded (s : State) (slot : Nat) (cls : OrderClass) (r : Nat) (i : Item) : State :=
  { s with
    orderTable := { s.orderTable with
      orders := Table.modify s.orderTable.orders slot fun o => { o with items := o.items ++ [r] }
      items := Table.put s.orderTable.items r i }
    scheduler := { s.scheduler with
      attemptCause := s.scheduler.attemptCause || (s.scheduler.classList cls).contains slot } }

/-- The state once joined to the tail of its class list where `joins`. -/
def enlistedIf (s : State) (slot : Nat) (joins : Prop) [Decidable joins] : State := if joins then s.enlist slot else s

/-- R123, R127: the state once a cut is taken, counted and recorded. -/
def cutTaken (s : State) : State :=
  { s.takeCut.1 with web := { s.takeCut.1.web with
      cutsTaken := satAdd 65535 s.takeCut.1.web.cutsTaken 1, lastCut := some s.takeCut.2 } }

/-- R96: the state once a reading is matched to a patch with these segments behind it. -/
def patchRead (s : State) (g : Segment) (behind : List Segment) (e : PerChannel Int) : State :=
  { s with
    density := s.density.take g behind e
    web := { s.web with map := readOldestPatch (readingClass s.density.q e != .good) s.web.map } }

/-- R103, but for the standing selection. -/
def densityCleared (s : State) : State :=
  { s with
    density := { s.density with offsets := { c0 := 0, c1 := 0, c2 := 0 }, implausible := 0, fault := false }
    web := { s.web with map := s.web.map.map Segment.toPreReset }
    scheduler := { s.scheduler with resetPatch := true } }

/-- R53, R119: the state once SET WEB has stored its settings. -/
def webSet (s : State) (lpath leaderLength endReserve stallTime : Nat) : State :=
  { s with
    web := { s.web with lpath := lpath, stallTime := stallTime }
    scheduler := { s.scheduler with
      leaderLength := leaderLength
      endReserve := endReserve
      magA := s.scheduler.magA.withLow endReserve
      magB := s.scheduler.magB.withLow endReserve } }

/-- R71, R91, R108: the state once SET DENSITY has stored its settings. -/
def densitySet (s : State) (k : Nat) (targets : PerChannel Nat) (a q tolerance : Nat) (gains : PerChannel Nat) : State :=
  { s with
    density := { s.density with k := k, targets := targets, a := a, q := q }
    channel := { s.channel with repeatTolerance := tolerance }
    resampler := { s.resampler with gains := gains } }

/-- R149: the state once the uncollected time is stored; a value of 0 stops every running timer. -/
def uncollectedTimeSet (s : State) (minutes : Nat) : State :=
  { s with sort := { s.sort with
      uncollectedTime := minutes
      bins := if minutes = 0 then s.sort.bins.map fun p => (p.1, { p.2 with timer := none }) else s.sort.bins } }

/-- R89: the state once a channel is disabled. -/
def headFaulted (s : State) (c : Fin 3) : State :=
  { s.markExposedSuspect with channel := { s.channel with enabled := s.channel.enabled.set c false } }

/-- R133, R134: the state once the web is cleared. -/
def webEmptied (s : State) : State := { s.clearMap.1 with web := { s.clearMap.1.web with fault := none } }

/-- What a command can make of a state, but for its port and the causes of an attempt noted after it. -/
inductive Change (s : State) : State → Prop
  | nothing : Change s s
  | powerOn : Change s { State.reset with pending := s.pending, freeCount := s.freeCount }
  | warmReset : Change s s.warmReset
  | opened {slot : Nat} (c : OrderClass) (hfree : Table.lowestFree s.orderTable.orders 64 = some slot) :
      Change s (OrdersAndItems.opened s slot (s.orderTable.searchTicket 64 s.orderTable.nextTicket) c)
  | itemAdded {slot r : Nat} {o : Order} (handle : Word32) (ws hs : Word16) (sizeIndex : Byte) (u : Surface) (m : Mode)
      (copies : Byte) (ho : s.order? slot = some o) (hstate : o.state = .opened ∨ o.state = .ready)
      (hlen : o.items.length < 24) (hfree : Table.lowestFree s.orderTable.items 512 = some r) :
      Change s (itemAdded s slot o.cls r (Item.fresh handle ws hs sizeIndex u m copies))
  | submitted {slot : Nat} {o : Order} (ms : Nat) (ho : s.order? slot = some o) (hopened : o.state = .opened)
      (hitems : o.items ≠ []) :
      Change s (enlistedIf (s.modifyOrder slot (submitted s.timeBase ms)) slot (ms = 0))
  | held {slot : Nat} {o : Order} (ho : s.order? slot = some o) (hstate : o.state = .ready ∨ o.state = .inPrint) :
      Change s (((s.modifyOrder slot fun o => { o with state := .held }).delist slot).voidSelectionOf slot)
  | released {slot : Nat} {o : Order} (ho : s.order? slot = some o) (hheld : o.state = .held) :
      Change s (enlistedIf (s.modifyOrder slot (released o.started)) slot (o.windowEnded = true))
  | freed {slot : Nat} {o : Order} (ho : s.order? slot = some o) (hopened : o.state = .opened) :
      Change s (s.freeRecord slot)
  | withdrawn {slot : Nat} {o : Order} (p : PriceUnit) (requester : Requester) (partially : Bool)
      (ho : s.order? slot = some o) (hopened : o.state ≠ .opened) (hwithdrawn : o.state ≠ .withdrawn)
      (hpartially : partially = true → o.state ≠ .complete) :
      Change s ((repriced s p).withdraw slot requester partially)
  | collected {slot : Nat} {o : Order} (p : PriceUnit) (ho : s.order? slot = some o) (hcomplete : o.state = .complete) :
      Change s (((repriced s p).releaseBins slot).freeRecord slot)
  | sizeWritten (index : Nat) (e : SizeEntry) : Change s (sizeWritten s index e)
  | windows (w : Windows) (he : w.express ≤ 255) (hs : w.standard ≤ 255) (hb : w.bulk ≤ 255) :
      Change s { s with orderTable := { s.orderTable with windows := w } }
  | remakeLimit (n : Nat) (hn : n ≤ 3) : Change s { s with orderTable := { s.orderTable with remakeLimit := n } }
  | rollLoaded (m : Magazine) (width : Word16) (u : Surface) (length : Word32) (hmin : 89 ≤ width.toNat)
      (hmax : width.toNat ≤ 305) :
      Change s (rescheduled s
        (rollLoaded s.scheduler m (MagazineRecord.loaded width u length s.scheduler.endReserve))
        (s.scheduler.active = some m))
  | rollUnloaded (m : Magazine) :
      Change s (rescheduled s (rollUnloaded s.scheduler m) (s.scheduler.active = some m))
  | magazineTaken (m : Magazine) (hexposing : s.exposing = false) (hleader : s.web.leaderExposed = false) :
      Change s (rescheduled s (magazineTaken s.scheduler m) True)
  | transportRun : Change s s.transportRun
  | transportStop : Change s s.transportStop
  | cut : Change s (cutTaken s)
  | patchRead {g : Segment} {behind : List Segment} (e : PerChannel Int)
      (hpatch : oldestUnreadPatch s.web.map = some (g, behind)) : Change s (patchRead s g behind e)
  | headFault (c : Fin 3) : Change s (headFaulted s c)
  | headReady (c : Fin 3) :
      Change s { s with channel := { s.channel with enabled := s.channel.enabled.set c true } }
  | binCleared {n : Nat} {b : Bin} (hb : Table.get? s.sort.bins n = some b) : Change s (binCleared s n b)
  | trayCleared : Change s (trayCleared s)
  | webCleared (hallowed : s.web.fault.isSome = true ∨ (s.exposing = false ∧ s.web.leaderExposed = false)) :
      Change s (webEmptied s)
  | densityReset : Change s (densityCleared s).voidSelection
  | webSet (lpath : Word32) (leaderLength endReserve stallTime : Word16) :
      Change s (webSet s (clampNat 1000 250000 lpath.toNat) (min 5000 leaderLength.toNat) endReserve.toNat
        (clampNat 100 10000 stallTime.toNat))
  | densitySet (k t0 t1 t2 : Word16) (a : Byte) (q : Word16) (tolerance : Byte) (g0 g1 g2 : Word16) :
      Change s (densitySet s (min 255 k.toNat)
        { c0 := min 1023 t0.toNat, c1 := min 1023 t1.toNat, c2 := min 1023 t2.toNat } (min 15 a.toNat)
        (clampNat 1 255 q.toNat) (min 15 tolerance.toNat)
        { c0 := clampNat 256 767 g0.toNat, c1 := clampNat 256 767 g1.toNat, c2 := clampNat 256 767 g2.toNat })
  | binSet {n : Nat} {b : Bin} (g : BinGroup) (capacity : Byte) (hb : Table.get? s.sort.bins n = some b)
      (hfree : b.state = .free) : Change s (binChanged s n (binSet g (clampNat 1 250 capacity.toNat)))
  | uncollectedTime (minutes : Nat) (hmax : minutes ≤ 1440) : Change s (uncollectedTimeSet s minutes)
  | repriced (p : PriceUnit) : Change s (repriced s p)
  | committed {slot : Nat} {o : Order} (a : Amendment) (ho : s.order? slot = some o) : Change s (committed s slot a)
  | attention (link : Link) (c : Cause) : Change s (s.clearCause link c)
  | masked (link : Link) {entries : List Byte} {mask : List Bool} (hlen : PortsOk s → entries.length = (causesOf link).length)
      (hmask : maskEntries? entries = some mask) : Change s (s.setMask link mask)
  | freeValues (n : Nat) : Change s { s with freeCount := n }
  | strobe : Change s s.strobe
  | windowExpired {slot : Nat} {o : Order} {e : Word32} (ho : s.order? slot = some o) (he : o.eligibleAt = some e)
      (hrunning : o.windowEnded = false) : Change s (s.expireWindow slot)
  | rasterFault (fetch : RasterFetch) (f : Fetch) (cause : FaultCause) :
      Change s (State.rasterFault { s with fetch := fetch } f cause)
  | stallFirst {e : Word32} (hstage : s.web.stage = .first e) : Change s s.stallFirst
  | stallSecond {e : Word32} (hstage : s.web.stage = .second e) : Change s s.stallSecond
  | binExpired {n : Nat} {b : Bin} (hb : Table.get? s.sort.bins n = some b) (hwaiting : b.state = .waiting) :
      Change s (binChanged s n Bin.expire)
  | fetched (fetch : RasterFetch) : Change s { s with fetch := fetch }
  | rowPlaced (fetch : RasterFetch) (row : Row) : Change s (State.placeRow { s with fetch := fetch } row)
  | rasterTick : Change s s.rasterTick
  | attempt {active : Magazine} (hactive : s.scheduler.active = some active) (hdue : s.attemptDue = true) :
      Change s (s.attempt active)
  | lineProduced {w : Work} {codes : Codes} (hproducible : s.producible = some (w, codes)) :
      Change s (State.advanceWork { s with channel := s.channel.accept w codes } w)
  | tick : Change s { s with timeBase := s.timeBase + 1 }

/-! ## The answers of requests -/

/-- A request is refused, or taken with so many reply bytes and one of the effects above. -/
def Answers (s : State) (len : Nat) (r : State × Reply) : Prop :=
  (∃ status, status ≠ .ok ∧ status ≠ .clamped ∧ r = refuse s status)
    ∨ ∃ u clamped fields, r = (u, .taken clamped fields) ∧ fields.length = len ∧ Change s u

section
variable {s : State} {len : Nat}

theorem answers_refuse {status : Status} (h : status ≠ .ok ∧ status ≠ .clamped := by decide) :
    Answers s len (refuse s status) := .inl ⟨status, h.1, h.2, rfl⟩

theorem answers_taken {u : State} (hu : Change s u) (clamped : Bool) {fields : List Byte} (h : fields.length = len) :
    Answers s len (u, .taken clamped fields) := .inr ⟨u, clamped, fields, rfl, h, hu⟩

theorem answers_withOrder {ticket : Word16} {serve : Nat → Order → State × Reply}
    (h : ∀ slot o, s.order? slot = some o → Answers s len (serve slot o)) :
    Answers s len (withOrder s ticket serve) := by
  unfold withOrder
  split
  · exact answers_refuse
  · split
    · exact answers_refuse
    · next slot _ =>
      split
      · exact answers_refuse
      · next o ho => exact h slot o ho

theorem answers_withAmendment {ticket : Word16} {serve : Nat → Order → Amendment → State × Reply}
    (h : ∀ slot o a, s.order? slot = some o → Answers s len (serve slot o a)) :
    Answers s len (withAmendment s ticket serve) := by
  refine answers_withOrder fun slot o ho => ?_
  split
  · split
    · exact h slot o _ ho
    · exact answers_refuse
  · exact answers_refuse

end

@[simp] theorem n8_length (n : Nat) : (n8 n).length = 1 := rfl
@[simp] theorem n16_length (n : Nat) : (n16 n).length = 2 := rfl
@[simp] theorem n32_length (n : Nat) : (n32 n).length = 4 := rfl
@[simp] theorem i16_length (n : Int) : (i16 n).length = 2 := rfl
@[simp] theorem i32_length (n : Int) : (i32 n).length = 4 := rfl
@[simp] theorem flagByte_length (b : Bool) : (flagByte b).length = 1 := rfl

/-! ### The order link -/

theorem serveOpenOrder_answers (cls : Byte) (s : State) : Answers s 3 (serveOpenOrder cls s) := by
  unfold serveOpenOrder
  split
  · exact answers_refuse
  · next c _ =>
    split
    · exact answers_refuse
    · next slot hfree => exact answers_taken (.opened c hfree) _ (by simp)

theorem serveAddItem_answers (ticket : Word16) (handle : Word32) (ws hs : Word16)
    (sizeIndex surface mode copies : Byte) (s : State) :
    Answers s 1 (serveAddItem ticket handle ws hs sizeIndex surface mode copies s) := by
  refine answers_withOrder fun slot o ho => ?_
  split
  · exact answers_refuse
  · next hstate =>
    split
    · exact answers_refuse
    · split
      · next u m r _ _ hfree =>
        split
        · exact answers_refuse
        · next hlen =>
          refine answers_taken (.itemAdded handle ws hs sizeIndex u m copies ho ?_ (by omega) hfree) _ rfl
          by_cases h : o.state = .opened
          · exact .inl h
          · exact .inr (by simpa [h] using hstate)
      · exact answers_refuse
      · exact answers_refuse

theorem serveSubmit_answers (ticket : Word16) (s : State) : Answers s 4 (serveSubmit ticket s) := by
  refine answers_withOrder fun slot o ho => ?_
  split
  · exact answers_refuse
  · next hstate =>
    obtain ⟨hopened, hitems⟩ : o.state = .opened ∧ o.items ≠ [] := by simpa using hstate
    refine answers_taken ?_ _ (by simp)
    have h := Change.submitted (s.orderTable.windows.ofClass o.cls * 1000) ho hopened hitems
    generalize s.orderTable.windows.ofClass o.cls * 1000 = ms at h ⊢
    by_cases h0 : ms = 0
    · rw [if_pos h0, expireWindow_of_ready (o := { o with state := .ready, eligibleAt := some (later s.timeBase ms) })
        (by simp [order?_modifyOrder, ho]) rfl, modifyOrder_modifyOrder]
      have hnow : submitted s.timeBase ms
          = (fun o => { o with windowEnded := true }) ∘
            fun o => { o with state := .ready, eligibleAt := some (later s.timeBase ms) } := by
        funext o
        simp [submitted, h0]
      rwa [hnow, enlistedIf, if_pos h0] at h
    · have hlater : submitted s.timeBase ms
          = fun o => { o with state := .ready, eligibleAt := some (later s.timeBase ms) } := by
        funext o
        simp [submitted, h0]
      rw [hlater, enlistedIf, if_neg h0] at h
      rwa [if_neg h0]

theorem serveHold_answers (ticket : Word16) (s : State) : Answers s 1 (serveHold ticket s) := by
  refine answers_withOrder fun slot o ho => ?_
  split
  · exact answers_refuse
  · next hstate =>
    refine answers_taken (.held ho ?_) _ rfl
    by_cases h : o.state = .ready
    · exact .inl h
    · exact .inr (by simpa [h] using hstate)

theorem serveRelease_answers (ticket : Word16) (s : State) : Answers s 1 (serveRelease ticket s) := by
  refine answers_withOrder fun slot o ho => ?_
  split
  · exact answers_refuse
  · next hheld => exact answers_taken (.released ho (by simpa using hheld)) _ rfl

theorem serveCancel_answers (link : Link) (ticket : Word16) (s : State) : Answers s 1 (serveCancel link ticket s) := by
  refine answers_withOrder fun slot o ho => ?_
  split
  · next h => exact answers_taken (.freed ho h) _ rfl
  · exact answers_refuse
  all_goals
    next h =>
      exact answers_taken (.withdrawn (s.price.dropAmendmentOf slot) (requesterOf link) false ho (by simp [h]) (by simp [h])
        (by simp)) _ rfl

theorem serveReadItem_answers (ticket : Word16) (item : Byte) (s : State) :
    Answers s 22 (serveReadItem ticket item s) := by
  refine answers_withOrder fun slot o _ => ?_
  split
  · exact answers_refuse
  · split
    · exact answers_taken .nothing _ (by simp [itemRecord])
    · exact answers_refuse

theorem sizeRecord_length (e : SizeEntry) : (sizeRecord e).length = 8 := by simp [sizeRecord]

theorem serveWriteSize_answers (index enabled : Byte) (wp lp paperWidth : Word16) (group : Byte) (s : State) :
    Answers s 8 (serveWriteSize index enabled wp lp paperWidth group s) := by
  unfold serveWriteSize
  split
  · exact answers_refuse
  · split
    · exact answers_refuse
    · split
      · exact answers_refuse
      · exact answers_taken (.sizeWritten _ _) _ (sizeRecord_length _)

theorem serveReadSize_answers (index : Byte) (s : State) : Answers s 8 (serveReadSize index s) := by
  unfold serveReadSize
  split
  · exact answers_refuse
  · split
    · exact answers_taken .nothing _ (sizeRecord_length _)
    · exact answers_refuse

theorem serveSetWindows_answers (express standard bulk : Word16) (s : State) :
    Answers s 6 (serveSetWindows express standard bulk s) :=
  answers_taken (.windows _ (Nat.min_le_left _ _) (Nat.min_le_left _ _) (Nat.min_le_left _ _)) _ (by simp)

theorem serveSetRemakeLimit_answers (limit : Byte) (s : State) : Answers s 1 (serveSetRemakeLimit limit s) :=
  answers_taken (.remakeLimit _ (Nat.min_le_left _ _)) _ rfl

/-! ### The engine link -/

theorem magazineRecord_length (m : MagazineRecord) : (magazineRecord m).length = 8 := by simp [magazineRecord]

theorem serveLoadRoll_answers (magazine : Byte) (width : Word16) (surface : Byte) (length : Word32) (s : State) :
    Answers s 8 (serveLoadRoll magazine width surface length s) := by
  cases hm : Magazine.ofByte? magazine with
  | none =>
    rw [show serveLoadRoll magazine width surface length s = refuse s .malformed by simp [serveLoadRoll, hm]]
    exact answers_refuse
  | some m =>
    cases hu : Surface.ofByte? surface with
    | none =>
      rw [show serveLoadRoll magazine width surface length s = refuse s .malformed by simp [serveLoadRoll, hu]]
      exact answers_refuse
    | some u =>
      by_cases hwidth : width.toNat < 89 ∨ width.toNat > 305
      · rw [serveLoadRoll_malformed (by tauto)]
        exact answers_refuse
      · obtain ⟨hmin, hmax⟩ : 89 ≤ width.toNat ∧ width.toNat ≤ 305 := by omega
        by_cases hbusy : s.scheduler.active = some m ∧ s.exposing = true
        · rw [serveLoadRoll_wrongState hm hu hmin hmax hbusy.1 hbusy.2]
          exact answers_refuse
        · rw [serveLoadRoll_taken hm hu hmin hmax (by
            rw [← Bool.not_eq_true]
            exact not_and_or.1 hbusy)]
          exact answers_taken (.rollLoaded m width u length hmin hmax) _ (by
            rw [← magazineRecord_eq_layout, magazineRecord_length])

theorem serveUnloadRoll_answers (magazine : Byte) (s : State) : Answers s 8 (serveUnloadRoll magazine s) := by
  cases hm : Magazine.ofByte? magazine with
  | none =>
    rw [show serveUnloadRoll magazine s = refuse s .malformed by simp [serveUnloadRoll, hm]]
    exact answers_refuse
  | some m =>
    by_cases hbusy : s.scheduler.active = some m ∧ s.exposing = true
    · rw [serveUnloadRoll_wrongState hm hbusy.1 hbusy.2]
      exact answers_refuse
    · rw [serveUnloadRoll_taken hm (by
        rw [← Bool.not_eq_true]
        exact not_and_or.1 hbusy)]
      exact answers_taken (.rollUnloaded m) _ (by rw [← magazineRecord_eq_layout, magazineRecord_length])

theorem serveMagazineSwitched_answers (magazine : Byte) (s : State) :
    Answers s 0 (serveMagazineSwitched magazine s) := by
  cases hm : Magazine.ofByte? magazine with
  | none =>
    rw [show serveMagazineSwitched magazine s = refuse s .malformed by simp [serveMagazineSwitched, hm]]
    exact answers_refuse
  | some m =>
    by_cases hbusy : s.exposing = true ∨ s.web.leaderExposed = true
    · rw [show serveMagazineSwitched magazine s = refuse s .wrongState by simp [serveMagazineSwitched, hm, hbusy]]
      exact answers_refuse
    · obtain ⟨hexposing, hleader⟩ : s.exposing = false ∧ s.web.leaderExposed = false := by simpa using hbusy
      rw [serveMagazineSwitched_taken hm hexposing hleader]
      exact answers_taken (.magazineTaken m hexposing hleader) _ rfl

theorem serveTransport_answers (state : Byte) (s : State) : Answers s 0 (serveTransport state s) := by
  unfold serveTransport
  split
  · exact answers_taken .transportRun _ rfl
  · exact answers_taken .transportStop _ rfl
  · exact answers_refuse

theorem cutRecordBytes_length (r : CutRecord) : (cutRecordBytes r).length = 20 := by
  have hform : r.piece.formBytes.length = 2 := by unfold Piece.formBytes; split <;> rfl
  have hcopy : r.piece.copyBytes.length = 2 := by unfold Piece.copyBytes; split <;> rfl
  simp [cutRecordBytes, hform, hcopy]

theorem serveCut_answers (s : State) : Answers s 20 (serveCut s) :=
  answers_taken .cut _ (cutRecordBytes_length _)

theorem readingRecord_length (r : Reading) : (readingRecord r).length = 21 := by simp [readingRecord]

theorem servePatchReading_answers (m0 m1 m2 : Word16) (s : State) : Answers s 21 (servePatchReading m0 m1 m2 s) := by
  unfold servePatchReading
  split
  · exact answers_refuse
  · split
    · exact answers_refuse
    · next g behind hpatch => exact answers_taken (.patchRead _ hpatch) _ (readingRecord_length _)

theorem serveHeadFault_answers (channel : Byte) (s : State) : Answers s 0 (serveHeadFault channel s) := by
  unfold serveHeadFault
  split
  · next c _ => exact answers_taken (.headFault c) _ rfl
  · exact answers_refuse

theorem serveHeadReady_answers (channel : Byte) (s : State) : Answers s 0 (serveHeadReady channel s) := by
  unfold serveHeadReady
  split
  · exact answers_taken (.headReady _) _ rfl
  · exact answers_refuse

theorem serveBinEmptied_answers (bin : Byte) (s : State) : Answers s 1 (serveBinEmptied bin s) := by
  unfold serveBinEmptied
  split
  · exact answers_refuse
  · split
    · exact answers_refuse
    · next hb => exact answers_taken (.binCleared hb) _ rfl

theorem serveTrayEmptied_answers (s : State) : Answers s 0 (serveTrayEmptied s) :=
  answers_taken .trayCleared _ rfl

theorem serveWebCleared_answers (s : State) : Answers s 3 (serveWebCleared s) := by
  unfold serveWebCleared
  split
  · exact answers_refuse
  · next h =>
    refine answers_taken (.webCleared ?_) _ rfl
    cases hf : s.web.fault <;> simp_all

theorem serveDensityReset_answers (s : State) : Answers s 0 (serveDensityReset s) :=
  answers_taken .densityReset _ rfl

theorem serveSetWeb_answers (lpath : Word32) (leaderLength endReserve stallTime : Word16) (s : State) :
    Answers s 10 (serveSetWeb lpath leaderLength endReserve stallTime s) :=
  answers_taken (.webSet _ _ _ _) _ rfl

theorem serveSetDensity_answers (k t0 t1 t2 : Word16) (a : Byte) (q : Word16) (tolerance : Byte) (g0 g1 g2 : Word16)
    (s : State) : Answers s 18 (serveSetDensity k t0 t1 t2 a q tolerance g0 g1 g2 s) :=
  answers_taken (.densitySet k t0 t1 t2 a q tolerance g0 g1 g2) _ rfl

theorem serveSetBin_answers (bin group capacity : Byte) (s : State) : Answers s 3 (serveSetBin bin group capacity s) := by
  unfold serveSetBin
  split
  · split
    · exact answers_refuse
    · next hb =>
      split
      · exact answers_refuse
      · next hfree => exact answers_taken (.binSet _ capacity hb (not_not.1 hfree)) _ rfl
  · exact answers_refuse

theorem copyBytes_length (p : Piece) : p.copyBytes.length = 2 := by unfold Piece.copyBytes; split <;> rfl

theorem segmentAt_length (s : State) (position : Nat) : (segmentAt s position).length = 14 := by
  unfold segmentAt segmentRecord
  split
  · split <;> simp [copyBytes_length]
  · rfl

theorem stretchBytes_length (s : State) : (stretchBytes s).length = 9 := by
  unfold stretchBytes
  split
  · split <;> simp
  · rfl

theorem referenceBytes_length (s : State) : (referenceBytes s).length = 9 := by
  unfold referenceBytes
  split <;> simp

theorem fetchBytes_length (s : State) : (fetchBytes s).length = 7 := by
  unfold fetchBytes
  split
  · split <;> simp
  · rfl

theorem lastFaultBytes_length (f : RasterFetch) : (lastFaultBytes f).length = 9 := by
  unfold lastFaultBytes
  split <;> simp

theorem exposureBytes_length (c : ChannelOutput) : (exposureBytes c).length = 7 := by
  unfold exposureBytes
  split <;> simp

theorem webReply_length (s : State) (position part : Nat) :
    (webReply s position part).length =
      if part = 0 then 52 else if part = 1 then 21 else if part = 2 then 24 else if part = 3 then 22 else 29 := by
  unfold webReply
  split
  · simp [webPart, stretchBytes_length, referenceBytes_length, segmentAt_length]
  · unfold lastCutPart
    split <;> simp [cutRecordBytes_length]
  · simp [densityPart]
  · unfold lastReadingPart
    split <;> simp [readingRecord_length]
  · simp_all [channelsPart, fetchBytes_length, lastFaultBytes_length, exposureBytes_length]

theorem serveReadWeb_answers (position part : Byte) (s : State) :
    Answers s (replyLength .readWeb [position, part]) (serveReadWeb position part s) := by
  unfold serveReadWeb
  split
  · exact answers_refuse
  · split
    · exact answers_refuse
    · refine answers_taken (.freeValues _) _ ?_
      simp [webReply_length, replyLength, BitVec.toNat_eq]

theorem serveReadMagazine_answers (s : State) : Answers s 21 (serveReadMagazine s) :=
  answers_taken .nothing _ (by simp [magazineRecord_length])

/-! ### The till link -/

theorem priceRecord_length (s : State) (slot : Nat) (o : Order) : (priceRecord s slot o).length = 17 := by
  simp [priceRecord]

theorem serveReadPrice_answers (ticket : Word16) (item : Byte) (s : State) :
    Answers s (replyLength .readPrice (be16 ticket ++ [item])) (serveReadPrice ticket item s) := by
  have hlen : replyLength .readPrice (be16 ticket ++ [item]) = if item = 255#8 then 17 else 30 := by
    simp [replyLength, be16]
  rw [hlen]
  refine answers_withOrder fun slot o _ => ?_
  split
  · exact answers_taken .nothing _ (priceRecord_length _ _ _)
  · split
    · exact answers_refuse
    · split
      · exact answers_taken .nothing _ (by simp [priceRecord_length, priceItemRecord])
      · exact answers_refuse

theorem serveAmendOpen_answers (ticket : Word16) (s : State) : Answers s 14 (serveAmendOpen ticket s) := by
  refine answers_withOrder fun slot o _ => ?_
  split
  · exact answers_refuse
  · split
    · exact answers_refuse
    · exact answers_taken (.repriced _) _ rfl

theorem serveAmendSet_answers (ticket : Word16) (kind : Byte) (value : Word32) (s : State) :
    Answers s 12 (serveAmendSet ticket kind value s) := by
  refine answers_withAmendment fun slot o a _ => ?_
  split
  · exact answers_refuse
  · exact answers_taken (.repriced _) _ rfl

theorem serveAmendCommit_answers (ticket : Word16) (s : State) : Answers s 12 (serveAmendCommit ticket s) :=
  answers_withAmendment fun _ _ a ho => answers_taken (.committed a ho) _ rfl

theorem serveAmendDrop_answers (ticket : Word16) (s : State) : Answers s 8 (serveAmendDrop ticket s) :=
  answers_withAmendment fun _ _ _ _ => answers_taken (.repriced _) _ rfl

theorem serveCollect_answers (ticket : Word16) (s : State) : Answers s 4 (serveCollect ticket s) := by
  refine answers_withOrder fun slot o ho => ?_
  split
  · exact answers_refuse
  · next hcomplete =>
    split
    · exact answers_refuse
    · exact answers_taken (.collected _ ho (not_not.1 hcomplete)) _ rfl

theorem serveCollectPartial_answers (ticket : Word16) (s : State) : Answers s 5 (serveCollectPartial ticket s) := by
  refine answers_withOrder fun slot o ho => ?_
  split
  · exact answers_refuse
  · next hstate =>
    obtain ⟨hopened, hwithdrawn⟩ := not_or.1 hstate
    split
    · exact answers_refuse
    · split
      · next hcomplete => exact answers_taken (.collected _ ho hcomplete) _ rfl
      · next hcomplete =>
        exact answers_taken (.withdrawn _ .nobody true ho hopened hwithdrawn fun _ => hcomplete) _ rfl

theorem serveWriteTariff_answers (target index : Byte) (f0 f1 f2 f3 f4 : Word16) (s : State) :
    Answers s 0 (serveWriteTariff target index f0 f1 f2 f3 f4 s) := by
  unfold serveWriteTariff
  split
  · split
    · exact answers_refuse
    · split
      · exact answers_refuse
      · split
        · exact answers_refuse
        · exact answers_taken (.repriced _) _ rfl
  · split
    · split
      · exact answers_refuse
      · exact answers_taken (.repriced _) _ rfl
    · exact answers_refuse

theorem serveCloseDay_answers (s : State) : Answers s 2 (serveCloseDay s) := by
  unfold serveCloseDay
  split
  · exact answers_refuse
  · split
    · exact answers_refuse
    · exact answers_taken (.repriced _) _ rfl

theorem serveSetUncollectedTime_answers (minutes : Word16) (s : State) :
    Answers s 2 (serveSetUncollectedTime minutes s) :=
  answers_taken (.uncollectedTime _ (Nat.min_le_left _ _)) _ rfl

theorem serveReadBin_answers (bin : Byte) (s : State) : Answers s 16 (serveReadBin bin s) := by
  unfold serveReadBin
  split
  · exact answers_refuse
  · split
    · exact answers_refuse
    · exact answers_taken .nothing _ rfl

/-! ### All three links -/

theorem orderRecord_length (s : State) (slot : Nat) (o : Order) : (orderRecord s slot o).length = 31 := by
  have hms : (o.msToEligible s.timeBase).length = 4 := by unfold Order.msToEligible; split <;> rfl
  simp [orderRecord, binPlaces, hms]

theorem serveReadOrder_answers (ticket : Word16) (s : State) : Answers s 31 (serveReadOrder ticket s) :=
  answers_withOrder fun _ _ _ => answers_taken .nothing _ (orderRecord_length _ _ _)

theorem sixBytes_length (fields : List Byte) : (sixBytes fields).length = 6 := by simp [sixBytes]

theorem serveReadAttention_answers (link : Link) (s : State) : Answers s 10 (serveReadAttention link s) := by
  unfold serveReadAttention
  split
  · exact answers_taken .nothing _ (by simp [State.attentionBytes])
  · exact answers_taken (.attention link _) _ (by simp [State.attentionBytes, sixBytes_length])

theorem serveSetMask_answers (link : Link) (entries : List Byte) (s : State)
    (hlen : PortsOk s → entries.length = (causesOf link).length) : Answers s 2 (serveSetMask link entries s) := by
  unfold serveSetMask
  split
  · exact answers_refuse
  · next h => exact answers_taken (.masked link hlen h) _ rfl

/-- Every request is refused, or answered with the reply length of R200 and one of the effects above. -/
theorem serveRequest_answers {i : Instr} {link : Link} {c : RequestCode} {fields : List Byte}
    (h : i.request = some (link, c, fields)) {s : State} (hl : PortsOk s → fields.length = c.fieldLength link) :
    Answers s (replyLength c fields) (serveRequest i s) := by
  cases i <;> cases h
  case openOrder => exact serveOpenOrder_answers ..
  case addItem => exact serveAddItem_answers ..
  case submit => exact serveSubmit_answers ..
  case hold => exact serveHold_answers ..
  case release => exact serveRelease_answers ..
  case cancel => exact serveCancel_answers ..
  case readItem => exact serveReadItem_answers ..
  case writeSize => exact serveWriteSize_answers ..
  case readSize => exact serveReadSize_answers ..
  case setWindows => exact serveSetWindows_answers ..
  case setRemakeLimit => exact serveSetRemakeLimit_answers ..
  case loadRoll => exact serveLoadRoll_answers ..
  case unloadRoll => exact serveUnloadRoll_answers ..
  case magazineSwitched => exact serveMagazineSwitched_answers ..
  case transport => exact serveTransport_answers ..
  case cut => exact serveCut_answers s
  case patchReading => exact servePatchReading_answers ..
  case headFault => exact serveHeadFault_answers ..
  case headReady => exact serveHeadReady_answers ..
  case binEmptied => exact serveBinEmptied_answers ..
  case trayEmptied => exact serveTrayEmptied_answers s
  case webCleared => exact serveWebCleared_answers s
  case densityReset => exact serveDensityReset_answers s
  case setWeb => exact serveSetWeb_answers ..
  case setDensity => exact serveSetDensity_answers ..
  case setBin => exact serveSetBin_answers ..
  case readWeb => exact serveReadWeb_answers ..
  case readMagazine => exact serveReadMagazine_answers s
  case readPrice => exact serveReadPrice_answers ..
  case amendOpen => exact serveAmendOpen_answers ..
  case amendSet => exact serveAmendSet_answers ..
  case amendCommit => exact serveAmendCommit_answers ..
  case amendDrop => exact serveAmendDrop_answers ..
  case collect => exact serveCollect_answers ..
  case collectPartial => exact serveCollectPartial_answers ..
  case writeTariff => exact serveWriteTariff_answers ..
  case lockTariff => exact answers_taken (.repriced _) _ rfl
  case closeDay => exact serveCloseDay_answers s
  case readClosedDay => exact answers_taken (.repriced _) _ (by simp [totalsBlock, replyLength])
  case readTotals => exact answers_taken .nothing _ (by simp [totalsBlock, replyLength])
  case setUncollectedTime => exact serveSetUncollectedTime_answers ..
  case readBin => exact serveReadBin_answers ..
  case readOrder => exact serveReadOrder_answers ..
  case readAttention => exact serveReadAttention_answers ..
  case setMask => exact serveSetMask_answers _ _ _ fun hports => by rw [hl hports]; cases link <;> rfl

end Sys2Proof.Steps

/-! What a step comes to: the effect of a command, its port, and the causes of an attempt noted (O11, O16, O17). -/

namespace Sys2Proof.Steps

open Sys2Proof.Machine Sys2Proof.Laws Sys2Proof.OrdersAndItems Sys2Proof.Magazines Sys2Proof.Sorting Sys2Proof.Till
open Sys2Proof.Ports

/-! ## Replies -/

theorem status_toByte_injective {a b : Status} (h : a.toByte = b.toByte) : a = b := by
  revert h
  cases a <;> cases b <;> decide

theorem answered_replied_iff {s : State} {link : Link} {r : State × Reply} {status : Status} {out : List Byte} :
    Replied (s.answered link r) link status out ↔ r.2.status = status ∧ r.2.fields = out := by
  constructor
  · intro h
    simp only [Replied, port_answered_same, Reply.bytes, Port.reply.injEq, List.cons.injEq] at h
    exact ⟨status_toByte_injective h.1.1, h.1.2.2⟩
  · rintro ⟨rfl, rfl⟩
    exact replied_answered s link r

/-- A request command that is being taken is answered with a refusal, or with one of the effects of `Change` and a reply of
the table's length. -/
theorem exec_of_taking_cases {i : Instr} {s : State} {link : Link} {c : RequestCode} {fields : List Byte}
    (h : i.request = some (link, c, fields)) (ht : Taking s link c fields) :
    ∃ r, exec i s = .next (s.answered link r) ∧ Answers s (replyLength c fields) r := by
  refine ⟨_, exec_of_taking h ht, ?_⟩
  obtain ⟨status, hok, hclamped, hrefuse⟩ | ⟨c', hc, -, hlen, hserve⟩ := answerFrame_cases (link := link)
    (code := c.toByte) (len := fields.length) (serve := serveRequest i) (s := s)
  · exact .inl ⟨status, hok, hclamped, hrefuse⟩
  · obtain rfl : c = c' := by simpa using hc
    rw [hserve]
    exact serveRequest_answers h fun _ => hlen

theorem taken_status (clamped : Bool) (fields : List Byte) :
    (Reply.taken clamped fields).status = .ok ∨ (Reply.taken clamped fields).status = .clamped := by
  cases clamped <;> simp [Reply.taken]

/-- Settles O16: a reply of another status than OK and CLAMPED is a refusal's. -/
theorem refusedRequestsChangeNothing : Obligations.RefusedRequestsChangeNothing := by
  intro i s t link c fields status out hi ht hexec hreplied hok hclamped
  obtain ⟨r, hr, hanswers⟩ := exec_of_taking_cases hi ht
  obtain rfl : s.answered link r = t := by rw [hr] at hexec; cases hexec; rfl
  obtain ⟨hstatus, hfields⟩ := answered_replied_iff.1 hreplied
  obtain ⟨status', -, -, rfl⟩ | ⟨u, clamped, bytes, rfl, -, -⟩ := hanswers
  · exact ⟨by rw [← hfields]; rfl, onlyChanges_refused s link _⟩
  · rcases taken_status clamped bytes with h | h
    · exact absurd (hstatus.symm.trans h) hok
    · exact absurd (hstatus.symm.trans h) hclamped

/-- Settles O17: a reply of status OK or CLAMPED is a taken request's. -/
theorem repliesHaveTheTablesLength : Obligations.RepliesHaveTheTablesLength := by
  intro i s t link c fields status out hi ht hexec hreplied hstatus
  obtain ⟨r, hr, hanswers⟩ := exec_of_taking_cases hi ht
  obtain rfl : s.answered link r = t := by rw [hr] at hexec; cases hexec; rfl
  obtain ⟨hst, hfields⟩ := answered_replied_iff.1 hreplied
  obtain ⟨status', hok, hclamped, rfl⟩ | ⟨u, clamped, bytes, rfl, hlen, -⟩ := hanswers
  · have hsame : status' = status := hst
    subst hsame
    tauto
  · rw [← hfields]
    exact hlen

/-! ## Requests read from their frames -/

theorem extract_append_high {m n : Nat} (a : BitVec m) (b : BitVec n) : (a ++ b).extractLsb' n m = a := by
  ext k hk
  simp [BitVec.getLsbD_append, BitVec.getLsbD_eq_getElem hk]

theorem extract_append_low {m n k j : Nat} (a : BitVec m) (b : BitVec n) (h : k + j ≤ n) :
    (a ++ b).extractLsb' k j = b.extractLsb' k j := by
  ext i hi
  simp [BitVec.getLsbD_append, show k + i < n by omega]

theorem extract_append_above {m n k j : Nat} (a : BitVec m) (b : BitVec n) :
    (a ++ b).extractLsb' (n + k) j = a.extractLsb' k j := by
  ext i hi
  simp [BitVec.getLsbD_append, Nat.add_assoc]

@[simp] theorem be16_word16 (a b : Byte) : be16 (word16 a b) = [a, b] := by
  have ha : (word16 a b).extractLsb' 8 8 = a := extract_append_high a b
  have hb : (word16 a b).extractLsb' 0 8 = b := (extract_append_low a b (by omega)).trans (by simp)
  rw [be16, ha, hb]

@[simp] theorem be32_word32 (a b c d : Byte) : be32 (word32 a b c d) = [a, b, c, d] := by
  have ha : (word32 a b c d).extractLsb' 24 8 = a :=
    (extract_append_above (n := 16) (k := 8) (a ++ b : BitVec 16) (c ++ d : BitVec 16)).trans (extract_append_high a b)
  have hb : (word32 a b c d).extractLsb' 16 8 = b :=
    (extract_append_above (n := 16) (k := 0) (a ++ b : BitVec 16) (c ++ d : BitVec 16)).trans
      ((extract_append_low a b (by omega)).trans (by simp))
  have hc : (word32 a b c d).extractLsb' 8 8 = c :=
    (extract_append_low (a ++ b : BitVec 16) (c ++ d : BitVec 16) (by omega)).trans (extract_append_high c d)
  have hd : (word32 a b c d).extractLsb' 0 8 = d :=
    (extract_append_low (a ++ b : BitVec 16) (c ++ d : BitVec 16) (by omega)).trans
      ((extract_append_low c d (by omega)).trans (by simp))
  rw [be32, ha, hb, hc, hd]

theorem decodeFields_request {link : Link} {c : RequestCode} {fields : List Byte} {i : Instr}
    (h : decodeFields link c fields = some i) :
    i.request = some (link, c, fields) := by
  cases c
  case setMask => cases h; rfl
  all_goals
    rcases fields with _ | ⟨_, _ | ⟨_, _ | ⟨_, _ | ⟨_, _ | ⟨_, _ | ⟨_, _ | ⟨_, _ | ⟨_, _ | ⟨_, _ | ⟨_, _ | ⟨_, _ | ⟨_,
      _ | ⟨_, _ | ⟨_, _ | ⟨_, _ | ⟨_, _ | ⟨_, _ | ⟨_, _ | ⟨_, _⟩⟩⟩⟩⟩⟩⟩⟩⟩⟩⟩⟩⟩⟩⟩⟩⟩⟩⟩ <;> cases h <;> simp [Instr.request]

/-! ## Steps -/

/-- What a command comes to: one of the effects of `Change`, with the causes of an attempt noted or not; a new phase of a
port; or a request answered. -/
inductive Outcome (s : State) : State → Prop
  | effect {u : State} (hu : Change s u) : Outcome s u
  | noted {u : State} (hu : Change s u) : Outcome s (s.noteCauses u)
  | port (link : Link) {p : Port} (hp : (s.port link).ok → p.ok) : Outcome s (s.setPort link p)
  | answered (link : Link) {r : State × Reply} {len : Nat} (hlen : len ≤ 62) (hr : Answers s len r) :
      Outcome s (s.answered link r)

theorem replyLength_le (c : RequestCode) (fields : List Byte) : replyLength c fields ≤ 62 := by
  cases c <;> simp only [replyLength] <;> first | omega | (split_ifs <;> omega)

theorem answerFrame_outcome {link : Link} {code : Byte} {len : Nat} {serve : State → State × Reply} {s : State}
    (h : ∀ c, RequestCode.ofByte? code = some c → len = c.fieldLength link →
      ∃ n, n ≤ 62 ∧ Answers s n (serve s)) :
    Outcome s (s.answered link (answerFrame link code len serve s)) := by
  obtain ⟨status, hok, hclamped, hrefuse⟩ | ⟨c, hc, -, hlen, hserve⟩ := answerFrame_cases (link := link) (code := code)
    (len := len) (serve := serve) (s := s)
  · exact .answered link (Nat.zero_le 62) (.inl ⟨status, hok, hclamped, hrefuse⟩)
  · obtain ⟨n, hn, hanswers⟩ := h c hc hlen
    rw [hserve]
    exact .answered link hn hanswers

theorem exec_request_outcome {i : Instr} {s t : State} {link : Link} {c : RequestCode} {fields : List Byte}
    (h : i.request = some (link, c, fields)) (hexec : exec i s = .next t) : Outcome s t := by
  rw [exec_of_request h] at hexec
  cases hexec
  unfold takeRequest
  split
  · refine answerFrame_outcome fun c' hc hlen => ?_
    obtain rfl : c = c' := by simpa using hc
    exact ⟨_, replyLength_le c fields, serveRequest_answers h fun _ => hlen⟩
  · exact .effect .nothing

/-- A frame that completes as its last byte arrives has as many field bytes as it says. -/
theorem length_of_completed {got : List Byte} {byte code len : Byte} {fields : List Byte}
    (hgot : got ++ [byte] = code :: len :: fields) (hbefore : frameComplete got = false)
    (hafter : frameComplete (code :: len :: fields) = true) (hlen : len.toNat ≤ 62) :
    fields.length = len.toNat := by
  rcases got with _ | ⟨a, _ | ⟨b, rest⟩⟩
  · simp at hgot
  · obtain ⟨-, -, rfl⟩ : a = code ∧ byte = len ∧ fields = [] := by simpa using hgot
    simp [frameComplete] at hafter
    simp
    omega
  · obtain ⟨-, rfl, rfl⟩ : a = code ∧ b = len ∧ rest ++ [byte] = fields := by simpa using hgot
    simp [frameComplete] at hbefore hafter
    simp
    omega

theorem length_le_of_incomplete {got : List Byte} (h : frameComplete got = false) : got.length ≤ 63 := by
  rcases got with _ | ⟨a, _ | ⟨b, rest⟩⟩
  · simp
  · simp
  · simp [frameComplete] at h
    simp
    omega

theorem receiveByte_outcome {s : State} {link : Link} {got : List Byte} {byte : Byte}
    (hport : s.port link = .request got) : Outcome s (s.receiveByte link (got ++ [byte])) := by
  cases hcomplete : frameComplete (got ++ [byte]) with
  | false =>
    rw [receiveByte_incomplete hcomplete]
    exact .port link fun _ => ⟨length_le_of_incomplete hcomplete, hcomplete⟩
  | true =>
    match hframe : got ++ [byte], hcomplete with
    | code :: len :: fields, hcomplete =>
      rw [receiveByte_complete hcomplete]
      refine answerFrame_outcome fun c hc hlen => ?_
      have h62 : len.toNat ≤ 62 := by
        have := fieldLength_le link c
        omega
      simp only [serveFields, hc, Option.bind_some]
      split
      · next i hi =>
        refine ⟨_, replyLength_le c fields, serveRequest_answers (decodeFields_request hi) fun hports => ?_⟩
        have hok := (hports link).1
        rw [hport] at hok
        exact (length_of_completed hframe hok.2 hcomplete h62).trans hlen
      · exact ⟨0, by omega, answers_refuse⟩

theorem exec_linkByteComplete_outcome (s : State) (link : Link) (byte : Byte) {t : State}
    (h : exec (.linkByteComplete link byte) s = .next t) : Outcome s t := by
  cases h
  split
  · next got hport => exact receiveByte_outcome hport
  · next bytes sent hport =>
    refine .port link fun hok => ?_
    rw [hport] at hok
    split
    · trivial
    · next hmore => exact ⟨hok.1, hok.2.1, Nat.not_le.1 hmore⟩
  · exact .effect .nothing
  · exact .effect .nothing

/-- Every command that is no request has one of these outcomes. -/
theorem exec_other_outcome {i : Instr} {s t : State} (h : i.request = none) (hexec : exec i s = .next t) :
    Outcome s t := by
  cases i <;> cases h
  case linkByteComplete link byte => exact exec_linkByteComplete_outcome s link byte hexec
  all_goals cases hexec
  case powerOnReset => exact .effect .powerOn
  case warmReset => exact .noted .warmReset
  case selectAsserted link =>
    split
    · exact .port link fun _ => ⟨by simp, rfl⟩
    · exact .effect .nothing
  case selectReleased link => exact .port link fun _ => trivial
  case unknownRequest link code len fields =>
    split
    · refine .answered link (Nat.zero_le 62) (.inl ⟨_, ?_, ?_, rfl⟩) <;> split <;> decide
    · exact .effect .nothing
  case lineStrobe => exact .noted .strobe
  case windowExpiry slot =>
    split
    · next o ho =>
      split
      · next e he =>
        split
        · next hdue =>
          simp only [Bool.and_eq_true, Bool.not_eq_true'] at hdue
          exact .noted (.windowExpired ho he hdue.2)
        · exact .effect .nothing
      · exact .effect .nothing
    · exact .effect .nothing
  case fetchTimeout =>
    split
    · next f e _ _ =>
      split
      · exact .noted (.rasterFault s.fetch f .timeout)
      · exact .effect .nothing
    · exact .effect .nothing
  case stallFirstExpiry =>
    split
    · next hstage =>
      split
      · exact .noted (.stallFirst hstage)
      · exact .effect .nothing
    · exact .effect .nothing
  case stallSecondExpiry =>
    split
    · next hstage =>
      split
      · exact .noted (.stallSecond hstage)
      · exact .effect .nothing
    · exact .effect .nothing
  case uncollectedExpiry bin =>
    split
    · next b hb =>
      split
      · split
        · next hdue =>
          simp only [Bool.and_eq_true, beq_iff_eq] at hdue
          exact .noted (.binExpired hb hdue.2)
        · exact .effect .nothing
      · exact .effect .nothing
    · exact .effect .nothing
  case rowFetch =>
    split
    · exact .noted (.fetched _)
    · exact .noted (.fetched _)
    · exact .effect .nothing
  case rowData tag pixels =>
    refine .noted ?_
    split
    · exact .fetched _
    · unfold State.takeRowData
      split
      · next f _ =>
        split
        · exact .fetched _
        · split
          · exact .rowPlaced _ _
          · exact .rasterFault _ f .wrongLength
      · exact .fetched _
  case rowFault tag reason =>
    refine .noted ?_
    unfold State.takeRowFault
    split
    · next f _ =>
      split
      · exact .rasterFault _ f _
      · exact .fetched _
    · exact .fetched _
  case rasterFrameUnreadable =>
    split
    · exact .noted (.fetched _)
    · exact .effect .nothing
  case selectionAttempt =>
    split
    · next active hactive =>
      split
      · next hdue => exact .noted (.attempt hactive hdue)
      · exact .effect .nothing
    · exact .effect .nothing
  case lineProduced =>
    split
    · next w codes hproducible => exact .noted (.lineProduced hproducible)
    · exact .effect .nothing
  case timeBaseTick => exact .effect .tick

/-- A step has one of these outcomes on the state with its front command taken off the queue. -/
theorem step_outcome {s t : State} (h : step s = .next t) : Outcome { s with pending := s.pending.tail } t := by
  unfold step at h
  split at h
  · next hq =>
    cases h
    have hs : { s with pending := s.pending.tail } = s := by
      cases s
      simp_all
    rw [hs]
    exact .effect .rasterTick
  · next c rest hq =>
    rw [hq]
    match hr : c.request with
    | some (link, code, fields) => exact exec_request_outcome hr h
    | none => exact exec_other_outcome hr h

/-! ## Invariants -/

/-- What every effect keeps, and what speaks of neither the links nor the cause of an attempt nor the queue of commands,
every step keeps. -/
theorem step_keeps {P : State → Prop}
    (hframe : ∀ (s : State) ls cause q, P s →
      P { s with links := ls, scheduler := { s.scheduler with attemptCause := cause }, pending := q })
    (hchange : ∀ s t, P s → Change s t → P t) {s t : State} (hs : P s) (h : step s = .next t) : P t := by
  have hs' : P { s with pending := s.pending.tail } := hframe s s.links s.scheduler.attemptCause _ hs
  generalize hs0 : ({ s with pending := s.pending.tail } : State) = s0 at hs'
  have houtcome := step_outcome h
  rw [hs0] at houtcome
  cases houtcome with
  | effect hu => exact hchange _ _ hs' hu
  | @noted u hu => exact hframe u u.links _ u.pending (hchange _ _ hs' hu)
  | port link hp => exact hframe s0 _ s0.scheduler.attemptCause s0.pending hs'
  | answered link hlen hr =>
    obtain ⟨status, -, -, rfl⟩ | ⟨u, clamped, fields, rfl, -, hu⟩ := hr
    · exact hframe s0 _ _ s0.pending hs'
    · exact hframe u _ _ u.pending (hchange _ _ hs' hu)

end Sys2Proof.Steps

/-! What the composite operations leave unchanged, in the terms of `OnlyChanges`: disposal, cuts, strobes, attempts, resets. -/

namespace Sys2Proof.Steps

open Sys2Proof.Machine Sys2Proof.Laws Sys2Proof.OrdersAndItems Sys2Proof.Magazines Sys2Proof.Sorting Sys2Proof.Till

/-! ## Blocks from their parts -/

section
variable {parts : List Machine.Part} {s t : State}

theorem web_eq_of_onlyChanges (h : OnlyChanges parts s t)
    (hparts : ∀ p ∈ ([.map, .odometer, .lpath, .transport, .stallTime, .stall, .webFault, .unlisted, .cuts,
      .leaderTarget, .mark] : List Machine.Part), p ∉ parts) : t.web = s.web := by
  simp only [List.forall_mem_cons] at hparts
  obtain ⟨hmap, hodometer, hlpath, htransport, htime, hstall, hfault, hunlisted, hcuts, htarget, hmark, -⟩ := hparts
  have h1 := h _ hmap
  have h2 := h _ hodometer
  have h3 := h _ hlpath
  have h4 := h _ htransport
  have h5 := h _ htime
  obtain ⟨h6, h7⟩ := h _ hstall
  have h8 := h _ hfault
  have h9 := h _ hunlisted
  obtain ⟨h10, h11⟩ := h _ hcuts
  have h12 := h _ htarget
  have h13 := h _ hmark
  simp only [Same] at *
  cases hs : s.web
  cases ht : t.web
  simp_all

theorem channel_eq_of_onlyChanges (h : OnlyChanges parts s t)
    (hparts : ∀ p ∈ ([.lineQueue, .exposure, .enables, .repeatTolerance, .heads] : List Machine.Part), p ∉ parts) :
    t.channel = s.channel := by
  simp only [List.forall_mem_cons] at hparts
  obtain ⟨hqueue, hexposure, henables, htolerance, hheads, -⟩ := hparts
  have h1 := h _ hqueue
  have h2 := h _ hexposure
  have h3 := h _ henables
  have h4 := h _ htolerance
  obtain ⟨h5, h6⟩ := h _ hheads
  simp only [Same] at *
  cases hs : s.channel
  cases ht : t.channel
  simp_all

end

/-! ## Small operations -/

theorem onlyChanges_transportRun (s : State) : OnlyChanges [.transport, .stall] s s.transportRun := by
  intro p hp
  unfold State.transportRun Web.startStall
  cases p <;> simp_all [Same, State.port] <;> split <;> simp

theorem onlyChanges_transportStop (s : State) : OnlyChanges [.map, .transport, .stall] s s.transportStop := by
  intro p hp
  cases p <;> simp_all [Same, State.port, State.transportStop]

theorem onlyChanges_stallFirst (s : State) : OnlyChanges [.map, .stall] s s.stallFirst := by
  intro p hp
  cases p <;> simp_all [Same, State.port, State.stallFirst]

theorem onlyChanges_headFaulted (s : State) (c : Fin 3) : OnlyChanges [.map, .enables] s (headFaulted s c) := by
  intro p hp
  cases p <;> simp_all [Same, State.port, headFaulted]

theorem onlyChanges_densityCleared (s : State) :
    OnlyChanges [.offsets, .densityFault, .map, .patchCadence] s (densityCleared s) := by
  intro p hp
  cases p <;> simp_all [Same, State.port, densityCleared]

theorem onlyChanges_delist (s : State) (slot : Nat) :
    OnlyChanges [.orders, .classLists, .attemptCause] s (s.delist slot) := by
  intro p hp
  cases p <;> simp_all [Same, State.port]

theorem onlyChanges_enlistedIf (s : State) (slot : Nat) (joins : Prop) [Decidable joins] :
    OnlyChanges [.classLists, .attemptCause] s (enlistedIf s slot joins) := by
  unfold enlistedIf
  split
  · exact onlyChanges_enlist s slot
  · exact onlyChanges_refl _ _

theorem onlyChanges_voidSelectionOf (s : State) (slot : Nat) :
    OnlyChanges [.selection, .attemptCause, .lineQueue, .work, .rows, .fetch] s (s.voidSelectionOf slot) := by
  unfold State.voidSelectionOf
  split
  · exact onlyChanges_voidSelection s
  · exact onlyChanges_refl _ _

theorem onlyChanges_releaseBins (s : State) (slot : Nat) : OnlyChanges [.orders, .bins] s (s.releaseBins slot) := by
  intro p hp
  cases p <;> simp_all [Same, State.port]

theorem onlyChanges_clearCause (s : State) (link : Link) (c : Cause) :
    OnlyChanges [.orders, .items, .patchUnread] s (s.clearCause link c) := by
  unfold State.clearCause
  split
  · split
    · exact onlyChanges_mono (onlyChanges_modifyOrder s _ _) (by simp)
    · exact onlyChanges_refl _ _
  · split
    · exact onlyChanges_mono (onlyChanges_modifyOrder s _ _) (by simp)
    · exact onlyChanges_refl _ _
  · split
    · exact onlyChanges_mono (onlyChanges_modifyOrder s _ _) (by simp)
    · exact onlyChanges_refl _ _
  · split
    · exact onlyChanges_mono (onlyChanges_trans (onlyChanges_modifyOrder s _ _) (onlyChanges_freeRecord _ _)) (by simp)
    · exact onlyChanges_refl _ _
  · intro p hp
    cases p <;> simp_all [Same, State.port]
  all_goals exact onlyChanges_refl _ _

theorem onlyChanges_expireWindow (s : State) (slot : Nat) :
    OnlyChanges [.orders, .classLists, .attemptCause] s (s.expireWindow slot) := by
  have hended := onlyChanges_modifyOrder s slot fun o => { o with windowEnded := true }
  unfold State.expireWindow
  dsimp only
  split
  · split
    · exact onlyChanges_mono (onlyChanges_trans hended (onlyChanges_enlist _ _)) (by simp)
    · exact onlyChanges_mono hended (by simp)
  · exact onlyChanges_mono hended (by simp)

theorem onlyChanges_placeRow (s : State) (row : Row) : OnlyChanges [.rows, .fetch, .nextTag] s (s.placeRow row) := by
  intro p hp
  cases p <;> simp_all [Same, State.port]

/-! ## Completion, withdrawal, disposal -/

theorem onlyChanges_accountCheck (s : State) (slot : Nat) :
    OnlyChanges [.orders, .items, .classLists, .attemptCause, .work, .rows, .fetch, .bins] s (s.accountCheck slot) := by
  intro p hp
  cases p <;> simp_all [Same, State.port]

theorem onlyChanges_withdraw (s : State) (slot : Nat) (q : Requester) (partially : Bool) :
    OnlyChanges [.orders, .items, .classLists, .attemptCause, .selection, .work, .rows, .fetch, .lineQueue, .exposure,
      .bins] s (s.withdraw slot q partially) := by
  intro p hp
  cases p <;> simp_all [Same, State.port]

theorem onlyChanges_disposeCopy (s : State) (slot n : Nat) (rejected : Bool) :
    OnlyChanges [.orders, .items, .classLists, .attemptCause, .work, .rows, .fetch, .bins, .totals] s
      (s.disposeCopy slot n rejected).1 := by
  intro p hp
  cases p <;> simp_all [Same, State.port]

theorem onlyChanges_disposeSegments (s : State) (rejected : Bool) (segments : List Segment) :
    OnlyChanges [.orders, .items, .classLists, .attemptCause, .work, .rows, .fetch, .bins, .totals] s
      (s.disposeSegments rejected segments).1 := by
  induction segments generalizing s with
  | nil => exact onlyChanges_refl _ _
  | cons g rest ih =>
    unfold State.disposeSegments
    split
    · exact onlyChanges_mono (onlyChanges_trans (onlyChanges_disposeCopy s _ _ _) (ih _)) (by simp)
    · exact ih s

theorem onlyChanges_clearMap (s : State) :
    OnlyChanges [.orders, .items, .classLists, .attemptCause, .work, .rows, .fetch, .bins, .totals, .map, .unlisted,
      .stall] s s.clearMap.1 := by
  have hempty : OnlyChanges [.map, .unlisted] s { s with web := { s.web with map := [], unlisted := none } } := by
    intro p hp
    cases p <;> simp_all [Same, State.port]
  have hstop (t : State) : OnlyChanges [.stall] t { t with web := t.web.stopIfEmpty } := by
    intro p hp
    unfold Web.stopIfEmpty
    cases p <;> simp_all [Same, State.port] <;> split <;> simp_all
  exact onlyChanges_mono (onlyChanges_trans (onlyChanges_trans hempty (onlyChanges_disposeSegments _ _ _)) (hstop _))
    (by simp)

theorem onlyChanges_webEmptied (s : State) :
    OnlyChanges [.orders, .items, .classLists, .attemptCause, .work, .rows, .fetch, .bins, .totals, .map, .unlisted,
      .stall, .webFault] s (webEmptied s) := by
  have hfault (t : State) : OnlyChanges [.webFault] t { t with web := { t.web with fault := none } } := by
    intro p hp
    cases p <;> simp_all [Same, State.port]
  exact onlyChanges_mono (onlyChanges_trans (onlyChanges_clearMap s) (hfault _)) (by simp)

theorem onlyChanges_warmReset (s : State) :
    OnlyChanges [.orders, .items, .classLists, .attemptCause, .selection, .active, .switchRequest, .leaderPending, .work,
      .rows, .fetch, .rasterLink, .lineQueue, .exposure, .enables, .bins, .totals, .map, .unlisted, .transport, .stall,
      .webFault] s s.warmReset := by
  have hflush : OnlyChanges [.selection, .attemptCause, .work, .rows, .fetch, .lineQueue, .exposure, .map] s s.flush := by
    intro p hp
    cases p <;> simp_all [Same, State.port]
  have hwarm (t : State) : OnlyChanges [.active, .switchRequest, .leaderPending, .rasterLink, .enables, .unlisted,
      .transport, .stall, .webFault] t
      { t with
        scheduler := t.scheduler.warm
        channel := { t.channel with enabled := { c0 := true, c1 := true, c2 := true } }
        web := t.web.warm
        fetch := t.fetch.cutOff } := by
    have hfetch (r : RasterFetch) : r.cutOff = { r with link := r.cutOff.link } := by
      unfold RasterFetch.cutOff
      split <;> rfl
    intro p hp
    rw [hfetch]
    generalize t.fetch.cutOff.link = link
    cases p <;> simp_all [Same, State.port, Scheduler.warm, Web.warm]
  exact onlyChanges_mono (onlyChanges_trans (onlyChanges_trans hflush (onlyChanges_clearMap _)) (hwarm _)) (by decide)

/-! ## Raster faults -/

theorem onlyChanges_rasterFault (s : State) (f : Fetch) (cause : FaultCause) :
    OnlyChanges [.orders, .items, .classLists, .selection, .attemptCause, .work, .rows, .fetch, .lastFault, .lineQueue,
      .exposure, .bins, .map] s (s.rasterFault f cause) := by
  intro p hp
  cases p <;> simp_all [Same, State.port]

/-! ## Cuts -/

theorem onlyChanges_popSegments (s : State) (k : Nat) :
    OnlyChanges [.map, .unlisted, .stall] s (s.popSegments k) := by
  have hweb : ∃ m u g l, s.popSegments k =
      { s with web := { s.web with map := m, unlisted := u, stage := g, stall := l } } := by
    unfold State.popSegments Web.admitStretch Web.stopIfEmpty
    dsimp only
    split <;> (try split) <;> split <;> exact ⟨_, _, _, _, rfl⟩
  obtain ⟨m, u, g, l, hweb⟩ := hweb
  rw [hweb]
  intro p hp
  cases p <;> simp_all [Same, State.port]

theorem onlyChanges_rejectPiece (s : State) (popped : List Segment) :
    OnlyChanges [.rejectCount, .patchUnread, .orders, .items, .classLists, .attemptCause, .work, .rows, .fetch, .bins,
      .totals] s (s.rejectPiece popped).1 := by
  have hcount : OnlyChanges [.rejectCount, .patchUnread] s (s.countReject.notePatches popped) := by
    intro p hp
    cases p <;> simp_all [Same, State.port]
  exact onlyChanges_mono (onlyChanges_trans hcount (onlyChanges_disposeSegments _ _ _)) (by simp)

/-- What a cut that pops segments may change. -/
def cutParts : List Part :=
  [.map, .unlisted, .stall, .rejectCount, .trayCount, .patchUnread, .orders, .items, .classLists, .attemptCause, .work,
    .rows, .fetch, .bins, .totals]

theorem onlyChanges_rejectSingle (s : State) (outcome : CutOutcome) (d : Option Int) (g : Segment) :
    OnlyChanges cutParts s (s.rejectSingle outcome d g).1 :=
  onlyChanges_mono (onlyChanges_trans (onlyChanges_popSegments s 1) (onlyChanges_rejectPiece _ [g])) (by simp [cutParts])

theorem onlyChanges_deliverPrint (s : State) (slot n : Nat) (o : Order) (e : SizeEntry) :
    OnlyChanges [.trayCount, .orders, .items, .classLists, .attemptCause, .work, .rows, .fetch, .bins, .totals] s
      (s.deliverPrint slot n o e).1 := by
  intro p hp
  cases p <;> simp_all [Same, State.port]

theorem onlyChanges_matchedCut (s : State) (k : Nat) (d : Int) : OnlyChanges cutParts s (s.matchedCut k d).1 := by
  unfold State.matchedCut
  split
  · split
    · exact onlyChanges_mono (onlyChanges_trans (onlyChanges_popSegments s 1) (onlyChanges_deliverPrint _ _ _ _ _))
        (by simp [cutParts])
    · exact onlyChanges_rejectSingle _ _ _ _
  · exact onlyChanges_mono (onlyChanges_trans (onlyChanges_popSegments s _) (onlyChanges_rejectPiece _ _))
      (by simp [cutParts])

theorem onlyChanges_earlyCut (s : State) (d : Option Int) : OnlyChanges [.map, .rejectCount] s (s.earlyCut d).1 := by
  intro p hp
  cases p <;> simp_all [Same, State.port, State.earlyCut]

theorem onlyChanges_judgeCut (s : State) : OnlyChanges cutParts s s.judgeCut.1 := by
  unfold State.judgeCut
  split
  · dsimp only
    split
    · exact onlyChanges_matchedCut _ _ _
    · exact onlyChanges_mono (onlyChanges_earlyCut _ _) (by simp [cutParts])
  · exact onlyChanges_mono (onlyChanges_earlyCut _ _) (by simp [cutParts])

theorem onlyChanges_faultCut (s : State) : OnlyChanges cutParts s s.faultCut.1 := by
  have hcount : OnlyChanges cutParts s s.countReject := by
    intro p hp
    cases p <;> simp_all [Same, State.port, cutParts]
  unfold State.faultCut
  split
  · split
    · exact onlyChanges_rejectSingle _ _ _ _
    · exact hcount
  · exact hcount

theorem onlyChanges_raiseWebFault (s : State) (cause : WebFaultCause) :
    OnlyChanges [.selection, .attemptCause, .leaderPending, .work, .rows, .fetch, .lineQueue, .exposure, .map, .webFault]
      s (s.raiseWebFault cause) := by
  intro p hp
  cases p <;> simp_all [Same, State.port]

theorem onlyChanges_stallSecond (s : State) :
    OnlyChanges [.selection, .attemptCause, .leaderPending, .work, .rows, .fetch, .lineQueue, .exposure, .map, .webFault,
      .stall] s s.stallSecond := by
  intro p hp
  cases p <;> simp_all [Same, State.port, State.stallSecond]

theorem onlyChanges_detectMissedCuts (s : State) :
    OnlyChanges [.selection, .attemptCause, .leaderPending, .work, .rows, .fetch, .lineQueue, .exposure, .map, .webFault]
      s s.detectMissedCuts := by
  unfold State.detectMissedCuts
  split
  · exact onlyChanges_refl _ _
  · have hmap : OnlyChanges [.map] s
        { s with web := { s.web with map := mergePassed s.web.lpath s.web.odometer s.web.map } } := by
      intro p hp
      cases p <;> simp_all [Same, State.port]
    dsimp only
    split
    · exact onlyChanges_mono (onlyChanges_trans hmap (onlyChanges_raiseWebFault _ _)) (by simp)
    · exact onlyChanges_mono hmap (by simp)

theorem onlyChanges_takeCut (s : State) :
    OnlyChanges (.selection :: .leaderPending :: .lineQueue :: .exposure :: .webFault :: cutParts) s s.takeCut.1 := by
  unfold State.takeCut
  split
  · exact onlyChanges_mono (onlyChanges_faultCut s) (by simp [cutParts])
  · exact onlyChanges_mono (onlyChanges_trans (onlyChanges_detectMissedCuts s) (onlyChanges_judgeCut _))
      (by simp [cutParts])

theorem onlyChanges_cutTaken (s : State) :
    OnlyChanges (.selection :: .leaderPending :: .lineQueue :: .exposure :: .webFault :: .cuts :: cutParts) s
      (cutTaken s) := by
  have hrecord (t : State) (n : Nat) (r : Option CutRecord) :
      OnlyChanges [.cuts] t { t with web := { t.web with cutsTaken := n, lastCut := r } } := by
    intro p hp
    cases p <;> simp_all [Same, State.port]
  exact onlyChanges_mono (onlyChanges_trans (onlyChanges_takeCut s) (hrecord _ _ _)) (by simp [cutParts])

/-! ## Lines and attempts -/

theorem onlyChanges_planRows (s : State) : OnlyChanges [.rows, .fetch, .nextTag] s s.planRows := by
  intro p hp
  cases p <;> simp_all [Same, State.port]

theorem onlyChanges_advanceWork (s : State) (w : Work) :
    OnlyChanges [.work, .rows, .fetch, .nextTag, .attemptCause] s (s.advanceWork w) := by
  unfold State.advanceWork
  split
  · intro p hp
    cases p <;> simp_all [Same, State.port, Resampler.idle]
  · have hwork (r : Option Work) : OnlyChanges [.work] s { s with resampler := { s.resampler with work := r } } := by
      intro p hp
      cases p <;> simp_all [Same, State.port]
    exact onlyChanges_mono (onlyChanges_trans (hwork _) (onlyChanges_planRows _)) (by simp)

theorem onlyChanges_takeWork (s : State) (job : Job) :
    OnlyChanges [.work, .rows, .fetch, .nextTag] s (s.takeWork job) := by
  intro p hp
  cases p <;> simp_all [Same, State.port]

theorem onlyChanges_selectPrint (s : State) (slot n : Nat) (i : Item) (e : SizeEntry) :
    OnlyChanges [.orders, .selection, .work, .rows, .fetch, .nextTag] s (s.selectPrint slot n i e) := by
  intro p hp
  cases p <;> simp_all [Same, State.port, State.selectPrint]

theorem onlyChanges_scanClasses (s : State) (active : Magazine) (classes : List OrderClass) :
    OnlyChanges [.orders, .selection, .switchRequest, .work, .rows, .fetch, .nextTag] s (s.scanClasses active classes) := by
  induction classes generalizing s with
  | nil => exact onlyChanges_refl _ _
  | cons c rest ih =>
    unfold State.scanClasses
    split
    · exact onlyChanges_mono (onlyChanges_selectPrint _ _ _ _ _) (by simp)
    · split
      · exact ih s
      · split
        · intro p hp
          cases p <;> simp_all [Same, State.port]
        · exact onlyChanges_mono (onlyChanges_trans (onlyChanges_modifyOrder s _ _) (ih _)) (by simp)

theorem onlyChanges_attempt (s : State) (active : Magazine) :
    OnlyChanges [.orders, .selection, .switchRequest, .attemptCause, .work, .rows, .fetch, .nextTag] s
      (s.attempt active) := by
  have hcause : OnlyChanges [.attemptCause] s { s with scheduler := { s.scheduler with attemptCause := false } } := by
    intro p hp
    cases p <;> simp_all [Same, State.port]
  have hselect (t : State) (width : Nat) :
      OnlyChanges [.selection, .work, .rows, .fetch, .nextTag] t (t.selectPatch width) := by
    intro p hp
    cases p <;> simp_all [Same, State.port, State.selectPatch]
  unfold State.attempt
  dsimp only
  split
  · exact onlyChanges_mono (onlyChanges_trans hcause (hselect _ _)) (by simp)
  · exact onlyChanges_mono (onlyChanges_trans hcause (onlyChanges_scanClasses _ _ _)) (by simp)

/-! ## Strobes -/

theorem onlyChanges_beginSelection (s : State) :
    OnlyChanges [.orders, .items, .selection, .patchCadence, .lineQueue, .exposure, .work, .map, .mark] s
      s.beginSelection := by
  unfold State.beginSelection
  split
  · intro p hp
    cases p <;> simp_all [Same, State.port, ChannelOutput.begin, Resampler.begin, Web.openSegment]
  · intro p hp
    cases p <;> simp_all [Same, State.port, ChannelOutput.begin, Resampler.begin, Web.openSegment,
      OrderTable.modifyItem, OrderTable.modifyOrder]
  · exact onlyChanges_refl _ _

theorem onlyChanges_placePaper (s : State) :
    OnlyChanges [.map, .unlisted, .mark] s { s with web := s.web.placePaper } := by
  intro p hp
  unfold Web.placePaper Web.growStretch Web.openSegment
  cases p <;> simp_all [Same, State.port] <;> split <;> (try split) <;> (try split) <;> (try split) <;> simp

theorem onlyChanges_placeStrobe (s : State) (verdict : StartVerdict) :
    OnlyChanges [.orders, .items, .selection, .patchCadence, .leaderPending, .lineQueue, .exposure, .work, .map, .unlisted,
      .leaderTarget, .mark] s (s.placeStrobe verdict) := by
  unfold State.placeStrobe
  split
  · exact onlyChanges_mono (onlyChanges_beginSelection s) (by simp)
  · split
    · intro p hp
      cases p <;> simp_all [Same, State.port]
    · exact onlyChanges_mono (onlyChanges_placePaper s) (by simp)

theorem onlyChanges_exposeStrobe (s : State) :
    OnlyChanges [.lineQueue, .exposure, .heads, .map, .work] s s.exposeStrobe := by
  have henabled (e : Exposure) : (s.channel.exposeLine e).channel.enabled = s.channel.enabled
      ∧ (s.channel.exposeLine e).channel.repeatTolerance = s.channel.repeatTolerance := by
    unfold ChannelOutput.exposeLine ChannelOutput.repeatLine
    split
    · exact ⟨rfl, rfl⟩
    · split
      · split <;> exact ⟨rfl, rfl⟩
      · exact ⟨rfl, rfl⟩
  unfold State.exposeStrobe
  split
  · next e _ =>
    obtain ⟨henables, htolerance⟩ := henabled e
    intro p hp
    cases p <;> simp_all [Same, State.port] <;> split <;> simp [Resampler.trail]
  · intro p hp
    cases p <;> simp_all [Same, State.port]

/-- The state of a strobe up to its line: the paper is placed by the verdict. -/
def strobePlaced (s : State) : State :=
  let s1 := s.dropZeroLeader
  let s2 := if s1.startVerdict = .misfit then s1.voidSelection else s1
  State.placeStrobe { s2 with web := { s2.web with odometer := s2.web.odometer + 1, mark := false } } s1.startVerdict

/-- The state of a strobe up to missed-cut detection. -/
def strobeLined (s : State) : State :=
  let s4 := (strobePlaced s).exposeStrobe
  { s4 with scheduler := s4.scheduler.countPaper, web := s4.web.restartStall s4.timeBase s.web.map.isEmpty }

theorem strobe_eq (s : State) : s.strobe = (strobeLined s).detectMissedCuts := rfl

theorem onlyChanges_strobePlaced (s : State) :
    OnlyChanges [.orders, .items, .selection, .patchCadence, .leaderPending, .attemptCause, .work, .rows, .fetch,
      .lineQueue, .exposure, .map, .odometer, .unlisted, .leaderTarget, .mark] s (strobePlaced s) := by
  have hdrop : OnlyChanges [.leaderPending] s s.dropZeroLeader := by
    intro p hp
    cases p <;> simp_all [Same, State.port]
  have hvoid (t : State) (voids : Prop) [Decidable voids] :
      OnlyChanges [.selection, .attemptCause, .lineQueue, .work, .rows, .fetch] t
        (if voids then t.voidSelection else t) := by
    split
    · exact onlyChanges_voidSelection t
    · exact onlyChanges_refl _ _
  have hodometer (t : State) : OnlyChanges [.odometer, .mark] t
      { t with web := { t.web with odometer := t.web.odometer + 1, mark := false } } := by
    intro p hp
    cases p <;> simp_all [Same, State.port]
  exact onlyChanges_mono (onlyChanges_trans (onlyChanges_trans (onlyChanges_trans hdrop
    (hvoid _ (s.dropZeroLeader.startVerdict = .misfit))) (hodometer _))
    (onlyChanges_placeStrobe _ s.dropZeroLeader.startVerdict)) (by decide)

theorem onlyChanges_strobePlaced_exposeStrobe (s : State) :
    OnlyChanges [.orders, .items, .selection, .patchCadence, .leaderPending, .attemptCause, .work, .rows, .fetch,
      .lineQueue, .exposure, .heads, .map, .odometer, .unlisted, .leaderTarget, .mark] s
      (strobePlaced s).exposeStrobe :=
  onlyChanges_mono (onlyChanges_trans (onlyChanges_strobePlaced s) (onlyChanges_exposeStrobe _)) (by decide)

/-- What every strobe does to the paper and the stall monitor. -/
theorem onlyChanges_rolled (t : State) (wasEmpty : Bool) : OnlyChanges [.magazines, .stall] t
    { t with scheduler := t.scheduler.countPaper, web := t.web.restartStall t.timeBase wasEmpty } := by
  have hsch : ∃ a b, t.scheduler.countPaper = { t.scheduler with magA := a, magB := b } := by
    unfold Scheduler.countPaper Scheduler.setMagazine
    split
    · dsimp only
      split
      · split <;> exact ⟨_, _, rfl⟩
      · exact ⟨_, _, rfl⟩
    · exact ⟨_, _, rfl⟩
  have hweb : ∃ g l, t.web.restartStall t.timeBase wasEmpty = { t.web with stage := g, stall := l } := by
    unfold Web.restartStall Web.startStall
    split
    · exact ⟨_, _, rfl⟩
    · split <;> exact ⟨_, _, rfl⟩
  obtain ⟨a, b, hsch⟩ := hsch
  obtain ⟨g, l, hweb⟩ := hweb
  rw [hsch, hweb]
  intro p hp
  cases p <;> simp_all [Same, State.port]

theorem onlyChanges_strobe (s : State) :
    OnlyChanges [.orders, .items, .selection, .patchCadence, .magazines, .leaderPending, .attemptCause, .work, .rows,
      .fetch, .lineQueue, .exposure, .heads, .map, .odometer, .stall, .webFault, .unlisted, .leaderTarget, .mark] s
      s.strobe := by
  exact onlyChanges_mono (onlyChanges_trans (onlyChanges_trans (onlyChanges_strobePlaced_exposeStrobe s)
    (onlyChanges_rolled _ s.web.map.isEmpty)) (onlyChanges_detectMissedCuts _)) (by decide)

end Sys2Proof.Steps

/-! Ports, the stall monitor, magazines and settings through every step (O8, O10, O11). -/

namespace Sys2Proof.Steps

open Sys2Proof.Machine Sys2Proof.Laws Sys2Proof.OrdersAndItems Sys2Proof.Magazines Sys2Proof.Sorting Sys2Proof.Till
open Sys2Proof.Ports

/-! ## Link ports (O11) -/

theorem maskEntries?_length {entries : List Byte} {mask : List Bool} (h : maskEntries? entries = some mask) :
    mask.length = entries.length := by
  induction entries generalizing mask with
  | nil => cases h; rfl
  | cons b rest ih =>
    simp only [maskEntries?] at h
    split at h
    · next hrest => cases h; simp [ih hrest]
    · cases h

theorem portsOk_of_same {s u : State} (h : ∀ l, Same s u (.port l) ∧ Same s u (.mask l)) (hs : PortsOk s) :
    PortsOk u := by
  intro l
  obtain ⟨hport, hmask⟩ := h l
  rw [hport, hmask]
  exact hs l

theorem portsOk_of_links {s u : State} (h : u.links = s.links) (hs : PortsOk s) : PortsOk u :=
  portsOk_of_same (fun l => by simp [Same, State.port, h]) hs

theorem portsOk_of_onlyChanges {parts : List Part} {s u : State} (h : OnlyChanges parts s u)
    (hparts : ∀ l, .port l ∉ parts ∧ .mask l ∉ parts) (hs : PortsOk s) : PortsOk u :=
  portsOk_of_same (fun l => ⟨h _ (hparts l).1, h _ (hparts l).2⟩) hs

theorem portsOk_setPort {s : State} {link : Link} {p : Port} (hs : PortsOk s) (hp : p.ok) :
    PortsOk (s.setPort link p) := by
  intro l
  rw [mask_setPort]
  by_cases hl : l = link
  · subst hl
    rw [port_setPort_same]
    exact ⟨hp, (hs l).2⟩
  · rw [port_setPort_of_ne hl]
    exact hs l

theorem portsOk_setMask {s : State} {link : Link} {mask : List Bool} (hs : PortsOk s)
    (hlen : mask.length = (causesOf link).length) : PortsOk (s.setMask link mask) := by
  intro l
  by_cases hl : l = link
  · subst hl
    simpa [State.port, State.setMask, hlen] using (hs l).1
  · simpa [State.port, State.setMask, unit_setUnit_of_ne hl] using hs l

@[simp] theorem clearCause_links (s : State) (link : Link) (c : Cause) : (s.clearCause link c).links = s.links := by
  unfold State.clearCause
  split <;> (try split) <;> simp

@[simp] theorem expireWindow_links (s : State) (slot : Nat) : (s.expireWindow slot).links = s.links := by
  unfold State.expireWindow
  dsimp only
  split <;> (try split) <;> simp

@[simp] theorem rescheduled_links (s : State) (sch : Scheduler) (voids : Prop) [Decidable voids] :
    (rescheduled s sch voids).links = s.links := by
  unfold rescheduled
  split <;> simp

@[simp] theorem enlistedIf_links (s : State) (slot : Nat) (joins : Prop) [Decidable joins] :
    (enlistedIf s slot joins).links = s.links := by
  unfold enlistedIf
  split <;> simp

@[simp] theorem clearCause_web (s : State) (link : Link) (c : Cause) : (s.clearCause link c).web = s.web := by
  unfold State.clearCause
  split <;> (try split) <;> simp

@[simp] theorem expireWindow_web (s : State) (slot : Nat) : (s.expireWindow slot).web = s.web := by
  unfold State.expireWindow
  dsimp only
  split <;> (try split) <;> simp

@[simp] theorem rescheduled_web (s : State) (sch : Scheduler) (voids : Prop) [Decidable voids] :
    (rescheduled s sch voids).web = s.web := by
  unfold rescheduled
  split <;> simp

@[simp] theorem enlistedIf_web (s : State) (slot : Nat) (joins : Prop) [Decidable joins] :
    (enlistedIf s slot joins).web = s.web := by
  unfold enlistedIf
  split <;> simp

@[simp] theorem attempt_web (s : State) (active : Magazine) : (s.attempt active).web = s.web :=
  web_eq_of_onlyChanges (onlyChanges_attempt s active) (by decide)

@[simp] theorem advanceWork_web (s : State) (w : Work) : (s.advanceWork w).web = s.web := by
  unfold State.advanceWork
  split <;> simp

@[simp] theorem attempt_channel (s : State) (active : Magazine) : (s.attempt active).channel = s.channel :=
  channel_eq_of_onlyChanges (onlyChanges_attempt s active) (by decide)

@[simp] theorem attempt_leaderPending (s : State) (active : Magazine) :
    (s.attempt active).scheduler.leaderPending = s.scheduler.leaderPending :=
  onlyChanges_attempt s active .leaderPending (by decide)

@[simp] theorem advanceWork_channel (s : State) (w : Work) : (s.advanceWork w).channel = s.channel := by
  unfold State.advanceWork
  split <;> simp

@[simp] theorem advanceWork_leaderPending (s : State) (w : Work) :
    (s.advanceWork w).scheduler.leaderPending = s.scheduler.leaderPending := by
  unfold State.advanceWork
  split <;> simp

@[simp] theorem accept_exposure (c : ChannelOutput) (w : Work) (codes : Codes) :
    (c.accept w codes).exposure = c.exposure := by
  unfold ChannelOutput.accept
  split
  · rfl
  · split
    · split <;> rfl
    · rfl
  · rfl

@[simp] theorem clearCause_channel (s : State) (link : Link) (c : Cause) :
    (s.clearCause link c).channel = s.channel := by
  unfold State.clearCause
  split <;> (try split) <;> simp

@[simp] theorem clearCause_scheduler (s : State) (link : Link) (c : Cause) :
    (s.clearCause link c).scheduler = s.scheduler := by
  unfold State.clearCause
  split <;> (try split) <;> simp

@[simp] theorem expireWindow_channel (s : State) (slot : Nat) : (s.expireWindow slot).channel = s.channel := by
  unfold State.expireWindow
  dsimp only
  split <;> (try split) <;> simp

@[simp] theorem expireWindow_leaderPending (s : State) (slot : Nat) :
    (s.expireWindow slot).scheduler.leaderPending = s.scheduler.leaderPending := by
  unfold State.expireWindow
  dsimp only
  split <;> (try split) <;> simp

@[simp] theorem rescheduled_exposure (s : State) (sch : Scheduler) (voids : Prop) [Decidable voids] :
    (rescheduled s sch voids).channel.exposure = s.channel.exposure := by
  unfold rescheduled
  split <;> simp

@[simp] theorem rescheduled_leaderPending (s : State) (sch : Scheduler) (voids : Prop) [Decidable voids] :
    (rescheduled s sch voids).scheduler.leaderPending = sch.leaderPending := by
  unfold rescheduled
  split <;> simp

@[simp] theorem enlistedIf_channel (s : State) (slot : Nat) (joins : Prop) [Decidable joins] :
    (enlistedIf s slot joins).channel = s.channel := by
  unfold enlistedIf
  split <;> simp

@[simp] theorem enlistedIf_leaderPending (s : State) (slot : Nat) (joins : Prop) [Decidable joins] :
    (enlistedIf s slot joins).scheduler.leaderPending = s.scheduler.leaderPending := by
  unfold enlistedIf
  split <;> simp

@[simp] theorem setMagazine_leaderPending (sch : Scheduler) (m : Magazine) (r : MagazineRecord) :
    (sch.setMagazine m r).leaderPending = sch.leaderPending := by cases m <;> rfl

@[simp] theorem setMask_channel (s : State) (link : Link) (mask : List Bool) :
    (s.setMask link mask).channel = s.channel := rfl

@[simp] theorem setMask_scheduler (s : State) (link : Link) (mask : List Bool) :
    (s.setMask link mask).scheduler = s.scheduler := rfl

/-- Whether something is being exposed, after a blanking: blanking ends no exposure. -/
@[simp] theorem blankOf_exposing (s : State) (slot : Nat) :
    (s.blankOf slot).channel.exposure.isSome = s.channel.exposure.isSome := by
  unfold State.blankOf ChannelOutput.blank ChannelOutput.drop
  dsimp only
  split <;> simp

@[simp] theorem withdraw_exposing (s : State) (slot : Nat) (q : Requester) (partially : Bool) :
    (s.withdraw slot q partially).channel.exposure.isSome = s.channel.exposure.isSome := by
  simp [State.withdraw]

@[simp] theorem faultPrint_exposing (s : State) (owner : WorkOwner) :
    (s.faultPrint owner).channel.exposure.isSome = s.channel.exposure.isSome := by
  unfold State.faultPrint
  split <;> simp [ChannelOutput.blank, ChannelOutput.drop]

@[simp] theorem rasterFault_exposing (s : State) (f : Fetch) (cause : FaultCause) :
    (s.rasterFault f cause).channel.exposure.isSome = s.channel.exposure.isSome := by
  unfold State.rasterFault
  split
  · split <;> simp
  · rfl

@[simp] theorem setMask_web (s : State) (link : Link) (mask : List Bool) : (s.setMask link mask).web = s.web := rfl

/-- No effect but power-on and SET MASK touches the links. -/
theorem Change.ports {s u : State} (h : Change s u) (hs : PortsOk s) : PortsOk u := by
  cases h
  case powerOn => 
    obtain ⟨-, -, -, -, -, -, -, hports, -⟩ := Resets.resetMeetsInvariants
    exact portsOk_of_links rfl hports
  case masked link entries mask hlen hmask => exact portsOk_setMask hs ((maskEntries?_length hmask).trans (hlen hs))
  case cut => exact portsOk_of_onlyChanges (onlyChanges_cutTaken s) (by simp [cutParts]) hs
  case strobe => exact portsOk_of_onlyChanges (onlyChanges_strobe s) (by simp) hs
  case attempt => exact portsOk_of_onlyChanges (onlyChanges_attempt s _) (by simp) hs
  case lineProduced w codes _ =>
    exact portsOk_of_onlyChanges (onlyChanges_advanceWork _ w) (by simp)
      (portsOk_of_links (s := s) (u := { s with channel := s.channel.accept w codes }) rfl hs)
  case warmReset => exact portsOk_of_onlyChanges (onlyChanges_warmReset s) (by simp) hs
  case webCleared => exact portsOk_of_onlyChanges (onlyChanges_webEmptied s) (by simp) hs
  case stallSecond => exact portsOk_of_onlyChanges (onlyChanges_stallSecond s) (by simp) hs
  all_goals
    exact portsOk_of_links (by simp [OrdersAndItems.opened, OrdersAndItems.sizeWritten, Steps.itemAdded, Magazines.rollLoaded,
      binChanged, Sorting.binCleared, ownerChanged, Sorting.trayCleared, Till.repriced, Till.committed, Steps.patchRead,
      Steps.headFaulted, densityCleared, Steps.webSet, Steps.densitySet, uncollectedTimeSet]) hs

theorem reply_ok {r : Reply} (h : r.fields.length ≤ 62) : Port.ok (.reply r.bytes 0) := by
  simp [Port.ok, Reply.bytes]
  omega

/-- Settles O11: a new phase of a port is in order, a reply has at most 62 fields, and a mask is set for every cause. -/
theorem everyStepKeepsPorts : Obligations.EveryStepKeepsPorts := by
  intro s t hs hstep
  have hs' : PortsOk { s with pending := s.pending.tail } := portsOk_of_links rfl hs
  cases step_outcome hstep with
  | effect hu => exact hu.ports hs'
  | noted hu => exact portsOk_of_links rfl (hu.ports hs')
  | port link hp => exact portsOk_setPort hs' (hp (hs' link).1)
  | answered link hlen hr =>
    obtain ⟨status, -, -, rfl⟩ | ⟨u, clamped, fields, rfl, hfields, hu⟩ := hr
    · exact portsOk_of_links rfl (portsOk_setPort (link := link) hs' (reply_ok (r := .refused status) (Nat.zero_le _)))
    · refine portsOk_of_links rfl (portsOk_setPort (link := link) (hu.ports hs') (reply_ok (r := .taken clamped fields) ?_))
      exact hfields.trans_le hlen

end Sys2Proof.Steps

/-! The web map by its outline: of each segment what it is of and whether it is closed. Marking keeps the outline; the shape
of the map, the exposure at its tail and the copies on it depend on nothing else (O7, O8). -/

namespace Sys2Proof.WebMap

open Sys2Proof.Machine Sys2Proof.Laws Sys2Proof.OrdersAndItems Sys2Proof.Magazines Sys2Proof.Sorting Sys2Proof.Till
open Sys2Proof.Steps

/-! ## The last entry of a list -/

section
variable {α : Type} (f : α → α)

@[simp] theorem mapLast_nil : mapLast f [] = [] := rfl

@[simp] theorem mapLast_concat (l : List α) (a : α) : mapLast f (l ++ [a]) = l ++ [f a] := by
  induction l with
  | nil => rfl
  | cons b rest ih => cases rest <;> simp_all [mapLast]

@[simp] theorem length_mapLast (l : List α) : (mapLast f l).length = l.length := by
  rcases l.eq_nil_or_concat with rfl | ⟨init, a, rfl⟩ <;> simp

@[simp] theorem mapLast_eq_nil {l : List α} : mapLast f l = [] ↔ l = [] := by
  rw [← List.length_eq_zero_iff, length_mapLast, List.length_eq_zero_iff]

@[simp] theorem dropLast_mapLast (l : List α) : (mapLast f l).dropLast = l.dropLast := by
  rcases l.eq_nil_or_concat with rfl | ⟨init, a, rfl⟩ <;> simp

@[simp] theorem getLast?_mapLast (l : List α) : (mapLast f l).getLast? = l.getLast?.map f := by
  rcases l.eq_nil_or_concat with rfl | ⟨init, a, rfl⟩ <;> simp

theorem map_mapLast {β : Type} (g : α → β) (h : ∀ a, g (f a) = g a) (l : List α) :
    (mapLast f l).map g = l.map g := by
  rcases l.eq_nil_or_concat with rfl | ⟨init, a, rfl⟩ <;> simp [h]

end

/-! ## Outlines -/

/-- What a segment is of, and whether it is closed. -/
def mark (g : Segment) : SegmentKind × Bool := (g.kind, g.closed)

/-- The marks of the segments of a map. -/
def outline (map : List Segment) : List (SegmentKind × Bool) := map.map mark

theorem outline_map {f : Segment → Segment} (h : ∀ g, mark (f g) = mark g) (map : List Segment) :
    outline (map.map f) = outline map := by
  simp [outline, h]

theorem outline_mapLast {f : Segment → Segment} (h : ∀ g, mark (f g) = mark g) (map : List Segment) :
    outline (mapLast f map) = outline map := map_mapLast f mark h map

theorem outline_mergePassed (lpath : Nat) (position : Word32) (map : List Segment) :
    outline (mergePassed lpath position map) = outline map := by
  induction map with
  | nil => rfl
  | cons g rest ih =>
    unfold mergePassed
    split_ifs
    · simpa [outline] using ih
    · simpa [outline, mark] using ih
    · rfl

theorem outline_markUntilPatch (map : List Segment) : outline (markUntilPatch map) = outline map := by
  induction map with
  | nil => rfl
  | cons g rest ih =>
    unfold markUntilPatch
    split
    · rfl
    · simpa [outline, mark] using ih
    · simpa [outline] using ih
    · simpa [outline] using ih

theorem outline_readOldestPatch (b : Bool) (map : List Segment) : outline (readOldestPatch b map) = outline map := by
  induction map with
  | nil => rfl
  | cons g rest ih =>
    unfold readOldestPatch
    split
    · have := outline_markUntilPatch rest
      cases b <;> simpa [outline, mark] using this
    · simpa [outline] using ih

theorem outline_splitHead (map : List Segment) : outline (splitHead map) = outline map := by
  cases map <;> rfl

theorem outline_markExposedSuspect (s : State) : outline s.markExposedSuspect.web.map = outline s.web.map := by
  unfold State.markExposedSuspect
  dsimp only
  split
  · exact outline_mapLast (f := fun g => { g with suspect := true }) (fun _ => rfl) _
  · rfl

theorem outline_suspectAt (w : Web) (start : Word32) : outline (w.suspectAt start).map = outline w.map :=
  outline_map (fun g => by split <;> rfl) _

theorem outline_faultPrint (s : State) (owner : WorkOwner) : outline (s.faultPrint owner).web.map = outline s.web.map := by
  unfold State.faultPrint
  split
  · simp
  · simpa using outline_markExposedSuspect s.abortWork
  · simpa using outline_suspectAt s.abortWork.web _

theorem outline_rasterFault (s : State) (f : Fetch) (cause : FaultCause) :
    outline (s.rasterFault f cause).web.map = outline s.web.map := by
  unfold State.rasterFault
  split
  · split
    · simp [outline_faultPrint]
    · rfl
  · rfl

/-! ## What depends on the outline -/

section
variable {w v : Web}

theorem length_of_outline {m n : List Segment} (h : outline m = outline n) : m.length = n.length := by
  simpa [outline] using congrArg List.length h

theorem eq_nil_of_outline {m n : List Segment} (h : outline m = outline n) : m = [] ↔ n = [] := by
  rw [← List.length_eq_zero_iff, length_of_outline h, List.length_eq_zero_iff]

theorem forall_closed_iff (m : List Segment) : (∀ g ∈ m, g.closed = true) ↔ ∀ p ∈ outline m, p.2 = true := by
  simp [outline, mark]

theorem outline_dropLast (m : List Segment) : outline m.dropLast = (outline m).dropLast := List.map_dropLast

theorem getLast?_outline (m : List Segment) : (outline m).getLast? = m.getLast?.map mark := List.getLast?_map

theorem exposureAtTail_eq (w : Web) : w.exposureAtTail = (outline w.map).getLast?.any fun p =>
    !p.2 && (match p.1 with | .print _ _ _ => true | .patch => true | .leader => false | .blank => false) := by
  unfold Web.exposureAtTail Segment.isOpenExposure
  rw [getLast?_outline]
  cases w.map.getLast? <;> rfl

theorem leaderExposed_eq (w : Web) :
    w.leaderExposed = (outline w.map).getLast?.any fun p => p.1 == .leader && !p.2 := by
  unfold Web.leaderExposed Segment.isOpenLeader
  rw [getLast?_outline]
  cases w.map.getLast? <;> rfl

theorem exposedSlot?_eq (w : Web) : w.exposedSlot? = (outline w.map).getLast?.bind fun p =>
    (match p.1 with | .print slot _ _ => if p.2 then none else some slot | _ => none) := by
  unfold Web.exposedSlot?
  rw [getLast?_outline]
  cases w.map.getLast? <;> rfl

theorem countP_isPrintOf_of_outline {m n : List Segment} (h : outline m = outline n) (slot item : Nat) :
    m.countP (Segment.isPrintOf slot item) = n.countP (Segment.isPrintOf slot item) := by
  have hcount (l : List Segment) : l.countP (Segment.isPrintOf slot item) = (outline l).countP fun p =>
      (match p.1 with | .print k j _ => k == slot && j == item | .patch | .leader | .blank => false) := by
    rw [outline, List.countP_map]
    rfl
  rw [hcount, hcount, h]

theorem kind_mem_of_outline {m n : List Segment} (h : outline m = outline n) {g : Segment} (hg : g ∈ m) :
    ∃ g' ∈ n, g'.kind = g.kind := by
  have : mark g ∈ outline n := h ▸ List.mem_map_of_mem hg
  obtain ⟨g', hg', hmark⟩ := List.mem_map.1 this
  exact ⟨g', hg', congrArg Prod.fst hmark⟩

end

/-! ## The stall monitor (O8) -/

/-- What the stall monitor's agreement depends on. -/
theorem stallAgrees_of_same {s t : State} (hstall : t.web.stall = s.web.stall) (hstage : t.web.stage = s.web.stage)
    (htransport : t.web.transport = s.web.transport) (hmap : outline t.web.map = outline s.web.map)
    (hs : StallAgrees s) : StallAgrees t := by
  unfold StallAgrees
  rw [hstall, hstage, htransport, eq_nil_of_outline hmap]
  exact hs

theorem stallAgrees_of_off {t : State} (hstall : t.web.stall = false) (hstage : t.web.stage = .off)
    (hoff : t.web.transport = .stop ∨ t.web.map = []) : StallAgrees t := by
  simp [StallAgrees, hstall, hstage, hoff]

/-- A monitor that runs on a map that is not empty. -/
theorem stallAgrees_of_first {t : State} {e : Word32} (hstall : t.web.stall = false) (hstage : t.web.stage = .first e)
    (hrun : t.web.transport ≠ .stop) (hmap : t.web.map ≠ []) : StallAgrees t := by
  simp [StallAgrees, hstall, hstage, hrun, hmap]

@[simp] theorem stopIfEmpty_map (w : Web) : w.stopIfEmpty.map = w.map := by
  unfold Web.stopIfEmpty
  split <;> rfl

@[simp] theorem stopIfEmpty_unlisted (w : Web) : w.stopIfEmpty.unlisted = w.unlisted := by
  unfold Web.stopIfEmpty
  split <;> rfl

theorem stopIfEmpty_of_nil {w : Web} (h : w.map = []) : w.stopIfEmpty = { w with stage := .off, stall := false } := by
  simp [Web.stopIfEmpty, h]

theorem stopIfEmpty_of_ne_nil {w : Web} (h : w.map ≠ []) : w.stopIfEmpty = w := by simp [Web.stopIfEmpty, h]

/-- The open BLANK an unlisted stretch becomes. -/
def stretchSegment (u : Stretch) : Segment :=
  { kind := .blank, start := u.start, length := u.length, closed := false, suspect := false, split := false
    merged := false, spoiled := false, read := false, preReset := false }

/-- R117: what joins the map at its tail once it holds only these segments. -/
def joined (left : List Segment) (unlisted : Option Stretch) : List Segment :=
  match unlisted with
  | some u => if left.length < 128 then [stretchSegment u] else []
  | none => []

theorem admitStretch_map (w : Web) : w.admitStretch.map = w.map ++ joined w.map w.unlisted := by
  unfold Web.admitStretch joined
  split
  · split <;> simp_all [stretchSegment]
  · simp_all

theorem admitStretch_unlisted (w : Web) :
    w.admitStretch.unlisted = if w.map.length < 128 then none else w.unlisted := by
  unfold Web.admitStretch
  split
  · split <;> simp_all
  · simp_all

@[simp] theorem admitStretch_stage (w : Web) : w.admitStretch.stage = w.stage := by
  unfold Web.admitStretch
  split
  · split <;> rfl
  · rfl

@[simp] theorem admitStretch_stall (w : Web) : w.admitStretch.stall = w.stall := by
  unfold Web.admitStretch
  split
  · split <;> rfl
  · rfl

theorem popSegments_map (s : State) (k : Nat) :
    (s.popSegments k).web.map = s.web.map.drop k ++ joined (s.web.map.drop k) s.web.unlisted :=
  (stopIfEmpty_map _).trans (admitStretch_map _)

theorem popSegments_unlisted (s : State) (k : Nat) :
    (s.popSegments k).web.unlisted = if (s.web.map.drop k).length < 128 then none else s.web.unlisted :=
  (stopIfEmpty_unlisted _).trans (admitStretch_unlisted _)

/-- R117, R128: the map after a pop, and the stall monitor with it. -/
theorem popped_popSegments (s : State) (k : Nat) : Popped (s.web.map.drop k) s (s.popSegments k) := by
  refine ⟨popSegments_map s k, fun hempty => ?_, fun hmore => ?_⟩
  · have hnil : (Web.admitStretch { s.web with map := s.web.map.drop k }).map = [] := (stopIfEmpty_map _).symm.trans hempty
    rw [State.popSegments, stopIfEmpty_of_nil hnil]
    exact ⟨rfl, rfl⟩
  · have hne : (Web.admitStretch { s.web with map := s.web.map.drop k }).map ≠ [] := fun h =>
      hmore ((stopIfEmpty_map _).trans h)
    rw [State.popSegments, stopIfEmpty_of_ne_nil hne]
    exact ⟨admitStretch_stage _, admitStretch_stall _⟩

theorem popSegments_transport (s : State) (k : Nat) : (s.popSegments k).web.transport = s.web.transport :=
  onlyChanges_popSegments s k .transport (by simp)

theorem stallAgrees_popSegments {s : State} (k : Nat) (hs : StallAgrees s) (hmap : s.web.map ≠ []) :
    StallAgrees (s.popSegments k) := by
  obtain ⟨-, hempty, hmore⟩ := popped_popSegments s k
  by_cases hnil : (s.popSegments k).web.map = []
  · obtain ⟨hstage, hstall⟩ := hempty hnil
    exact stallAgrees_of_off hstall hstage (.inr hnil)
  · obtain ⟨hstage, hstall⟩ := hmore hnil
    unfold StallAgrees at hs ⊢
    rw [hstage, hstall, popSegments_transport]
    simpa [hnil, hmap] using hs

@[simp] theorem disposeSegments_web (s : State) (rejected : Bool) (segments : List Segment) :
    (s.disposeSegments rejected segments).1.web = s.web := by
  induction segments generalizing s with
  | nil => rfl
  | cons g rest ih =>
    unfold State.disposeSegments
    split
    · simp [ih]
    · exact ih s

@[simp] theorem disposeSegments_channel (s : State) (rejected : Bool) (segments : List Segment) :
    (s.disposeSegments rejected segments).1.channel = s.channel := by
  induction segments generalizing s with
  | nil => rfl
  | cons g rest ih =>
    unfold State.disposeSegments
    split
    · simp [ih]
    · exact ih s

@[simp] theorem rejectPiece_web (s : State) (popped : List Segment) : (s.rejectPiece popped).1.web = s.web := by
  simp [State.rejectPiece]

@[simp] theorem rejectPiece_channel (s : State) (popped : List Segment) :
    (s.rejectPiece popped).1.channel = s.channel := by
  simp [State.rejectPiece]

/-! ## Cuts by what they pop -/

/-- A cut's effect on the web: nothing is popped and the outline stays, or the first segments are popped, the last of them
closed. -/
inductive Cuts (s t : State) : Prop
  | none (houtline : outline t.web.map = outline s.web.map) (hweb : t.web = { s.web with map := t.web.map })
  | first {k : Nat} {g : Segment} (hg : s.web.map[k]? = some g) (hclosed : g.closed = true)
      (hweb : t.web = (s.popSegments (k + 1)).web)

theorem referenceFrom_spec {j k : Nat} {map : List Segment} {g : Segment} (h : referenceFrom j map = some (k, g)) :
    ∃ i, k = j + i ∧ map[i]? = some g ∧ g.closed = true ∧ g.merged = false ∧ ∀ x ∈ map.take i, x.merged = true := by
  induction map generalizing j with
  | nil => cases h
  | cons a rest ih =>
    unfold referenceFrom at h
    split at h
    · next hmerged =>
      obtain ⟨i, rfl, hget, hclosed, hfree, hahead⟩ := ih h
      exact ⟨i + 1, by omega, by simpa using hget, hclosed, hfree, by simpa [hmerged] using hahead⟩
    · next hmerged =>
      split at h
      · next hclosed =>
        cases h
        exact ⟨0, rfl, rfl, hclosed, by simpa using hmerged, by simp⟩
      · cases h

theorem reference?_spec {w : Web} {k : Nat} {g : Segment} (h : w.reference? = some (k, g)) :
    w.map[k]? = some g ∧ g.closed = true ∧ g.merged = false ∧ ∀ x ∈ w.map.take k, x.merged = true := by
  obtain ⟨i, rfl, hspec⟩ := referenceFrom_spec h
  simpa using hspec

theorem cuts_earlyCut (s : State) (d : Option Int) : Cuts s (s.earlyCut d).1 :=
  .none (outline_splitHead _) rfl

theorem cuts_rejectSingle {s : State} {g : Segment} {rest : List Segment} (hmap : s.web.map = g :: rest)
    (hclosed : g.closed = true) (outcome : CutOutcome) (d : Option Int) : Cuts s (s.rejectSingle outcome d g).1 :=
  .first (k := 0) (by simp [hmap]) hclosed (rejectPiece_web _ _)

theorem cuts_matchedCut {s : State} {k : Nat} {g : Segment} (d : Int) (hg : s.web.map[k]? = some g)
    (hclosed : g.closed = true) : Cuts s (s.matchedCut k d).1 := by
  unfold State.matchedCut
  split
  · next g' hsingle =>
    have hk : k = 0 := by
      have := congrArg List.length hsingle
      have := (List.getElem?_eq_some_iff.1 hg).1
      simp at *
      omega
    subst hk
    obtain ⟨rest, hmap⟩ : ∃ rest, s.web.map = g' :: rest := by
      cases hm : s.web.map with
      | nil => simp [hm] at hsingle
      | cons a rest => exact ⟨rest, by simpa [hm] using hsingle⟩
    obtain rfl : g' = g := by simpa [hmap] using hg
    split
    · exact .first (k := 0) hg hclosed (deliverPrint_web _ _ _ _ _)
    · exact cuts_rejectSingle hmap hclosed _ _
  · exact .first hg hclosed (rejectPiece_web _ _)

theorem cuts_judgeCut (s : State) : Cuts s s.judgeCut.1 := by
  unfold State.judgeCut
  split
  · next k g href =>
    obtain ⟨hg, hclosed, -, -⟩ := reference?_spec href
    dsimp only
    split
    · exact cuts_matchedCut _ hg hclosed
    · exact cuts_earlyCut s _
  · exact cuts_earlyCut s _

theorem cuts_faultCut (s : State) : Cuts s s.faultCut.1 := by
  unfold State.faultCut
  split
  · next g rest hmap =>
    split
    · next hclosed => exact cuts_rejectSingle hmap hclosed _ _
    · exact .none rfl rfl
  · exact .none rfl rfl

theorem stallAgrees_of_cuts {s t : State} (h : Cuts s t) (hs : StallAgrees s) : StallAgrees t := by
  cases h with
  | none houtline hweb =>
    exact stallAgrees_of_same (by rw [hweb]) (by rw [hweb]) (by rw [hweb]) houtline hs
  | @first k g hg hclosed hweb =>
    have hmap : s.web.map ≠ [] := by
      rintro hnil
      simp [hnil] at hg
    have := stallAgrees_popSegments (k + 1) hs hmap
    unfold StallAgrees at this ⊢
    rw [hweb]
    exact this

theorem outline_map_raiseWebFault_eq_nil (s : State) (cause : WebFaultCause) :
    (s.raiseWebFault cause).web.map = [] ↔ s.web.map = [] := by
  unfold State.raiseWebFault
  split
  · rfl
  · simp [State.flush]

theorem stallAgrees_of_web {s t : State} (hstall : t.web.stall = s.web.stall) (hstage : t.web.stage = s.web.stage)
    (htransport : t.web.transport = s.web.transport) (hmap : t.web.map = [] ↔ s.web.map = []) (hs : StallAgrees s) :
    StallAgrees t := by
  unfold StallAgrees
  rw [hstall, hstage, htransport, hmap]
  exact hs

theorem stallAgrees_detectMissedCuts {s : State} (hs : StallAgrees s) : StallAgrees s.detectMissedCuts := by
  refine stallAgrees_of_web (by simp) (by simp) (by simp) ?_ hs
  have hmerge := eq_nil_of_outline (outline_mergePassed s.web.lpath s.web.odometer s.web.map)
  unfold State.detectMissedCuts
  split
  · rfl
  · dsimp only
    split
    · exact (outline_map_raiseWebFault_eq_nil _ _).trans hmerge
    · exact hmerge

theorem stallAgrees_cutTaken {s : State} (hs : StallAgrees s) : StallAgrees (cutTaken s) := by
  have htake : StallAgrees s.takeCut.1 := by
    unfold State.takeCut
    split
    · exact stallAgrees_of_cuts (cuts_faultCut s) hs
    · exact stallAgrees_of_cuts (cuts_judgeCut _) (stallAgrees_detectMissedCuts hs)
  exact htake

theorem startVerdict_begins {s : State} (h : s.startVerdict = .begins) : s.scheduler.selection.isSome = true := by
  unfold State.startVerdict at h
  split at h <;> simp_all

theorem placeStrobe_map_ne_nil {s : State} {verdict : StartVerdict}
    (h : verdict = .begins → s.scheduler.selection.isSome = true) : (s.placeStrobe verdict).web.map ≠ [] := by
  unfold State.placeStrobe
  split
  · next hb =>
    have := h hb
    unfold State.beginSelection
    split <;> simp_all [Web.openSegment]
  · split
    · simp [State.openLeader, Web.openSegment]
    · unfold Web.placePaper
      dsimp only
      split
      · next g hlast =>
        have hne : s.web.map ≠ [] := by
          rintro hnil
          simp [hnil] at hlast
        split
        · split
          · simp [Web.openSegment]
          · unfold Web.growStretch
            split <;> exact hne
        · simpa using hne
      · simp [Web.openSegment]

theorem exposeStrobe_map_eq_nil (s : State) : s.exposeStrobe.web.map = [] ↔ s.web.map = [] := by
  unfold State.exposeStrobe
  split <;> simp

/-- R128: the monitor after a strobe that leaves the map with a segment. -/
theorem stallAgrees_restartStall {s t : State} (now : Word32) (hs : StallAgrees s) (hstall : t.web.stall = s.web.stall)
    (hstage : t.web.stage = s.web.stage) (htransport : t.web.transport = s.web.transport) (hmap : t.web.map ≠ []) :
    StallAgrees { t with web := t.web.restartStall now s.web.map.isEmpty } := by
  obtain ⟨hon, hoff⟩ := hs
  unfold Web.restartStall Web.startStall
  rw [hstage]
  by_cases hstop : s.web.transport = .stop
  · have h : s.web.stage = .off := hoff.2 (.inl hstop)
    have hquiet : s.web.stall = false := by simpa [h] using hon
    simp [h, htransport, hstop]
    exact stallAgrees_of_off (hstall.trans hquiet) (hstage.trans h) (.inl (htransport.trans hstop))
  · have hrun : s.web.transport = .run := by
      cases h : s.web.transport
      · rfl
      · exact absurd h hstop
    by_cases hnil : s.web.map = []
    · have h : s.web.stage = .off := hoff.2 (.inr hnil)
      simp [h, htransport, hrun, hnil, hmap]
      exact stallAgrees_of_first rfl rfl (by simp [htransport, hrun]) hmap
    · have h : s.web.stage ≠ .off := fun h => (hoff.1 h).elim hstop hnil
      rw [if_pos h]
      exact stallAgrees_of_first rfl rfl (by simp [htransport, hrun]) hmap

theorem stallAgrees_strobe {s : State} (hs : StallAgrees s) : StallAgrees s.strobe := by
  rw [strobe_eq]
  refine stallAgrees_detectMissedCuts ?_
  have hframe := onlyChanges_strobePlaced_exposeStrobe s
  obtain ⟨hstage, hstall⟩ := hframe .stall (by decide)
  have hmap : (strobePlaced s).exposeStrobe.web.map ≠ [] := by
    rw [Ne, exposeStrobe_map_eq_nil]
    refine placeStrobe_map_ne_nil fun hbegins => ?_
    have := startVerdict_begins hbegins
    simpa [hbegins] using this
  exact stallAgrees_restartStall _ hs hstall hstage (hframe .transport (by decide)) hmap

theorem stallAgrees_of_web_eq {s u : State} (h : u.web = s.web) (hs : StallAgrees s) : StallAgrees u := by
  unfold StallAgrees
  rw [h]
  exact hs

/-! ## What a step does to the web -/

/-- The web but for marks on its segments, and for what no invariant speaks of; what is exposed stays, and a leader comes to
be pending only where neither a print or patch nor a leader is being exposed. -/
structure WebMarked (s u : State) : Prop where
  houtline : outline u.web.map = outline s.web.map
  hstall : u.web.stall = s.web.stall
  hstage : u.web.stage = s.web.stage
  htransport : u.web.transport = s.web.transport
  hunlisted : u.web.unlisted = s.web.unlisted
  hfault : u.web.fault = s.web.fault
  hexposing : u.channel.exposure.isSome = s.channel.exposure.isSome
  hpending : u.scheduler.leaderPending = true → s.scheduler.leaderPending = true
    ∨ (s.exposing = false ∧ s.web.leaderExposed = false)

theorem WebMarked.of_web_eq {s u : State} (h : u.web = s.web)
    (hexposing : u.channel.exposure.isSome = s.channel.exposure.isSome)
    (hpending : u.scheduler.leaderPending = s.scheduler.leaderPending) : WebMarked s u where
  houtline := by rw [h]
  hstall := by rw [h]
  hstage := by rw [h]
  htransport := by rw [h]
  hunlisted := by rw [h]
  hfault := by rw [h]
  hexposing := hexposing
  hpending h := .inl (hpending ▸ h)

/-- The effects that do more to the web than marking its segments. -/
inductive WebEffect (s : State) : State → Prop
  | marked {u : State} (h : WebMarked s u) : WebEffect s u
  | powerOn : WebEffect s { State.reset with pending := s.pending, freeCount := s.freeCount }
  | warmReset : WebEffect s s.warmReset
  | cut : WebEffect s (cutTaken s)
  | strobe : WebEffect s s.strobe
  | webCleared (hallowed : s.web.fault.isSome = true ∨ (s.exposing = false ∧ s.web.leaderExposed = false)) :
      WebEffect s (webEmptied s)
  | transportRun : WebEffect s s.transportRun
  | transportStop : WebEffect s s.transportStop
  | stallFirst {e : Word32} (hstage : s.web.stage = .first e) : WebEffect s s.stallFirst
  | stallSecond {e : Word32} (hstage : s.web.stage = .second e) : WebEffect s s.stallSecond

theorem webEffect_of_change {s u : State} (h : Change s u) : WebEffect s u := by
  cases h
  case powerOn => exact .powerOn
  case warmReset => exact .warmReset
  case cut => exact .cut
  case strobe => exact .strobe
  case webCleared hallowed => exact .webCleared hallowed
  case transportRun => exact .transportRun
  case transportStop => exact .transportStop
  case stallFirst e hstage => exact .stallFirst hstage
  case stallSecond e hstage => exact .stallSecond hstage
  case rasterFault fetch f cause =>
    exact .marked ⟨outline_rasterFault _ f cause, by simp, by simp, by simp, by simp, by simp, by simp, by simp_all⟩
  case patchRead => exact .marked ⟨outline_readOldestPatch _ _, rfl, rfl, rfl, rfl, rfl, rfl, .inl⟩
  case densityReset =>
    have hmap : outline (s.web.map.map Segment.toPreReset) = outline s.web.map :=
      outline_map (fun g => by unfold Segment.toPreReset; split <;> rfl) _
    exact .marked (by constructor <;> simp_all [densityCleared])
  case headFault =>
    exact .marked (by constructor <;> simp_all [headFaulted, outline_markExposedSuspect])
  case webSet => exact .marked ⟨rfl, rfl, rfl, rfl, rfl, rfl, rfl, .inl⟩
  case magazineTaken m hexposing hleader =>
    exact .marked ⟨by simp, by simp, by simp, by simp, by simp, by simp, by simp, fun _ => .inr ⟨hexposing, hleader⟩⟩
  case rollLoaded =>
    exact .marked (.of_web_eq (by simp) (by simp) (by simp [Magazines.rollLoaded]))
  case rollUnloaded =>
    exact .marked (.of_web_eq (by simp) (by simp) (by simp [Magazines.rollUnloaded]))
  all_goals
    refine .marked (.of_web_eq ?_ ?_ ?_)
    all_goals
      simp [OrdersAndItems.opened, OrdersAndItems.sizeWritten, Steps.itemAdded, binChanged,
        Sorting.binCleared, ownerChanged, Sorting.trayCleared, Till.repriced, Till.committed, Steps.densitySet,
        uncollectedTimeSet]

theorem WebEffect.stallAgrees {s u : State} (h : WebEffect s u) (hs : StallAgrees s) : StallAgrees u := by
  cases h with
  | marked h => exact stallAgrees_of_same h.hstall h.hstage h.htransport h.houtline hs
  | powerOn => exact stallAgrees_of_off rfl rfl (.inl rfl)
  | warmReset => exact stallAgrees_of_off rfl rfl (.inl rfl)
  | cut => exact stallAgrees_cutTaken hs
  | strobe => exact stallAgrees_strobe hs
  | webCleared hallowed =>
    have hmap : s.clearMap.1.web.map = [] := by simp [State.clearMap]
    have hoff : s.clearMap.1.web = { s.clearMap.1.web with stage := .off, stall := false } := by
      simp [State.clearMap, Web.stopIfEmpty]
    exact stallAgrees_of_off (by rw [webEmptied, hoff]) (by rw [webEmptied, hoff]) (.inr hmap)
  | transportRun =>
    obtain ⟨hon, hoff⟩ := hs
    unfold State.transportRun Web.startStall
    split
    · next h => exact stallAgrees_of_first rfl rfl (by simp) h.2
    · next h =>
      refine ⟨hon, ?_⟩
      simp only [reduceCtorEq, false_or]
      exact ⟨fun hstage => not_not.1 fun hmap => h ⟨hstage, hmap⟩, fun hmap => hoff.2 (.inr hmap)⟩
  | transportStop => exact stallAgrees_of_off rfl rfl (.inl rfl)
  | @stallFirst e hstage =>
    have hmap := eq_nil_of_outline (outline_markExposedSuspect s)
    obtain ⟨hon, hoff⟩ := hs
    rw [hstage] at hoff
    refine ⟨by simp [State.stallFirst], ?_⟩
    show StallStage.second _ = .off ↔ s.markExposedSuspect.web.transport = .stop ∨ s.markExposedSuspect.web.map = []
    rw [hmap]
    simpa using hoff
  | @stallSecond e hstage =>
    have hmap := outline_map_raiseWebFault_eq_nil s .stall
    obtain ⟨hon, hoff⟩ := hs
    rw [hstage] at hon hoff
    refine ⟨?_, ?_⟩
    · simpa [State.stallSecond] using hon
    · show StallStage.expired = .off ↔ (s.raiseWebFault .stall).web.transport = .stop ∨ (s.raiseWebFault .stall).web.map = []
      rw [hmap]
      simpa using hoff

/-- Settles O8. -/
theorem everyStepKeepsStallStages : Obligations.EveryStepKeepsStallStages := fun _ _ =>
  step_keeps (fun _ _ _ _ h => h) (fun _ _ hs hu => (webEffect_of_change hu).stallAgrees hs)

/-! ## The shape of the map (O7) -/

/-- What the shape of the map depends on. -/
theorem webShape_of_outline {s t : State} (houtline : outline t.web.map = outline s.web.map)
    (hexposing : t.channel.exposure.isSome = s.channel.exposure.isSome)
    (hunlisted : t.web.unlisted = s.web.unlisted)
    (hfault : t.web.fault.isSome = true → s.web.fault.isSome = true
      ∨ (s.exposing = false ∧ s.web.leaderExposed = false))
    (hpending : t.scheduler.leaderPending = true → s.scheduler.leaderPending = true
      ∨ (s.exposing = false ∧ s.web.leaderExposed = false)) (hs : WebShape s) : WebShape t := by
  obtain ⟨hlen, hclosed, htail, hnoleader, hfull, hquiet⟩ := hs
  have hnone : t.channel.exposure = none ↔ s.channel.exposure = none := by
    rw [← Option.not_isSome_iff_eq_none, ← Option.not_isSome_iff_eq_none, hexposing]
  have hleader : t.web.leaderExposed = s.web.leaderExposed := by
    rw [leaderExposed_eq, leaderExposed_eq, houtline]
  refine ⟨(length_of_outline houtline).trans_le hlen, ?_, ?_, fun hp => ?_, fun hu => ?_, fun hf => ?_⟩
  · rw [forall_closed_iff, outline_dropLast, houtline, ← outline_dropLast, ← forall_closed_iff]
    exact hclosed
  · rw [hexposing, htail, exposureAtTail_eq, exposureAtTail_eq, houtline]
  · rw [hnone, hleader]
    rcases hpending hp with hp | ⟨hidle, hl⟩
    · exact hnoleader hp
    · exact ⟨by simpa [State.exposing] using hidle, hl⟩
  · rw [hunlisted] at hu
    obtain ⟨hlen, hall⟩ := hfull hu
    refine ⟨(length_of_outline houtline).trans hlen, ?_⟩
    rw [forall_closed_iff, houtline, ← forall_closed_iff]
    exact hall
  · rw [hnone, hleader]
    rcases hfault hf with hf | ⟨hidle, hl⟩
    · exact hquiet hf
    · exact ⟨by simpa [State.exposing] using hidle, hl⟩

theorem webShape_of_marked {s t : State} (h : WebMarked s t) (hs : WebShape s) : WebShape t :=
  webShape_of_outline h.houtline h.hexposing h.hunlisted (fun hf => .inl (h.hfault ▸ hf)) h.hpending hs

/-- The shape of an empty map. -/
theorem webShape_of_nil {t : State} (hmap : t.web.map = []) (hidle : t.channel.exposure = none)
    (hunlisted : t.web.unlisted = none) : WebShape t := by
  simp [WebShape, hmap, hidle, hunlisted, Web.exposureAtTail, Web.leaderExposed]

/-- Behind a map of this shape on which nothing but a BLANK is exposed, a segment opens with every other closed. -/
theorem closed_of_idle {w : Web} (hclosed : ∀ g ∈ w.map.dropLast, g.closed = true) (htail : w.exposureAtTail = false)
    (hleader : w.leaderExposed = false) : ∀ g ∈ mapLast Segment.closeBlank w.map, g.closed = true := by
  rcases w.map.eq_nil_or_concat with hmap | ⟨init, a, hmap⟩
  · simp [hmap]
  · simp only [Web.exposureAtTail, Web.leaderExposed, Segment.isOpenExposure, Segment.isOpenLeader] at htail hleader
    simp only [hmap, List.concat_eq_append, List.dropLast_concat, mapLast_concat, List.getLast?_concat, List.forall_mem_append,
      List.forall_mem_singleton] at hclosed htail hleader ⊢
    refine ⟨hclosed, ?_⟩
    unfold Segment.closeBlank
    cases hk : a.kind <;> simp_all

theorem webShape_openSegment {s t : State} {kind : SegmentKind} (hs : WebShape s) (hroom : s.web.map.length < 128)
    (hidle : s.channel.exposure = none) (hleader : s.web.leaderExposed = false)
    (hmap : t.web.map = (s.web.openSegment kind).map) (hunlisted : t.web.unlisted = s.web.unlisted)
    (hexposing : t.channel.exposure.isSome = match kind with | .print _ _ _ | .patch => true | .leader | .blank => false)
    (hblank : t.scheduler.leaderPending = true ∨ t.web.fault.isSome = true → kind = .blank) : WebShape t := by
  obtain ⟨hlen, hclosed, htail, -, hfull, -⟩ := hs
  have hnotail : s.web.exposureAtTail = false := by rw [← htail, hidle]; rfl
  have hallclosed := closed_of_idle hclosed hnotail hleader
  have hnone : s.web.unlisted = none := by
    cases hu : s.web.unlisted with
    | none => rfl
    | some u =>
      have := (hfull (by simp [hu])).1
      omega
  have hquiet (hb : kind = .blank) : t.channel.exposure = none ∧ t.web.leaderExposed = false := by
    subst hb
    refine ⟨by simpa using hexposing, ?_⟩
    simp [Web.leaderExposed, hmap, Web.openSegment, Segment.opened, Segment.isOpenLeader]
  refine ⟨?_, ?_, ?_, fun hp => hquiet (hblank (.inl hp)), ?_, fun hf => hquiet (hblank (.inr hf))⟩
  · simp [hmap, Web.openSegment]
    omega
  · simpa [hmap, Web.openSegment] using hallclosed
  · rw [hexposing]
    cases kind <;>
      simp [Web.exposureAtTail, hmap, Web.openSegment, Segment.opened, Segment.isOpenExposure]
  · simp [hunlisted, hnone]

/-- A segment that stays of its kind and closes if at all as a BLANK or LEADER only, or as the exposure ends. -/
theorem webShape_mapLast {s t : State} {f : Segment → Segment} (hs : WebShape s) {init : List Segment} {g : Segment}
    (hmap : s.web.map = init ++ [g]) (ht : t.web.map = init ++ [f g]) (hkind : (f g).kind = g.kind)
    (hstays : g.closed = true → (f g).closed = true)
    (hexposing : t.channel.exposure.isSome = (f g).isOpenExposure)
    (hunlisted : t.web.unlisted = s.web.unlisted) (hfault : t.web.fault = s.web.fault)
    (hpending : t.scheduler.leaderPending = true → s.scheduler.leaderPending = true) : WebShape t := by
  obtain ⟨hlen, hclosed, htail, hnoleader, hfull, hquiet⟩ := hs
  have hidle (h : s.channel.exposure = none ∧ s.web.leaderExposed = false) :
      t.channel.exposure = none ∧ t.web.leaderExposed = false := by
    obtain ⟨hnone, hl⟩ := h
    rw [hnone] at htail
    simp only [Web.exposureAtTail, Web.leaderExposed, Segment.isOpenExposure, Segment.isOpenLeader, hmap, ht,
      List.getLast?_concat, hkind] at htail hl hexposing ⊢
    rw [← Option.not_isSome_iff_eq_none, hexposing]
    cases hk : g.kind <;> cases hc : g.closed <;> simp_all
  refine ⟨?_, ?_, ?_, fun hp => hidle (hnoleader (hpending hp)), fun hu => ?_, fun hf => hidle (hquiet (hfault ▸ hf))⟩
  · simpa [hmap, ht] using hlen
  · simpa [hmap, ht] using hclosed
  · simpa [Web.exposureAtTail, ht] using hexposing
  · obtain ⟨hfull, hall⟩ := hfull (hunlisted ▸ hu)
    simp only [hmap, ht, List.length_append, List.length_singleton, List.forall_mem_append,
      List.forall_mem_singleton] at hfull hall ⊢
    exact ⟨hfull, hall.1, hstays hall.2⟩

theorem exposureAtTail_concat {w : Web} {init : List Segment} {g : Segment} (h : w.map = init ++ [g]) :
    w.exposureAtTail = g.isOpenExposure := by simp [Web.exposureAtTail, h]

theorem leaderExposed_concat {w : Web} {init : List Segment} {g : Segment} (h : w.map = init ++ [g]) :
    w.leaderExposed = g.isOpenLeader := by simp [Web.leaderExposed, h]

theorem isOpenExposure_of_closed {g : Segment} (h : g.closed = true) : g.isOpenExposure = false := by
  simp [Segment.isOpenExposure, h]

theorem isOpenLeader_of_closed {g : Segment} (h : g.closed = true) : g.isOpenLeader = false := by
  simp [Segment.isOpenLeader, h]

theorem grow_isOpenExposure (g : Segment) : g.grow.isOpenExposure = g.isOpenExposure := by
  cases hk : g.kind <;> simp [Segment.isOpenExposure, Segment.grow, hk]

theorem webShape_placePaper {s : State} (hs : WebShape s) : WebShape { s with web := s.web.placePaper } := by
  have htail := hs.2.2.1
  rcases s.web.map.eq_nil_or_concat with hnil | ⟨init, g, hmap⟩
  · have hidle : s.channel.exposure = none := by
      rw [← Option.not_isSome_iff_eq_none, htail]
      simp [Web.exposureAtTail, hnil]
    refine webShape_openSegment (kind := .blank) hs (by simp [hnil]) hidle (by simp [Web.leaderExposed, hnil]) ?_ ?_ ?_
      fun _ => rfl
    all_goals simp [Web.placePaper, hnil, Web.openSegment, hidle]
  · rw [List.concat_eq_append] at hmap
    cases hg : g.closed with
    | true =>
      have hidle : s.channel.exposure = none := by
        rw [← Option.not_isSome_iff_eq_none, htail, exposureAtTail_concat hmap, isOpenExposure_of_closed hg]
        simp
      have hleader : s.web.leaderExposed = false := by rw [leaderExposed_concat hmap, isOpenLeader_of_closed hg]
      by_cases hroom : s.web.map.length < 128
      · have hweb : s.web.placePaper = s.web.openSegment .blank := by simp [Web.placePaper, hmap, hg] at hroom ⊢; omega
        exact webShape_openSegment (kind := .blank) hs hroom hidle hleader (by rw [hweb]) (by rw [hweb]; rfl)
          (by simp [hidle]) fun _ => rfl
      · have hweb : s.web.placePaper = s.web.growStretch := by simp [Web.placePaper, hmap, hg] at hroom ⊢; omega
        have hgrow : s.web.growStretch.map = s.web.map ∧ s.web.growStretch.fault = s.web.fault := by
          unfold Web.growStretch
          split <;> exact ⟨rfl, rfl⟩
        obtain ⟨hlen, hclosed, htail, hnoleader, -, hquiet⟩ := hs
        unfold WebShape Web.exposureAtTail Web.leaderExposed
        dsimp only
        rw [hweb, hgrow.1, hgrow.2]
        refine ⟨hlen, hclosed, htail, hnoleader, fun _ => ⟨by omega, ?_⟩, hquiet⟩
        rw [hmap, List.dropLast_concat] at hclosed
        simpa only [hmap, List.forall_mem_append, List.forall_mem_singleton] using ⟨hclosed, hg⟩
    | false =>
      have hweb : s.web.placePaper = { s.web with map := init ++ [g.grow] } := by
        simp [Web.placePaper, hmap, hg]
      refine webShape_mapLast (f := Segment.grow) hs hmap (by rw [hweb]) rfl (by simp [hg]) ?_ (by rw [hweb])
        (by rw [hweb]) id
      rw [grow_isOpenExposure, ← exposureAtTail_concat hmap]
      exact htail

/-- What a beginning selection has passed: the start conditions, and nothing being exposed. -/
theorem mayStart_iff {s : State} {n : Nat} : s.mayStart n = true ↔ s.startConditions = true
    ∧ s.scheduler.leaderPending = false ∧ s.web.leaderExposed = false ∧ s.exposing = false
    ∧ s.channel.linesReady n = true := by
  simp [State.mayStart, and_assoc]

theorem mayStart_of_begins {s : State} (h : s.startVerdict = .begins) : ∃ n, s.mayStart n = true := by
  unfold State.startVerdict at h
  split at h
  · split at h
    · exact ⟨_, ‹_›⟩
    · cases h
  · split at h
    · split at h
      · split at h
        · exact ⟨_, ‹_›⟩
        · cases h
      · cases h
    · cases h
  · cases h

theorem room_of_startConditions {s : State} (h : s.startConditions = true) :
    s.web.map.length < 128 ∧ s.web.fault = none := by
  obtain ⟨-, -, -, -, hfault, -, -, hroom, -⟩ := (startConditions_iff s).1 h
  exact ⟨hroom, hfault⟩

theorem webShape_beginSelection {s : State} {n : Nat} (hs : WebShape s) (hmay : s.mayStart n = true)
    (hselection : s.scheduler.selection.isSome = true) : WebShape s.beginSelection := by
  obtain ⟨hstart, hpending, hleader, hidle, -⟩ := mayStart_iff.1 hmay
  obtain ⟨hroom, hfault⟩ := room_of_startConditions hstart
  have hnone : s.channel.exposure = none := by simpa [State.exposing] using hidle
  unfold State.beginSelection
  split
  · exact webShape_openSegment (kind := .patch) hs hroom hnone hleader rfl rfl rfl (by simp [hpending, hfault, Web.openSegment])
  · next slot k copy _ =>
    exact webShape_openSegment (kind := .print slot k copy) hs hroom hnone hleader rfl rfl rfl
      (by simp [hpending, hfault, Web.openSegment])
  · simp_all

theorem leaderMayOpen_iff {s : State} : s.leaderMayOpen = true ↔
    s.scheduler.leaderPending = true ∧ s.web.map.length < 128 ∧ s.web.fault = none := by
  simp [State.leaderMayOpen, and_assoc]

theorem webShape_openLeader {s : State} (hs : WebShape s) (hmay : s.leaderMayOpen = true) : WebShape s.openLeader := by
  obtain ⟨hpending, hroom, hfault⟩ := leaderMayOpen_iff.1 hmay
  obtain ⟨hidle, hleader⟩ := hs.2.2.2.1 hpending
  exact webShape_openSegment (kind := .leader) hs hroom hidle hleader rfl rfl (by simp [hidle])
    (by simp [State.openLeader, Web.openSegment, hfault])

theorem webShape_placeStrobe {s : State} {verdict : StartVerdict} (hs : WebShape s)
    (h : verdict = .begins → s.scheduler.selection.isSome = true ∧ ∃ n, s.mayStart n = true) :
    WebShape (s.placeStrobe verdict) := by
  unfold State.placeStrobe
  split
  · next hb =>
    obtain ⟨hselection, n, hmay⟩ := h hb
    exact webShape_beginSelection hs hmay hselection
  · split
    · next hmay => exact webShape_openLeader hs hmay
    · exact webShape_placePaper hs

theorem advance_isSome (e : Exposure) : e.advance.isSome = !decide (e.lineCount ≤ e.linesExposed + 1) := by
  unfold Exposure.advance
  split <;> simp_all

/-- A strobe of the print or patch being exposed ends the exposure exactly with the last line. -/
theorem exposeLine_isSome (c : ChannelOutput) (e : Exposure) :
    (c.exposeLine e).channel.exposure.isSome = !(c.exposeLine e).ended := by
  unfold ChannelOutput.exposeLine ChannelOutput.repeatLine
  split
  · exact advance_isSome e
  · split
    · split <;> exact advance_isSome _
    · exact advance_isSome _

theorem webShape_exposeStrobe {s : State} (hs : WebShape s) : WebShape s.exposeStrobe := by
  have htail := hs.2.2.1
  rcases s.web.map.eq_nil_or_concat with hnil | ⟨init, g, hmap⟩
  · have hidle : s.channel.exposure = none := by
      rw [← Option.not_isSome_iff_eq_none, htail]
      simp [Web.exposureAtTail, hnil]
    exact webShape_of_outline (by simp [State.exposeStrobe, hidle, hnil]) (by simp [State.exposeStrobe, hidle])
      (by simp [State.exposeStrobe, hidle]) (fun hf => .inl (by simpa [State.exposeStrobe, hidle] using hf))
      (fun hp => .inl (by simpa [State.exposeStrobe, hidle] using hp)) hs
  · rw [List.concat_eq_append] at hmap
    rw [exposureAtTail_concat hmap] at htail
    unfold State.exposeStrobe
    split
    · next e he =>
      refine webShape_mapLast (f := Segment.afterLine (s.channel.exposeLine e).suspect (s.channel.exposeLine e).ended) hs hmap (by simp only [hmap, mapLast_concat]) rfl
        (fun h => by simp [Segment.afterLine, h]) ?_ rfl rfl id
      rw [he] at htail
      dsimp only
      rw [exposeLine_isSome]
      cases hk : g.kind <;> simp_all [Segment.afterLine, Segment.isOpenExposure]
    · next he =>
      refine webShape_mapLast (f := Segment.closeLeader s.web.leaderTarget) hs hmap (by simp only [hmap, mapLast_concat]) rfl
        (fun h => by simp [Segment.closeLeader, h]) ?_ rfl rfl id
      rw [he] at htail ⊢
      cases hk : g.kind <;> simp_all [Segment.closeLeader, Segment.isOpenExposure]

theorem abandon_quiet (g : Segment) : g.abandon.isOpenExposure = false ∧ g.abandon.isOpenLeader = false := by
  unfold Segment.abandon Segment.isOpenExposure Segment.isOpenLeader
  cases hk : g.kind <;> simp [hk]

/-- A flush leaves nothing exposed. -/
theorem webShape_flush {s : State} (hs : WebShape s) :
    WebShape s.flush ∧ s.flush.exposing = false ∧ s.flush.web.leaderExposed = false := by
  rcases s.web.map.eq_nil_or_concat with hnil | ⟨init, g, hmap⟩
  · have hunlisted : s.web.unlisted = none := by
      cases hu : s.web.unlisted with
      | none => rfl
      | some u => simpa [hnil] using (hs.2.2.2.2.1 (by simp [hu])).1
    exact ⟨webShape_of_nil (by simp [State.flush, hnil]) rfl hunlisted, rfl,
      by simp [State.flush, hnil, Web.leaderExposed]⟩
  · rw [List.concat_eq_append] at hmap
    obtain ⟨hexposure, hleader⟩ := abandon_quiet g
    have hflush : s.flush.web.map = init ++ [g.abandon] := by simp [State.flush, hmap]
    refine ⟨webShape_mapLast (f := Segment.abandon) hs hmap hflush ?_ ?_ ?_ rfl rfl id, rfl,
      (leaderExposed_concat hflush).trans hleader⟩
    · unfold Segment.abandon
      split <;> rfl
    · unfold Segment.abandon
      split <;> simp
    · rw [hexposure]
      rfl

theorem webShape_raiseWebFault {s : State} (cause : WebFaultCause) (hs : WebShape s) :
    WebShape (s.raiseWebFault cause) := by
  unfold State.raiseWebFault
  split
  · exact hs
  · obtain ⟨hflush, hquiet⟩ := webShape_flush hs
    exact webShape_of_outline (s := s.flush) (outline_map (f := fun g => { g with spoiled := true }) (fun _ => rfl) _) rfl rfl (fun _ => .inr hquiet)
      (fun hp => .inr hquiet) hflush

theorem webShape_detectMissedCuts {s : State} (hs : WebShape s) : WebShape s.detectMissedCuts := by
  unfold State.detectMissedCuts
  split
  · exact hs
  · have hmerged : WebShape { s with web := { s.web with map := mergePassed s.web.lpath s.web.odometer s.web.map } } :=
      webShape_of_outline (outline_mergePassed _ _ _) rfl rfl .inl .inl hs
    dsimp only
    split
    · exact webShape_raiseWebFault _ hmerged
    · exact hmerged

theorem webShape_popSegments {s t : State} {k : Nat} {g : Segment} (hs : WebShape s)
    (hg : s.web.map[k]? = some g) (hclosed : g.closed = true) (hweb : t.web = (s.popSegments (k + 1)).web)
    (hexposing : t.channel.exposure.isSome = s.channel.exposure.isSome)
    (hpending : t.scheduler.leaderPending = s.scheduler.leaderPending) : WebShape t := by
  obtain ⟨hlen, hclosed', htail, hnoleader, hfull, hquiet⟩ := hs
  have hmap : t.web.map = s.web.map.drop (k + 1) ++ joined (s.web.map.drop (k + 1)) s.web.unlisted := by
    rw [hweb, popSegments_map]
  have hroom : (s.web.map.drop (k + 1)).length < 128 := by
    have := (List.getElem?_eq_some_iff.1 hg).1
    simp
    omega
  have hunlisted : t.web.unlisted = none := by rw [hweb, popSegments_unlisted, if_pos hroom]
  have hfault : t.web.fault = s.web.fault := by
    rw [hweb]
    exact onlyChanges_popSegments s _ .webFault (by simp)
  rcases s.web.map.eq_nil_or_concat with hnil | ⟨init, a, hlast⟩
  · simp [hnil] at hg
  · rw [List.concat_eq_append] at hlast
    have hidle (ha : a.closed = true) : t.channel.exposure = none := by
      rw [← Option.not_isSome_iff_eq_none, hexposing, htail, exposureAtTail_concat hlast, isOpenExposure_of_closed ha]
      simp
    rw [hlast, List.dropLast_concat] at hclosed'
    cases hu : s.web.unlisted with
    | some u =>
      obtain ⟨-, hall⟩ := hfull (by simp [hu])
      have htmap : t.web.map = s.web.map.drop (k + 1) ++ [stretchSegment u] := by
        simp only [hmap, hu, joined, if_pos hroom]
      have hleader : t.web.leaderExposed = false := leaderExposed_concat htmap
      have hnone := hidle (hall a (by simp [hlast]))
      refine ⟨?_, ?_, ?_, fun _ => ⟨hnone, hleader⟩, by simp [hunlisted], fun _ => ⟨hnone, hleader⟩⟩
      · rw [htmap, List.length_append]
        exact hroom
      · rw [htmap, List.dropLast_concat]
        exact fun x hx => hall x (List.mem_of_mem_drop hx)
      · rw [hnone, exposureAtTail_concat htmap]
        rfl
    | none =>
      have htmap : t.web.map = s.web.map.drop (k + 1) := by simp [hmap, hu, joined]
      by_cases hk : k + 1 ≤ init.length
      · have hrest : t.web.map = init.drop (k + 1) ++ [a] := by
          rw [htmap, hlast, List.drop_append_of_le_length hk]
        have hleader : t.web.leaderExposed = s.web.leaderExposed := by
          rw [leaderExposed_concat hrest, leaderExposed_concat hlast]
        have hnone : t.channel.exposure = none ↔ s.channel.exposure = none := by
          rw [← Option.not_isSome_iff_eq_none, ← Option.not_isSome_iff_eq_none, hexposing]
        refine ⟨?_, ?_, ?_, ?_, by simp [hunlisted], ?_⟩
        · rw [htmap]
          omega
        · rw [hrest, List.dropLast_concat]
          exact fun x hx => hclosed' x (List.mem_of_mem_drop hx)
        · rw [hexposing, htail, exposureAtTail_concat hrest, exposureAtTail_concat hlast]
        · rw [hpending, hnone, hleader]
          exact hnoleader
        · rw [hfault, hnone, hleader]
          exact hquiet
      · have hka : k = init.length := by
          have := (List.getElem?_eq_some_iff.1 hg).1
          simp [hlast] at this
          omega
        obtain rfl : a = g := by simpa [hlast, hka] using hg
        exact webShape_of_nil (by simp [htmap, hlast, hka]) (hidle hclosed) hunlisted

theorem webShape_cuts {s t : State} (h : Cuts s t) (hexposing : t.channel.exposure.isSome = s.channel.exposure.isSome)
    (hpending : t.scheduler.leaderPending = s.scheduler.leaderPending) (hs : WebShape s) : WebShape t := by
  cases h with
  | none houtline hweb =>
    refine webShape_of_outline houtline hexposing (by rw [hweb]) (fun hf => .inl ?_) (fun hp => .inl (hpending ▸ hp)) hs
    rw [hweb] at hf
    exact hf
  | first hg hclosed hweb => exact webShape_popSegments hs hg hclosed hweb hexposing hpending

theorem webShape_cutTaken {s : State} (hs : WebShape s) : WebShape (cutTaken s) := by
  have htake : WebShape s.takeCut.1 := by
    unfold State.takeCut
    split
    · exact webShape_cuts (cuts_faultCut s) (by rw [onlyChanges_faultCut s .exposure (by simp [cutParts])])
        (onlyChanges_faultCut s .leaderPending (by simp [cutParts])) hs
    · exact webShape_cuts (cuts_judgeCut _) (by rw [onlyChanges_judgeCut _ .exposure (by simp [cutParts])])
        (onlyChanges_judgeCut _ .leaderPending (by simp [cutParts])) (webShape_detectMissedCuts hs)
  exact htake

theorem webShape_strobeLined {s : State} (hs : WebShape s) : WebShape (strobeLined s) := by
  have hdrop : WebShape s.dropZeroLeader :=
    webShape_of_outline (s := s) rfl rfl rfl .inl
      (fun hp => .inl (by simp [State.dropZeroLeader] at hp; exact hp.1)) hs
  have hvoid (t : State) (voids : Prop) [Decidable voids] (ht : WebShape t) :
      WebShape (if voids then t.voidSelection else t) := by
    split
    · exact webShape_of_outline (s := t) (by simp) (by simp) (by simp) (fun hf => .inl (by simpa using hf))
        (fun hp => .inl (by simpa using hp)) ht
    · exact ht
  have hplaced : WebShape (strobePlaced s) := by
    refine webShape_placeStrobe (hvoid _ (s.dropZeroLeader.startVerdict = .misfit) hdrop) fun hbegins => ?_
    rw [if_neg (by simp [hbegins])]
    exact ⟨startVerdict_begins hbegins, mayStart_of_begins hbegins⟩
  have hstall (w : Web) (now : Word32) (wasEmpty : Bool) : (w.restartStall now wasEmpty).map = w.map
      ∧ (w.restartStall now wasEmpty).unlisted = w.unlisted ∧ (w.restartStall now wasEmpty).fault = w.fault := by
    unfold Web.restartStall
    split
    · exact ⟨rfl, rfl, rfl⟩
    · split <;> exact ⟨rfl, rfl, rfl⟩
  have hpaper (sch : Scheduler) : sch.countPaper.leaderPending = sch.leaderPending := by
    unfold Scheduler.countPaper
    split
    · dsimp only
      split <;> simp
    · rfl
  obtain ⟨hmap, hunlisted, hfault⟩ := hstall (strobePlaced s).exposeStrobe.web (strobePlaced s).exposeStrobe.timeBase
    s.web.map.isEmpty
  exact webShape_of_outline (s := (strobePlaced s).exposeStrobe) (congrArg outline hmap) rfl hunlisted
    (fun hf => .inl (hfault ▸ hf)) (fun hp => .inl (hpaper _ ▸ hp)) (webShape_exposeStrobe hplaced)

theorem webShape_strobe {s : State} (hs : WebShape s) : WebShape s.strobe := by
  rw [strobe_eq]
  exact webShape_detectMissedCuts (webShape_strobeLined hs)

theorem marked_frame (s : State) : s.markExposedSuspect.web.unlisted = s.web.unlisted
    ∧ s.markExposedSuspect.web.fault = s.web.fault := by simp

theorem WebEffect.webShape {s u : State} (h : WebEffect s u) (hs : WebShape s) : WebShape u := by
  cases h with
  | marked h => exact webShape_of_marked h hs
  | powerOn => exact webShape_of_nil rfl rfl rfl
  | warmReset =>
    exact webShape_of_nil (by simp [State.warmReset, State.clearMap, Web.warm])
      (by simp [State.warmReset, State.clearMap, State.flush]) rfl
  | cut => exact webShape_cutTaken hs
  | strobe => exact webShape_strobe hs
  | webCleared hallowed =>
    refine webShape_of_nil (by simp [webEmptied, State.clearMap]) ?_ (by simp [webEmptied, State.clearMap])
    have hidle : s.channel.exposure = none := by
      rcases hallowed with hfault | ⟨hidle, -⟩
      · exact (hs.2.2.2.2.2 hfault).1
      · simpa [State.exposing] using hidle
    simpa [webEmptied, State.clearMap] using hidle
  | transportRun =>
    have hweb : s.transportRun.web.map = s.web.map ∧ s.transportRun.web.unlisted = s.web.unlisted
        ∧ s.transportRun.web.fault = s.web.fault := by
      unfold State.transportRun
      dsimp only
      split <;> exact ⟨rfl, rfl, rfl⟩
    exact webShape_of_outline (s := s) (by rw [hweb.1]) rfl hweb.2.1 (fun hf => .inl (hweb.2.2 ▸ hf)) .inl hs
  | transportStop =>
    obtain ⟨hunlisted, hfault⟩ := marked_frame s
    exact webShape_of_outline (s := s) (outline_markExposedSuspect s) (by simp) hunlisted (fun hf => .inl (hfault ▸ hf))
      (fun hp => .inl (by simpa using hp)) hs
  | @stallFirst e hstage =>
    obtain ⟨hunlisted, hfault⟩ := marked_frame s
    exact webShape_of_outline (s := s) (outline_markExposedSuspect s) (by simp) hunlisted (fun hf => .inl (hfault ▸ hf))
      (fun hp => .inl (by simpa using hp)) hs
  | @stallSecond e hstage => exact webShape_of_outline (s := s.raiseWebFault .stall) rfl rfl rfl .inl .inl (webShape_raiseWebFault .stall hs)

/-- Settles O7. -/
theorem everyStepKeepsWebShape : Obligations.EveryStepKeepsWebShape := fun _ _ =>
  step_keeps (fun _ _ _ _ h => h) (fun _ _ hs hu => (webEffect_of_change hu).webShape hs)

end Sys2Proof.WebMap

/-! Magazine records and settings through every step (O10). -/

namespace Sys2Proof.Settings

open Sys2Proof.Machine Sys2Proof.Laws Sys2Proof.OrdersAndItems Sys2Proof.Magazines Sys2Proof.Sorting Sys2Proof.Till
open Sys2Proof.Steps Sys2Proof.WebMap

/-! ## The line queue never grows but by a produced line -/

theorem queue_filter_le {q : List Line} {f : Line → Bool} : (q.filter f).length ≤ q.length := List.length_filter_le _ _

theorem queue_voidSelection (s : State) : s.voidSelection.channel.queue.length ≤ s.channel.queue.length := by
  unfold State.voidSelection
  split
  · exact queue_filter_le
  · exact le_rfl

theorem queue_voidSelectionOf (s : State) (slot : Nat) :
    (s.voidSelectionOf slot).channel.queue.length ≤ s.channel.queue.length := by
  unfold State.voidSelectionOf
  split
  · exact queue_voidSelection s
  · exact le_rfl

theorem queue_blankOf (s : State) (slot : Nat) : (s.blankOf slot).channel.queue.length ≤ s.channel.queue.length := by
  unfold State.blankOf
  dsimp only
  split
  · exact queue_filter_le
  · exact le_rfl

theorem queue_withdraw (s : State) (slot : Nat) (q : Requester) (partially : Bool) :
    (s.withdraw slot q partially).channel.queue.length ≤ s.channel.queue.length := by
  unfold State.withdraw
  dsimp only
  rw [accountCheck_channel, releaseBins_channel]
  refine (queue_blankOf _ _).trans ?_
  rw [abortBegunWorkOf_channel]
  exact queue_voidSelectionOf _ _

theorem queue_faultPrint (s : State) (owner : WorkOwner) :
    (s.faultPrint owner).channel.queue.length ≤ s.channel.queue.length := by
  unfold State.faultPrint
  split
  · exact queue_voidSelection s
  · simp [ChannelOutput.blank, ChannelOutput.drop, queue_filter_le]
  · simp

theorem queue_faultOrder (s : State) (slot n : Nat) :
    (s.faultOrder slot n).channel.queue.length ≤ s.channel.queue.length := by
  unfold State.faultOrder
  dsimp only
  rw [accountCheck_channel]
  split
  · split
    · exact queue_voidSelectionOf _ _
    · exact le_rfl
  · exact le_rfl

theorem queue_rasterFault (s : State) (f : Fetch) (cause : FaultCause) :
    (s.rasterFault f cause).channel.queue.length ≤ s.channel.queue.length := by
  unfold State.rasterFault
  split
  · split
    · exact (queue_faultOrder _ _ _).trans (queue_faultPrint _ _)
    · exact le_rfl
  · exact le_rfl

theorem queue_raiseWebFault (s : State) (cause : WebFaultCause) :
    (s.raiseWebFault cause).channel.queue.length ≤ s.channel.queue.length := by
  unfold State.raiseWebFault
  split
  · exact le_rfl
  · simp [State.flush]

theorem queue_detectMissedCuts (s : State) :
    s.detectMissedCuts.channel.queue.length ≤ s.channel.queue.length := by
  unfold State.detectMissedCuts
  split
  · exact le_rfl
  · dsimp only
    split
    · exact queue_raiseWebFault _ _
    · exact le_rfl

theorem queue_cutTaken (s : State) : (cutTaken s).channel.queue.length ≤ s.channel.queue.length := by
  have htake : s.takeCut.1.channel.queue.length ≤ s.channel.queue.length := by
    unfold State.takeCut
    split
    · rw [onlyChanges_faultCut s .lineQueue (by simp [cutParts])]
    · rw [onlyChanges_judgeCut _ .lineQueue (by simp [cutParts])]
      exact queue_detectMissedCuts s
  exact htake

theorem queue_rescheduled (s : State) (sch : Scheduler) (voids : Prop) [Decidable voids] :
    (rescheduled s sch voids).channel.queue.length ≤ s.channel.queue.length := by
  unfold rescheduled
  split
  · exact queue_voidSelection _
  · exact le_rfl

theorem queue_beginSelection (s : State) : s.beginSelection.channel.queue.length ≤ s.channel.queue.length := by
  unfold State.beginSelection
  split <;> simp [ChannelOutput.begin]

theorem queue_placeStrobe (s : State) (verdict : StartVerdict) :
    (s.placeStrobe verdict).channel.queue.length ≤ s.channel.queue.length := by
  unfold State.placeStrobe
  split
  · exact queue_beginSelection s
  · split
    · simp
    · exact le_rfl

theorem queue_exposeLine (c : ChannelOutput) (e : Exposure) :
    (c.exposeLine e).channel.queue.length ≤ c.queue.length := by
  unfold ChannelOutput.exposeLine ChannelOutput.repeatLine
  split
  · exact le_rfl
  · split
    · next hq => split <;> simp [hq]
    · exact le_rfl

theorem queue_exposeStrobe (s : State) : s.exposeStrobe.channel.queue.length ≤ s.channel.queue.length := by
  unfold State.exposeStrobe
  split
  · exact queue_exposeLine _ _
  · exact le_rfl

theorem queue_strobe (s : State) : s.strobe.channel.queue.length ≤ s.channel.queue.length := by
  have hvoid (t : State) (voids : Prop) [Decidable voids] :
      (if voids then t.voidSelection else t).channel.queue.length ≤ t.channel.queue.length := by
    split
    · exact queue_voidSelection t
    · exact le_rfl
  rw [strobe_eq]
  calc (strobeLined s).detectMissedCuts.channel.queue.length
      ≤ (strobePlaced s).exposeStrobe.channel.queue.length := queue_detectMissedCuts _
    _ ≤ (strobePlaced s).channel.queue.length := queue_exposeStrobe _
    _ ≤ _ := queue_placeStrobe _ _
    _ ≤ s.channel.queue.length := hvoid _ _

/-! ## Settings by their parts -/

/-- The invariant O10 is about. -/
def SettingsOk (s : State) : Prop := MagazinesOk s ∧ SettingsInRange s

theorem settingsOk_of_onlyChanges {parts : List Machine.Part} {s t : State} (h : OnlyChanges parts s t)
    (hparts : ∀ p ∈ ([.remakeLimit, .windows, .patchCadence, .paperSettings, .magazines, .gains, .repeatTolerance, .offsets,
      .densitySettings, .lpath, .stallTime, .uncollectedTime] : List Machine.Part), p ∉ parts)
    (hqueue : t.channel.queue.length ≤ s.channel.queue.length) (hs : SettingsOk s) : SettingsOk t := by
  simp only [List.forall_mem_cons] at hparts
  obtain ⟨hremake, hwindows, hcadence, hpaper, hmagazines, hgains, htolerance, hoffsets, hdensity, hlpath, htime,
    huncollected, -⟩ := hparts
  have h1 := h _ hremake
  have h2 := h _ hwindows
  obtain ⟨h3, -, -⟩ := h _ hcadence
  obtain ⟨h4, h5⟩ := h _ hpaper
  obtain ⟨h6, h7⟩ := h _ hmagazines
  have h8 := h _ hgains
  have h9 := h _ htolerance
  obtain ⟨h10, h11⟩ := h _ hoffsets
  obtain ⟨h12, h13, h14, h15⟩ := h _ hdensity
  have h16 := h _ hlpath
  have h17 := h _ htime
  have h18 := h _ huncollected
  simp only [Same] at h1 h2 h8 h9 h16 h17 h18
  unfold SettingsOk MagazinesOk SettingsInRange at *
  rw [h1, h2, h3, h4, h5, h6, h7, h8, h9, h10, h11, h12, h13, h14, h15, h16, h17, h18]
  obtain ⟨hmag, hrest⟩ := hs
  obtain ⟨a1, a2, a3, a4, a5, a6, a7, a8, a9, hle, arest⟩ := hrest
  exact ⟨hmag, a1, a2, a3, a4, a5, a6, a7, a8, a9, hqueue.trans hle, arest⟩

theorem withLow_ok {r : MagazineRecord} (endReserve : Nat) (hmax : r.remaining ≤ 2500000)
    (hwidth : r.width = 0 ∨ 89 ≤ r.width ∧ r.width ≤ 305) (hpresent : r.present = true → r.width ≠ 0) :
    (r.withLow endReserve).ok endReserve :=
  ⟨hmax, hwidth, hpresent, by simp [MagazineRecord.withLow]⟩

theorem withLow_ok_of_ok {r : MagazineRecord} {old : Nat} (endReserve : Nat) (h : r.ok old) :
    (r.withLow endReserve).ok endReserve := withLow_ok endReserve h.1 h.2.1 h.2.2.1

theorem satAdd_le {limit n k : Nat} (h : n ≤ limit) : satAdd limit n k ≤ limit := by
  unfold satAdd
  split <;> omega

theorem settingsOk_patchRead {s : State} {g : Segment} {behind : List Segment} {e : PerChannel Int} (hs : SettingsOk s) :
    SettingsOk (patchRead s g behind e) := by
  obtain ⟨hmag, h1, h2, h3, h4, h5, h6, h7, h8, h9, h10, h11, h12, h13, h14, h15, h16, h17, hrest⟩ := hs
  refine ⟨hmag, h1, h2, h3, h4, h5, h6, h7, h8, h9, h10, fun c => ?_, h12, h13, h14, h15, h16, ?_, hrest⟩
  · have hsteer (a : Nat) (offset error : Int) : -255 ≤ steer a offset error ∧ steer a offset error ≤ 255 := by
      unfold steer clampInt
      omega
    show -255 ≤ PerChannel.get (s.density.take g behind e).offsets c ∧ PerChannel.get (s.density.take g behind e).offsets c ≤ 255
    unfold Density.take
    dsimp only
    split
    · match c with
      | 0 | 1 | 2 => exact hsteer _ _ _
    · exact h11 c
  · show (s.density.take g behind e).implausible ≤ 255
    unfold Density.take
    dsimp only
    split
    · split
      · exact satAdd_le h17
      · exact Nat.zero_le _
    · exact h17

theorem settingsOk_webSet {s : State} (hs : SettingsOk s) (lpath : Word32) (leaderLength endReserve stallTime : Word16) :
    SettingsOk (webSet s (clampNat 1000 250000 lpath.toNat) (min 5000 leaderLength.toNat) endReserve.toNat
      (clampNat 100 10000 stallTime.toNat)) := by
  obtain ⟨⟨ha, hb⟩, h1, h2, h3, h4, h5, -, -, h8, h9, h10, h11, h12, h13, h14, h15, h16, h17, -, -, -, h21⟩ := hs
  refine ⟨⟨withLow_ok_of_ok _ ha, withLow_ok_of_ok _ hb⟩, h1, h2, h3, h4, h5, Nat.min_le_left _ _, ?_, h8, h9, h10, h11,
    h12, h13, h14, h15, h16, h17, .inr ?_, ?_, ?_, h21⟩
  · have := endReserve.isLt
    show endReserve.toNat ≤ 65535
    omega
  all_goals simp only [webSet, clampNat]; omega

theorem settingsOk_densitySet {s : State} (hs : SettingsOk s) (k t0 t1 t2 : Word16) (a : Byte) (q : Word16)
    (tolerance : Byte) (g0 g1 g2 : Word16) :
    SettingsOk (densitySet s (min 255 k.toNat)
      { c0 := min 1023 t0.toNat, c1 := min 1023 t1.toNat, c2 := min 1023 t2.toNat } (min 15 a.toNat)
      (clampNat 1 255 q.toNat) (min 15 tolerance.toNat)
      { c0 := clampNat 256 767 g0.toNat, c1 := clampNat 256 767 g1.toNat, c2 := clampNat 256 767 g2.toNat }) := by
  obtain ⟨hmag, h1, h2, h3, h4, h5, h6, h7, -, -, h10, h11, -, -, -, -, -, h17, h18, h19, h20, h21⟩ := hs
  refine ⟨hmag, h1, h2, h3, h4, h5, h6, h7, fun c => ?_, ?_, h10, h11, fun c => ?_, ?_, ?_, ?_, ?_, h17, h18, h19, h20,
    h21⟩
  · match c with
    | 0 | 1 | 2 => simp only [densitySet, PerChannel.get, clampNat]; omega
  · simp only [densitySet]; omega
  · match c with
    | 0 | 1 | 2 => simp only [densitySet, PerChannel.get]; omega
  all_goals simp only [densitySet, clampNat]; omega

theorem settingsOk_countPaper {s : State} (hs : SettingsOk s) :
    SettingsOk { s with scheduler := s.scheduler.countPaper } := by
  obtain ⟨⟨ha, hb⟩, hrest⟩ := hs
  unfold Scheduler.countPaper
  split
  · next m _ =>
    dsimp only
    split
    · cases m with
      | a =>
        refine ⟨⟨withLow_ok _ ?_ ha.2.1 ha.2.2.1, hb⟩, hrest⟩
        exact (Nat.sub_le _ _).trans ha.1
      | b =>
        refine ⟨⟨ha, withLow_ok _ ?_ hb.2.1 hb.2.2.1⟩, hrest⟩
        exact (Nat.sub_le _ _).trans hb.1
    · exact ⟨⟨ha, hb⟩, hrest⟩
  · exact ⟨⟨ha, hb⟩, hrest⟩

theorem settingsOk_beginSelection {s : State} (hs : SettingsOk s) : SettingsOk s.beginSelection := by
  obtain ⟨hmag, h1, h2, h3, h4, h5, h6, h7, h8, h9, h10, hrest⟩ := hs
  have hqueue := (queue_beginSelection s).trans h10
  unfold State.beginSelection at hqueue ⊢
  split
  · next hsel =>
    rw [hsel] at hqueue
    exact ⟨hmag, h1, h2, h3, h4, Nat.zero_le _, h6, h7, h8, h9, hqueue, hrest⟩
  · next hsel =>
    rw [hsel] at hqueue
    refine ⟨hmag, h1, h2, h3, h4, ?_, h6, h7, h8, h9, hqueue, hrest⟩
    show satAdd 255 s.scheduler.patchCounter 1 ≤ 255
    exact satAdd_le h5
  · exact ⟨hmag, h1, h2, h3, h4, h5, h6, h7, h8, h9, h10, hrest⟩

theorem settingsOk_strobe {s : State} (hs : SettingsOk s) : SettingsOk s.strobe := by
  have hdrop : SettingsOk s.dropZeroLeader := hs
  have hvoid (t : State) (voids : Prop) [Decidable voids] (ht : SettingsOk t) :
      SettingsOk (if voids then t.voidSelection else t) := by
    split
    · exact settingsOk_of_onlyChanges (onlyChanges_voidSelection t) (by decide) (queue_voidSelection t) ht
    · exact ht
  have hplace (t : State) (verdict : StartVerdict) (ht : SettingsOk t) : SettingsOk (t.placeStrobe verdict) := by
    unfold State.placeStrobe
    split
    · exact settingsOk_beginSelection ht
    · split
      · exact ht
      · exact settingsOk_of_onlyChanges (onlyChanges_placePaper t) (by decide) le_rfl ht
  have hplaced : SettingsOk (strobePlaced s) :=
    hplace _ _ (hvoid _ (s.dropZeroLeader.startVerdict = .misfit) hdrop)
  have hexposed : SettingsOk (strobePlaced s).exposeStrobe :=
    settingsOk_of_onlyChanges (onlyChanges_exposeStrobe _) (by decide) (queue_exposeStrobe _) hplaced
  have hstall (t : State) (wasEmpty : Bool) (ht : SettingsOk t) :
      SettingsOk { t with web := t.web.restartStall t.timeBase wasEmpty } := by
    unfold Web.restartStall
    split
    · exact ht
    · split <;> exact ht
  rw [strobe_eq]
  exact settingsOk_of_onlyChanges (onlyChanges_detectMissedCuts _) (by decide) (queue_detectMissedCuts _)
    (hstall { (strobePlaced s).exposeStrobe with scheduler := (strobePlaced s).exposeStrobe.scheduler.countPaper }
      s.web.map.isEmpty (settingsOk_countPaper hexposed))

theorem settingsOk_rescheduled {s : State} {sch : Scheduler} {voids : Prop} [Decidable voids]
    (hs : SettingsOk { s with scheduler := sch }) : SettingsOk (rescheduled s sch voids) := by
  unfold rescheduled
  split
  · exact settingsOk_of_onlyChanges (onlyChanges_voidSelection _) (by decide) (queue_voidSelection _) hs
  · exact hs

theorem settingsOk_setMagazine {s : State} (hs : SettingsOk s) (m : Magazine) {r : MagazineRecord}
    (hr : r.ok s.scheduler.endReserve) : SettingsOk { s with scheduler := s.scheduler.setMagazine m r } := by
  obtain ⟨⟨ha, hb⟩, hrest⟩ := hs
  cases m with
  | a => exact ⟨⟨hr, hb⟩, hrest⟩
  | b => exact ⟨⟨ha, hr⟩, hrest⟩

theorem magazine_ok {s : State} (hs : SettingsOk s) (m : Magazine) :
    (s.scheduler.magazine m).ok s.scheduler.endReserve := by
  cases m with
  | a => exact hs.1.1
  | b => exact hs.1.2

theorem settingsOk_lineProduced {s : State} {w : Work} {codes : Codes} (h : s.producible = some (w, codes))
    (hs : SettingsOk s) : SettingsOk (State.advanceWork { s with channel := s.channel.accept w codes } w) := by
  refine settingsOk_of_onlyChanges (onlyChanges_advanceWork _ w) (by decide) (by simp) ?_
  have hroom : s.channel.queue.length < 8 := by
    unfold State.producible at h
    split at h
    · split at h
      · assumption
      · cases h
    · cases h
  have haccept : (s.channel.accept w codes).queue.length ≤ 8
      ∧ (s.channel.accept w codes).repeatTolerance = s.channel.repeatTolerance := by
    unfold ChannelOutput.accept
    split
    · exact ⟨by simp; omega, rfl⟩
    · split
      · split
        · exact ⟨by simp; omega, rfl⟩
        · exact ⟨hroom.le, rfl⟩
      · exact ⟨hroom.le, rfl⟩
    · exact ⟨hroom.le, rfl⟩
  obtain ⟨hmag, h1, h2, h3, h4, h5, h6, h7, h8, h9, -, hrest⟩ := hs
  exact ⟨hmag, h1, h2, h3, h4, h5, h6, h7, h8, haccept.2.trans_le h9, haccept.1, hrest⟩

/-- What a command sets in the settings, all else of them kept. -/
theorem settingsOk_of_change {s u : State} (h : Change s u) (hs : SettingsOk s) : SettingsOk u := by
  cases h
  case powerOn =>
    obtain ⟨-, -, -, -, -, hmag, hset, -⟩ := Resets.resetMeetsInvariants
    exact ⟨hmag, hset⟩
  case warmReset =>
    exact settingsOk_of_onlyChanges (onlyChanges_warmReset s) (by decide)
      (by simp [State.warmReset, State.clearMap, State.flush]) hs
  case cut => exact settingsOk_of_onlyChanges (onlyChanges_cutTaken s) (by decide) (queue_cutTaken s) hs
  case strobe => exact settingsOk_strobe hs
  case webCleared =>
    exact settingsOk_of_onlyChanges (onlyChanges_webEmptied s) (by decide) (by simp [webEmptied, State.clearMap]) hs
  case stallSecond =>
    exact settingsOk_of_onlyChanges (onlyChanges_stallSecond s) (by decide) (queue_raiseWebFault _ _) hs
  case rasterFault fetch f cause =>
    exact settingsOk_of_onlyChanges (onlyChanges_rasterFault { s with fetch := fetch } f cause) (by decide)
      (queue_rasterFault _ _ _) hs
  case patchRead => exact settingsOk_patchRead hs
  case densityReset =>
    refine settingsOk_of_onlyChanges (onlyChanges_voidSelection _) (by decide) (queue_voidSelection _) ?_
    obtain ⟨hmag, h1, h2, h3, h4, h5, h6, h7, h8, h9, h10, -, h12, h13, h14, h15, h16, -, hrest⟩ := hs
    have hzero : ∀ c, -255 ≤ (PerChannel.mk 0 0 0 : PerChannel Int).get c
        ∧ (PerChannel.mk 0 0 0 : PerChannel Int).get c ≤ 255 := by decide
    exact ⟨hmag, h1, h2, h3, h4, h5, h6, h7, h8, h9, h10, hzero, h12, h13, h14, h15, h16, Nat.zero_le _, hrest⟩
  case webSet lpath leaderLength endReserve stallTime => exact settingsOk_webSet hs lpath leaderLength endReserve stallTime
  case densitySet => exact settingsOk_densitySet hs _ _ _ _ _ _ _ _ _ _
  case magazineTaken => exact settingsOk_rescheduled hs
  case rollLoaded m width u length hmin hmax =>
    refine settingsOk_rescheduled (settingsOk_setMagazine hs m ?_)
    exact withLow_ok _ (Nat.min_le_left _ _) (.inr ⟨hmin, hmax⟩) fun _ => by simp only; omega
  case rollUnloaded m =>
    obtain ⟨hmax, hwidth, -, -⟩ := magazine_ok hs m
    exact settingsOk_rescheduled (settingsOk_setMagazine hs m ⟨hmax, hwidth, by simp [unloaded], by simp [unloaded]⟩)
  case withdrawn slot o p requester partially _ _ _ _ =>
    exact settingsOk_of_onlyChanges (onlyChanges_withdraw (repriced s p) slot requester partially) (by decide)
      (queue_withdraw _ _ _ _) hs
  case attempt active _ _ => exact settingsOk_of_onlyChanges (onlyChanges_attempt s active) (by decide) (by simp) hs
  case lineProduced w codes hproducible => exact settingsOk_lineProduced hproducible hs
  case uncollectedTime minutes hmax =>
    obtain ⟨hmag, h1, h2, h3, h4, h5, h6, h7, h8, h9, h10, h11, h12, h13, h14, h15, h16, h17, h18, h19, h20, -⟩ := hs
    exact ⟨hmag, h1, h2, h3, h4, h5, h6, h7, h8, h9, h10, h11, h12, h13, h14, h15, h16, h17, h18, h19, h20, hmax⟩
  case windows w he hst hb =>
    obtain ⟨hmag, h1, -, -, -, hrest⟩ := hs
    exact ⟨hmag, h1, he, hst, hb, hrest⟩
  case remakeLimit n hn =>
    obtain ⟨hmag, -, hrest⟩ := hs
    exact ⟨hmag, hn, hrest⟩
  case held slot o _ _ =>
    exact settingsOk_of_onlyChanges (onlyChanges_voidSelectionOf _ slot) (by decide) (queue_voidSelectionOf _ _)
      (settingsOk_of_onlyChanges (onlyChanges_delist _ slot) (by decide) le_rfl hs)
  case submitted slot o ms _ _ _ =>
    exact settingsOk_of_onlyChanges (onlyChanges_enlistedIf _ slot (ms = 0)) (by decide) (by simp) hs
  case released slot o _ _ =>
    exact settingsOk_of_onlyChanges (onlyChanges_enlistedIf _ slot (o.windowEnded = true)) (by decide) (by simp) hs
  case collected slot o p _ _ =>
    exact settingsOk_of_onlyChanges (onlyChanges_trans (onlyChanges_releaseBins (repriced s p) slot)
      (onlyChanges_freeRecord _ slot)) (by decide) le_rfl hs
  case transportRun => exact settingsOk_of_onlyChanges (onlyChanges_transportRun s) (by decide) le_rfl hs
  case transportStop => exact settingsOk_of_onlyChanges (onlyChanges_transportStop s) (by decide) (by simp) hs
  case stallFirst => exact settingsOk_of_onlyChanges (onlyChanges_stallFirst s) (by decide) (by simp) hs
  case headFault c => exact settingsOk_of_onlyChanges (onlyChanges_headFaulted s c) (by decide) (by simp [headFaulted]) hs
  case binCleared => exact settingsOk_of_onlyChanges (onlyChanges_binCleared s _ _) (by decide) le_rfl hs
  case attention link c => exact settingsOk_of_onlyChanges (onlyChanges_clearCause s link c) (by decide) (by simp) hs
  case windowExpired slot o _ _ _ _ =>
    exact settingsOk_of_onlyChanges (onlyChanges_expireWindow s slot) (by decide) (by simp) hs
  case rowPlaced fetch row => exact settingsOk_of_onlyChanges (onlyChanges_placeRow _ row) (by decide) (by simp) hs
  all_goals exact hs

/-- Settles O10. -/
theorem everyStepKeepsMagazinesAndSettings : Obligations.EveryStepKeepsMagazinesAndSettings := fun _ _ =>
  step_keeps (P := SettingsOk) (fun _ _ _ _ h => h) (fun _ _ hs hu => settingsOk_of_change hu hs)

end Sys2Proof.Settings

/-! The tables through every step (O12, O13, and the copy accounts and bins of O5 and O9): most operations change the records
of a table in place and keep what the invariants speak of; records are freed, and charges are added; the rest is a handful of
commands. -/

namespace Sys2Proof.Pool

open Sys2Proof.Machine Sys2Proof.Laws Sys2Proof.OrdersAndItems Sys2Proof.Magazines Sys2Proof.Sorting Sys2Proof.Till
open Sys2Proof.Steps

/-! ## Records changed in place -/

section
variable {α : Type} {keeps : α → α → Prop} {T U V : Table α}

/-- The records of a table changed in place, each as it may be. -/
def Recast (keeps : α → α → Prop) (T U : Table α) : Prop :=
  ∃ g : Nat → α → α, U = T.map (fun p => (p.1, g p.1 p.2)) ∧ ∀ k a, keeps a (g k a)

theorem Recast.refl (h : ∀ a, keeps a a) (T : Table α) : Recast keeps T T :=
  ⟨fun _ a => a, by simp, fun _ a => h a⟩

theorem Recast.trans (h : ∀ a b c, keeps a b → keeps b c → keeps a c) (hTU : Recast keeps T U)
    (hUV : Recast keeps U V) : Recast keeps T V := by
  obtain ⟨f, rfl, hf⟩ := hTU
  obtain ⟨g, rfl, hg⟩ := hUV
  exact ⟨fun k a => g k (f k a), by simp [Function.comp_def], fun k a => h _ _ _ (hf k a) (hg k _)⟩

theorem Recast.mono {more : α → α → Prop} (h : ∀ a b, keeps a b → more a b) (hTU : Recast keeps T U) :
    Recast more T U := by
  obtain ⟨g, rfl, hg⟩ := hTU
  exact ⟨g, rfl, fun k a => h _ _ (hg k a)⟩

theorem recast_modify (h : ∀ a, keeps a a) (k : Nat) {f : α → α} (hf : ∀ a, keeps a (f a)) :
    Recast keeps T (Table.modify T k f) := by
  refine ⟨fun j a => if j = k then f a else a, ?_, fun j a => ?_⟩
  · unfold Table.modify
    refine List.map_congr_left fun p _ => ?_
    split <;> simp_all
  · dsimp only
    split
    · exact hf a
    · exact h a

theorem recast_modifyAll (h : ∀ a, keeps a a) (ks : List Nat) {f : α → α} (hf : ∀ a, keeps a (f a)) :
    Recast keeps T (Table.modifyAll T ks f) := by
  refine ⟨fun j a => if ks.contains j then f a else a, ?_, fun j a => ?_⟩
  · unfold Table.modifyAll
    refine List.map_congr_left fun p _ => ?_
    dsimp only
    split <;> simp_all
  · dsimp only
    split
    · exact hf a
    · exact h a

theorem Recast.keys (h : Recast keeps T U) : U.map Prod.fst = T.map Prod.fst := by
  obtain ⟨g, rfl, -⟩ := h
  simp [Function.comp_def]

theorem Recast.get? (h : Recast keeps T U) (k : Nat) :
    (Table.get? T k = none ∧ Table.get? U k = none)
      ∨ ∃ a b, Table.get? T k = some a ∧ Table.get? U k = some b ∧ keeps a b := by
  obtain ⟨g, rfl, hg⟩ := h
  have hget (T : Table α) : Table.get? (T.map fun p => (p.1, g p.1 p.2)) k = (Table.get? T k).map (g k) := by
    induction T with
    | nil => rfl
    | cons p rest ih =>
      obtain ⟨j, a⟩ := p
      by_cases hj : j = k
      · subst hj; simp
      · simp [hj, ih]
  rw [hget]
  cases hT : Table.get? T k with
  | none => exact .inl ⟨rfl, rfl⟩
  | some a => exact .inr ⟨a, g k a, rfl, rfl, hg k a⟩

theorem Recast.mem (h : Recast keeps T U) {p : Nat × α} (hp : p ∈ U) : ∃ a, (p.1, a) ∈ T ∧ keeps a p.2 := by
  obtain ⟨g, rfl, hg⟩ := h
  obtain ⟨q, hq, rfl⟩ := List.mem_map.1 hp
  exact ⟨q.2, hq, hg _ _⟩

/-- In a table in rising order the record of a number is the only one listed with it. -/
theorem get?_of_mem (hrising : (T.map Prod.fst).Pairwise (· < ·)) {k : Nat} {a : α} (h : (k, a) ∈ T) :
    Table.get? T k = some a := by
  induction T with
  | nil => cases h
  | cons p rest ih =>
    obtain ⟨j, b⟩ := p
    simp only [List.map_cons, List.pairwise_cons] at hrising
    rcases List.mem_cons.1 h with heq | hrest
    · cases heq; simp
    · have hlt : j < k := hrising.1 k (List.mem_map_of_mem (f := Prod.fst) hrest)
      simp [hlt.ne, ih hrising.2 hrest]

theorem mem_iff_get? (hrising : (T.map Prod.fst).Pairwise (· < ·)) {k : Nat} {a : α} :
    (k, a) ∈ T ↔ Table.get? T k = some a := ⟨get?_of_mem hrising, mem_of_get?⟩

end

/-! ## The invariants by slots and record numbers -/

theorem nodup_of_rising {α : Type} {T : Table α} (hrising : (T.map Prod.fst).Pairwise (· < ·)) :
    (T.map Prod.fst).Nodup := hrising.imp fun h => h.ne

/-- R1, R3 by slots. -/
theorem ticketsOk_iff (s : State) : TicketsOk s ↔
    (s.orderTable.orders.map Prod.fst).Pairwise (· < ·)
      ∧ (∀ slot o, s.order? slot = some o → slot < 64 ∧ 1 ≤ o.ticket ∧ o.ticket ≤ 9999)
      ∧ (∀ slot slot' o o', s.order? slot = some o → s.order? slot' = some o' → o.ticket = o'.ticket → slot = slot')
      ∧ 1 ≤ s.orderTable.nextTicket ∧ s.orderTable.nextTicket ≤ 9999 := by
  unfold TicketsOk
  refine and_congr_right fun hrising => and_congr ?_ (and_congr_left fun _ => ?_)
  · simp only [Prod.forall, mem_iff_get? hrising]
    rfl
  · rw [List.nodup_map_iff_inj_on (nodup_of_rising hrising).of_map]
    simp only [Prod.forall, mem_iff_get? hrising, Prod.mk.injEq]
    constructor
    · intro h slot slot' o o' ho ho' hticket
      exact (h slot o ho slot' o' ho' hticket).1
    · intro h slot o ho slot' o' ho' hticket
      obtain rfl := h slot slot' o o' ho ho' hticket
      exact ⟨rfl, Option.some.inj (ho.symm.trans ho')⟩

/-- The charged sums of listed item records, added up. -/
def chargedSum (items : Table Item) (refs : List Nat) : Nat :=
  ((refs.filterMap (Table.get? items)).map fun i => i.charged).sum

/-- The lists of the orders hold the keys of the pool once each: no list names a record twice, no two lists name one record,
and the records named are those in use. -/
theorem perm_keys_iff {orders : Table Order} {items : Table Item} (horders : (orders.map Prod.fst).Pairwise (· < ·))
    (hitems : (items.map Prod.fst).Pairwise (· < ·)) :
    (orders.flatMap fun p => p.2.items).Perm (items.map Prod.fst) ↔
      (∀ r, (Table.get? items r).isSome = true ↔ ∃ slot o, Table.get? orders slot = some o ∧ r ∈ o.items)
        ∧ (∀ slot slot' o o' r, Table.get? orders slot = some o → Table.get? orders slot' = some o' → r ∈ o.items →
            r ∈ o'.items → slot = slot')
        ∧ ∀ slot o, Table.get? orders slot = some o → o.items.Nodup := by
  have hmem (r : Nat) : r ∈ (orders.flatMap fun p => p.2.items) ↔
      ∃ slot o, Table.get? orders slot = some o ∧ r ∈ o.items := by
    simp only [List.mem_flatMap, Prod.exists, mem_iff_get? horders]
  have hnodup : (orders.flatMap fun p => p.2.items).Nodup ↔
      (∀ slot slot' o o' r, Table.get? orders slot = some o → Table.get? orders slot' = some o' → r ∈ o.items →
            r ∈ o'.items → slot = slot')
        ∧ ∀ slot o, Table.get? orders slot = some o → o.items.Nodup := by
    rw [List.nodup_flatMap, and_comm]
    simp only [Prod.forall, mem_iff_get? horders]
    refine and_congr_left fun _ => ⟨fun h slot slot' o o' r ho ho' hr hr' => ?_, fun h => ?_⟩
    · by_contra hne
      have : Std.Symm (Function.onFun List.Disjoint fun p : Nat × Order => p.2.items) := ⟨fun _ _ h => h.symm⟩
      exact h.forall (mem_of_get? ho) (mem_of_get? ho') (by simp [hne]) hr hr'
    · refine (nodup_of_rising horders).of_map.pairwise_of_forall_ne fun p hp q hq hne r hr hr' => hne ?_
      have ho := get?_of_mem horders (k := p.1) (a := p.2) hp
      have ho' := get?_of_mem horders (k := q.1) (a := q.2) hq
      have hslot := h _ _ _ _ r ho ho' hr hr'
      exact Prod.ext hslot (Option.some.inj (ho.symm.trans (hslot ▸ ho')))
  constructor
  · intro hperm
    obtain ⟨hdisjoint, hlists⟩ := hnodup.1 (hperm.nodup_iff.2 (nodup_of_rising hitems))
    exact ⟨fun r => by rw [get?_isSome_iff, ← hperm.mem_iff, hmem], hdisjoint, hlists⟩
  · rintro ⟨hkeys, hdisjoint, hlists⟩
    refine (List.perm_ext_iff_of_nodup (hnodup.2 ⟨hdisjoint, hlists⟩) (nodup_of_rising hitems)).2 fun r => ?_
    rw [hmem, ← hkeys, get?_isSome_iff]

/-- R2, R163 by slots and record numbers. -/
theorem poolAndGross_iff (s : State) : PoolAndGross s ↔
    (s.orderTable.items.map Prod.fst).Pairwise (· < ·)
      ∧ (∀ r, (Table.get? s.orderTable.items r).isSome = true → r < 512)
      ∧ (s.orderTable.orders.map Prod.fst).Pairwise (· < ·)
      ∧ (∀ r, (Table.get? s.orderTable.items r).isSome = true ↔ ∃ slot o, s.order? slot = some o ∧ r ∈ o.items)
      ∧ (∀ slot slot' o o' r, s.order? slot = some o → s.order? slot' = some o' → r ∈ o.items → r ∈ o'.items →
          slot = slot')
      ∧ (∀ slot o, s.order? slot = some o → o.items.Nodup ∧ o.items.length ≤ 24 ∧ o.gross ≤ 9999999
          ∧ o.gross = chargedSum s.orderTable.items o.items) := by
  unfold PoolAndGross
  refine and_congr_right fun hitems => and_congr ?_ (and_congr_right fun horders => ?_)
  · simp only [get?_isSome_iff, List.mem_map, forall_exists_index, and_imp]
    exact ⟨fun h r p hp hr => hr ▸ h p hp, fun h p hp => h p.1 p hp rfl⟩
  · rw [perm_keys_iff horders hitems]
    simp only [Prod.forall, mem_iff_get? horders]
    constructor
    · rintro ⟨⟨hkeys, hdisjoint, hlists⟩, hrest⟩
      exact ⟨hkeys, hdisjoint, fun slot o ho => ⟨hlists slot o ho, hrest slot o ho⟩⟩
    · rintro ⟨hkeys, hdisjoint, hrest⟩
      exact ⟨⟨hkeys, hdisjoint, fun slot o ho => (hrest slot o ho).1⟩, fun slot o ho => (hrest slot o ho).2⟩

/-! ## Bins by their states (R137) -/

theorem release_ok {b : Bin} (h : b.ok) : b.release.ok := by
  obtain ⟨hmin, hmax, hcount, hfree, hclear, howned, hfilling, hquiet⟩ := h
  unfold Bin.release
  split
  · next hpos =>
    have hticket : b.ticket.isSome = true := by
      cases hstate : b.state with
      | free => exact absurd (hfree hstate).1 (by omega)
      | clearance => exact (hclear hstate).2.1
      | filling => exact (howned (.inl hstate)).1
      | full => exact (howned (.inr (.inl hstate))).1
      | waiting => exact (howned (.inr (.inr hstate))).1
    exact ⟨hmin, hmax, hcount, by simp, fun _ => ⟨hpos, hticket, rfl⟩, by simp, by simp, by simp⟩
  · next hzero => exact ⟨hmin, hmax, hcount, fun _ => ⟨by simpa using hzero, rfl, rfl⟩, by simp, by simp, by simp, by simp⟩

theorem toWaiting_ok {b : Bin} (now : Word32) (minutes : Nat) (h : b.ok) : (b.toWaiting now minutes).ok := by
  unfold Bin.toWaiting
  split
  · next hstate =>
    obtain ⟨hmin, hmax, hcount, -, -, howned, -, -⟩ := h
    exact ⟨hmin, hmax, hcount, by simp, by simp, fun _ => howned (by tauto), by simp, by simp⟩
  · exact h

theorem receive_ok {b : Bin} {g : PrintGroup} (h : b.ok) (htakes : b.takes g = true) : b.receive.ok := by
  obtain ⟨hmin, hmax, -, -, -, howned, -, hquiet⟩ := h
  obtain ⟨⟨hstate, -⟩, hroom⟩ : (b.state = .filling ∧ b.group.accepts g = true) ∧ b.count < b.capacity := by
    simpa [Bin.takes] using htakes
  have hown := howned (.inl hstate)
  have hq := hquiet (by simp [hstate])
  by_cases hfull : b.capacity ≤ b.count + 1
  · refine ⟨hmin, hmax, hroom, ?_, ?_, fun _ => hown, ?_, fun _ => hq⟩ <;> simp [Bin.receive, hfull]
  · refine ⟨hmin, hmax, hroom, ?_, ?_, fun _ => hown, ?_, fun _ => hq⟩ <;> simp [Bin.receive, hfull, hstate]
    omega

theorem allocate_receive_ok {b : Bin} (ticket slot : Nat) (h : b.ok) : (b.allocate ticket slot).receive.ok := by
  obtain ⟨hmin, hmax, -⟩ := h
  by_cases hfull : b.capacity ≤ 1
  · refine ⟨hmin, hmax, ?_, ?_, ?_, ?_, ?_, ?_⟩ <;> simp [Bin.receive, Bin.allocate, hfull, hmin]
  · refine ⟨hmin, hmax, ?_, ?_, ?_, ?_, ?_, ?_⟩ <;> simp [Bin.receive, Bin.allocate, hfull, hmin]
    omega

theorem emptied_ok {b : Bin} (h : b.ok) : b.emptied.ok := by
  obtain ⟨hmin, hmax, hcount, hfree, hclear, howned, hfilling, hquiet⟩ := h
  unfold Bin.emptied
  split
  · exact ⟨hmin, hmax, hcount, hfree, hclear, howned, hfilling, hquiet⟩
  · next hstate =>
    exact ⟨hmin, hmax, Nat.zero_le _, by simp, by simp, fun _ => howned (.inl hstate), fun _ => hmin,
      fun _ => hquiet (by simp [hstate])⟩
  · next hstate =>
    exact ⟨hmin, hmax, Nat.zero_le _, by simp, by simp, fun _ => howned (.inr (.inl hstate)), fun _ => hmin,
      fun _ => hquiet (by simp [hstate])⟩
  · exact ⟨hmin, hmax, Nat.zero_le _, by simp, by simp, by simp, by simp, by simp⟩
  · exact ⟨hmin, hmax, Nat.zero_le _, by simp, by simp, by simp, by simp, by simp⟩

theorem binsOk_of_forall {s t : State} (hs : BinsOk s) (hkeys : t.sort.bins.map Prod.fst = s.sort.bins.map Prod.fst)
    (h : ∀ n b, Table.get? t.sort.bins n = some b → b.ok) : BinsOk t := by
  refine ⟨hkeys.trans hs.1, fun p hp => h p.1 p.2 (get?_of_mem ?_ hp)⟩
  rw [hkeys, hs.1]
  decide

theorem bin_ok {s : State} (hs : BinsOk s) {n : Nat} {b : Bin} (hb : Table.get? s.sort.bins n = some b) : b.ok :=
  hs.2 _ (mem_of_get? hb)

theorem binsOk_modifyAll {s t : State} (hs : BinsOk s) {ks : List Nat} {f : Bin → Bin}
    (ht : t.sort.bins = Table.modifyAll s.sort.bins ks f) (hf : ∀ b, b.ok → (f b).ok) : BinsOk t := by
  refine binsOk_of_forall hs (by rw [ht, keys_modifyAll]) fun n b hb => ?_
  rw [ht, get?_modifyAll] at hb
  split at hb
  · obtain ⟨a, ha, rfl⟩ := Option.map_eq_some_iff.1 hb
    exact hf a (bin_ok hs ha)
  · exact bin_ok hs hb

theorem binsOk_modify {s t : State} (hs : BinsOk s) {k : Nat} {f : Bin → Bin}
    (ht : t.sort.bins = Table.modify s.sort.bins k f)
    (hf : ∀ b, Table.get? s.sort.bins k = some b → b.ok → (f b).ok) : BinsOk t := by
  refine binsOk_of_forall hs (by rw [ht, keys_modify]) fun n b hb => ?_
  rw [ht, get?_modify] at hb
  split at hb
  · obtain ⟨a, ha, rfl⟩ := Option.map_eq_some_iff.1 hb
    exact hf a ha (bin_ok hs ha)
  · exact bin_ok hs hb

/-! ## Moves -/

/-- What a change of an order record keeps for the pool. -/
def OrderKeeps (o p : Order) : Prop := p.ticket = o.ticket ∧ p.items = o.items ∧ p.gross = o.gross

/-- R13: the copy account of one item record. -/
def Balanced (i : Item) : Prop := i.ordered = i.waiting + i.onWeb + i.delivered + i.writtenOff

/-- What a change of an item record keeps for the pool. -/
def ItemKeeps (i j : Item) : Prop := j.charged = i.charged ∧ (Balanced i → Balanced j)

/-- What the operations of the device do to the tables of orders, items and bins. -/
inductive Moves : State → State → Prop
  | recast {s t : State} (horders : Recast OrderKeeps s.orderTable.orders t.orderTable.orders)
      (hitems : Recast ItemKeeps s.orderTable.items t.orderTable.items)
      (hnext : t.orderTable.nextTicket = s.orderTable.nextTicket) (hbins : BinsOk s → BinsOk t) : Moves s t
  | free (s : State) (slot : Nat) : Moves s (s.freeRecord slot)
  | charge {s : State} {slot n c : Nat} {o : Order} {i : Item} (p : PriceUnit) (ho : s.order? slot = some o)
      (hi : s.orderTable.item? slot n = some i) (hc : c ≤ 9999999 - o.gross) :
      Moves s { s with
        orderTable := (s.orderTable.modifyItem slot n (Item.addCharge c)).modifyOrder slot (Order.addCharge c)
        price := p }
  | trans {s t u : State} (hst : Moves s t) (htu : Moves t u) : Moves s u

theorem orderKeeps_refl (o : Order) : OrderKeeps o o := ⟨rfl, rfl, rfl⟩

theorem itemKeeps_refl (i : Item) : ItemKeeps i i := ⟨rfl, id⟩

/-- An operation that leaves the tables alone. -/
theorem Moves.same {s t : State} (horders : t.orderTable.orders = s.orderTable.orders)
    (hitems : t.orderTable.items = s.orderTable.items) (hnext : t.orderTable.nextTicket = s.orderTable.nextTicket)
    (hbins : t.sort.bins = s.sort.bins) : Moves s t :=
  .recast (horders ▸ .refl orderKeeps_refl _) (hitems ▸ .refl itemKeeps_refl _) hnext
    (fun h => by unfold BinsOk at *; rwa [hbins])

theorem Moves.refl (s : State) : Moves s s := .same rfl rfl rfl rfl

theorem Moves.order (s : State) (slot : Nat) {f : Order → Order} (hf : ∀ o, OrderKeeps o (f o)) :
    Moves s (s.modifyOrder slot f) :=
  .recast (recast_modify orderKeeps_refl slot hf) (.refl itemKeeps_refl _) rfl id

theorem Moves.of_onlyChanges {parts : List Machine.Part} {s t : State} (h : OnlyChanges parts s t)
    (hparts : ∀ p ∈ ([.orders, .items, .ticketCounter, .bins] : List Machine.Part), p ∉ parts) : Moves s t := by
  simp only [List.forall_mem_cons] at hparts
  obtain ⟨horders, hitems, hnext, hbins, -⟩ := hparts
  exact .same (h _ horders) (h _ hitems) (h _ hnext) (h _ hbins)

theorem moves_items {s t : State} {items : Table Item} (hitems : Recast ItemKeeps s.orderTable.items items)
    (ht : t.orderTable = { s.orderTable with items := items }) (hbins : t.sort.bins = s.sort.bins) : Moves s t :=
  .recast (by rw [ht]; exact .refl orderKeeps_refl _) (by rw [ht]; exact hitems) (by rw [ht])
    (fun h => by unfold BinsOk at *; rwa [hbins])

theorem recast_modifyItem (T : OrderTable) (slot n : Nat) {f : Item → Item} (hf : ∀ i, ItemKeeps i (f i)) :
    Recast ItemKeeps T.items (T.modifyItem slot n f).items := by
  unfold OrderTable.modifyItem
  dsimp only
  split
  · exact recast_modify itemKeeps_refl _ hf
  · exact .refl itemKeeps_refl _

/-! ### The movements of the copy account -/

theorem expose_keeps (i : Item) : ItemKeeps i i.expose := by
  unfold Item.expose
  split
  · exact itemKeeps_refl i
  · exact ⟨rfl, fun h => by simp only [Balanced] at *; omega⟩

theorem deliver_keeps (i : Item) : ItemKeeps i i.deliver := by
  unfold Item.deliver
  split
  · exact itemKeeps_refl i
  · exact ⟨rfl, fun h => by simp only [Balanced] at *; omega⟩

theorem remake_keeps (i : Item) : ItemKeeps i i.remake := by
  unfold Item.remake
  split
  · exact itemKeeps_refl i
  · exact ⟨rfl, fun h => by simp only [Balanced] at *; omega⟩

theorem writeOff_keeps (i : Item) : ItemKeeps i i.writeOff := by
  unfold Item.writeOff
  split
  · exact itemKeeps_refl i
  · exact ⟨rfl, fun h => by simp only [Balanced] at *; omega⟩

theorem writeOffWaiting_keeps (i : Item) : ItemKeeps i i.writeOffWaiting :=
  ⟨rfl, fun h => by simp only [Balanced, Item.writeOffWaiting] at *; omega⟩

theorem struck_keeps (i : Item) : ItemKeeps i i.struck := writeOffWaiting_keeps i

/-! ### Completion, withdrawal, disposal -/

theorem moves_delist (s : State) (slot : Nat) : Moves s (s.delist slot) :=
  .recast (recast_modify orderKeeps_refl slot (f := fun o => { o with paperWait := none }) fun _ => ⟨rfl, rfl, rfl⟩) (.refl itemKeeps_refl _) rfl id

theorem moves_binsToWaiting (s : State) (slot : Nat) : Moves s (s.binsToWaiting slot) :=
  .recast (.refl orderKeeps_refl _) (.refl itemKeeps_refl _) rfl
    fun h => binsOk_modifyAll h rfl fun _ hb => toWaiting_ok _ _ hb

theorem moves_releaseBins (s : State) (slot : Nat) : Moves s (s.releaseBins slot) :=
  .recast (recast_modify orderKeeps_refl slot (f := fun o => { o with bins := [] }) fun _ => ⟨rfl, rfl, rfl⟩) (.refl itemKeeps_refl _) rfl
    fun h => binsOk_modifyAll h rfl fun _ hb => release_ok hb

theorem moves_completeOrder (s : State) (slot : Nat) : Moves s (s.completeOrder slot) := by
  have habort (t : State) : Moves t (t.abortTrailingWorkOf slot) := .same (by simp) (by simp) (by simp) (by simp)
  unfold State.completeOrder
  refine .trans (.trans (.trans ?_ (moves_delist _ slot)) (moves_binsToWaiting _ slot)) (habort _)
  exact .order s slot (f := fun o => { o with state := .complete, completeUnreported := true }) fun _ => ⟨rfl, rfl, rfl⟩

theorem moves_drainOrder (s : State) (slot : Nat) (o : Order) : Moves s (s.drainOrder slot o) := by
  unfold State.drainOrder
  split
  · exact .order s slot fun _ => ⟨rfl, rfl, rfl⟩
  · split
    · exact .free s slot
    · exact .refl s

theorem moves_accountCheck (s : State) (slot : Nat) : Moves s (s.accountCheck slot) := by
  unfold State.accountCheck
  split
  · exact .refl s
  · split
    case h_4 =>
      split
      · exact moves_drainOrder s slot _
      · exact .refl s
    case h_5 => exact .refl s
    case h_6 => exact .refl s
    all_goals
      split
      · exact moves_completeOrder s slot
      · exact .refl s

theorem moves_withdraw (s : State) (slot : Nat) (q : Requester) (partially : Bool) :
    Moves s (s.withdraw slot q partially) := by
  unfold State.withdraw
  dsimp only
  refine .trans (.trans ?_ (moves_releaseBins _ slot)) (moves_accountCheck _ slot)
  refine .trans (.order s slot (f := fun o =>
    { o with state := .withdrawn, requester := q, collectedPartial := o.collectedPartial || partially
             completeUnreported := false }) fun _ => ⟨rfl, rfl, rfl⟩) ?_
  generalize s.modifyOrder slot _ = s1
  refine .trans (t := { s1 with orderTable := s1.orderTable.modifyItems slot Item.writeOffWaiting })
    (moves_items (recast_modifyAll itemKeeps_refl _ writeOffWaiting_keeps) rfl rfl) ?_
  generalize ({ s1 with orderTable := s1.orderTable.modifyItems slot Item.writeOffWaiting } : State) = s2
  exact .trans (moves_delist s2 slot) (.same (by simp) (by simp) (by simp) (by simp))

theorem moves_disposeCopy (s : State) (slot n : Nat) (rejected : Bool) : Moves s (s.disposeCopy slot n rejected).1 := by
  unfold State.disposeCopy
  dsimp only
  refine .trans ?_ (moves_accountCheck _ slot)
  have hmoved (again : Bool) (i : Item) : ItemKeeps i ((if again then Item.remake else Item.writeOff) i) := by
    cases again
    · exact writeOff_keeps i
    · exact remake_keeps i
  exact moves_items (recast_modifyItem s.orderTable slot n (hmoved _)) rfl rfl

theorem moves_disposeSegments (s : State) (rejected : Bool) (segments : List Segment) :
    Moves s (s.disposeSegments rejected segments).1 := by
  induction segments generalizing s with
  | nil => exact .refl s
  | cons g rest ih =>
    unfold State.disposeSegments
    split
    · exact .trans (moves_disposeCopy s _ _ _) (ih _)
    · exact ih s

theorem moves_clearMap (s : State) : Moves s s.clearMap.1 :=
  .trans (t := { s with web := { s.web with map := [], unlisted := none } }) (.same rfl rfl rfl rfl)
    (.trans (moves_disposeSegments _ _ _) (.same rfl rfl rfl rfl))

theorem moves_faultOrder (s : State) (slot n : Nat) : Moves s (s.faultOrder slot n) := by
  unfold State.faultOrder
  dsimp only
  refine .trans ?_ (moves_accountCheck _ slot)
  have hstruck : Moves s
      { s with orderTable := (s.orderTable.modifyItem slot n Item.struck).modifyOrder slot Order.struck } :=
    .recast (recast_modify orderKeeps_refl slot (f := Order.struck) fun _ => ⟨rfl, rfl, rfl⟩)
      (recast_modifyItem s.orderTable slot n struck_keeps) rfl id
  refine .trans hstruck ?_
  split
  · split
    · exact .trans (moves_delist _ slot) (.of_onlyChanges (onlyChanges_voidSelectionOf _ slot) (by decide))
    · exact .refl _
  · exact .refl _

theorem moves_rasterFault (s : State) (f : Fetch) (cause : FaultCause) : Moves s (s.rasterFault f cause) := by
  unfold State.rasterFault
  split
  · split
    · exact .trans (.same (by simp) (by simp) (by simp) (by simp)) (moves_faultOrder _ _ _)
    · exact .refl s
  · exact .refl s

/-! ### Delivery -/

theorem openBin?_takes {sc : SortControl} {bins : List Nat} {g : PrintGroup} {n : Nat}
    (h : sc.openBin? bins g = some n) : n ∈ bins ∧ ∃ b, Table.get? sc.bins n = some b ∧ b.takes g = true := by
  have hpick := List.find?_some h
  refine ⟨List.mem_of_find?_eq_some h, ?_⟩
  split at hpick
  · next b hb => exact ⟨b, hb, hpick⟩
  · cases hpick

theorem moves_placePrint (s : State) (slot : Nat) (o : Order) (g : PrintGroup) : Moves s (s.placePrint slot o g).1 := by
  unfold State.placePrint
  split
  · next n hopen =>
    obtain ⟨-, b, hb, htakes⟩ := openBin?_takes hopen
    refine .recast (.refl orderKeeps_refl _) (.refl itemKeeps_refl _) rfl fun hs => binsOk_modify hs rfl fun b' hb' hok => ?_
    obtain rfl : b = b' := Option.some.inj (hb.symm.trans hb')
    exact receive_ok hok htakes
  · split
    · next n _ =>
      exact .recast (recast_modify orderKeeps_refl slot (f := fun o => { o with bins := o.bins ++ [n] })
          fun _ => ⟨rfl, rfl, rfl⟩) (.refl itemKeeps_refl _) rfl
        fun hs => binsOk_modify hs rfl fun b _ hok => allocate_receive_ok o.ticket slot hok
    · exact .recast (recast_modify orderKeeps_refl slot (f := fun o =>
        { o with overflow := satAdd 255 o.overflow 1, shortageUnreported := true }) fun _ => ⟨rfl, rfl, rfl⟩)
        (.refl itemKeeps_refl _) rfl id

theorem moves_chargePrint (s : State) (slot n : Nat) : Moves s (s.chargePrint slot n) := by
  unfold State.chargePrint
  split
  · next o i ho hi => exact .charge _ ho hi (Nat.min_le_right _ _)
  · exact .refl s

theorem moves_deliverPrint (s : State) (slot n : Nat) (o : Order) (e : SizeEntry) :
    Moves s (s.deliverPrint slot n o e).1 := by
  unfold State.deliverPrint
  dsimp only
  refine .trans (.trans (.trans (moves_placePrint s slot o e.group) ?_) (moves_chargePrint _ slot n))
    (moves_accountCheck _ slot)
  exact moves_items (recast_modifyItem _ slot n deliver_keeps) rfl rfl

/-! ### Cuts and strobes -/

theorem moves_popSegments (s : State) (k : Nat) : Moves s (s.popSegments k) := .same rfl rfl rfl rfl

theorem moves_rejectPiece (s : State) (popped : List Segment) : Moves s (s.rejectPiece popped).1 :=
  .trans (t := s.countReject.notePatches popped) (.same rfl rfl rfl rfl) (moves_disposeSegments _ _ _)

theorem moves_matchedCut (s : State) (k : Nat) (d : Int) : Moves s (s.matchedCut k d).1 := by
  unfold State.matchedCut
  split
  · split
    · exact .trans (moves_popSegments s 1) (moves_deliverPrint _ _ _ _ _)
    · exact .trans (moves_popSegments s 1) (moves_rejectPiece _ _)
  · exact .trans (moves_popSegments s _) (moves_rejectPiece _ _)

theorem moves_cutTaken (s : State) : Moves s (cutTaken s) := by
  have hjudge (t : State) : Moves t t.judgeCut.1 := by
    unfold State.judgeCut
    split
    · dsimp only
      split
      · exact moves_matchedCut t _ _
      · exact .same rfl rfl rfl rfl
    · exact .same rfl rfl rfl rfl
  have hfault (t : State) : Moves t t.faultCut.1 := by
    unfold State.faultCut
    split
    · split
      · exact .trans (moves_popSegments t 1) (moves_rejectPiece _ _)
      · exact .same rfl rfl rfl rfl
    · exact .same rfl rfl rfl rfl
  have htake : Moves s s.takeCut.1 := by
    unfold State.takeCut
    split
    · exact hfault s
    · exact .trans (.of_onlyChanges (onlyChanges_detectMissedCuts s) (by decide)) (hjudge _)
  exact .trans htake (.same rfl rfl rfl rfl)

theorem moves_beginSelection (s : State) : Moves s s.beginSelection := by
  unfold State.beginSelection
  split
  · exact .same rfl rfl rfl rfl
  · next slot n copy _ =>
    exact .recast (recast_modify orderKeeps_refl slot (f := Order.begun) fun _ => ⟨rfl, rfl, rfl⟩)
      (recast_modifyItem s.orderTable slot n expose_keeps) rfl id
  · exact .refl s

theorem moves_strobe (s : State) : Moves s s.strobe := by
  have hplace (t : State) (verdict : StartVerdict) : Moves t (t.placeStrobe verdict) := by
    unfold State.placeStrobe
    split
    · exact moves_beginSelection t
    · split <;> exact .same rfl rfl rfl rfl
  have hvoid (t : State) (voids : Prop) [Decidable voids] : Moves t (if voids then t.voidSelection else t) := by
    split
    · exact .of_onlyChanges (onlyChanges_voidSelection t) (by decide)
    · exact .refl t
  have hodometer (t : State) : Moves t { t with web := { t.web with odometer := t.web.odometer + 1, mark := false } } :=
    .same rfl rfl rfl rfl
  have hplaced : Moves s (strobePlaced s) :=
    .trans (.trans (.trans (t := s.dropZeroLeader) (.same rfl rfl rfl rfl)
      (hvoid _ (s.dropZeroLeader.startVerdict = .misfit))) (hodometer _)) (hplace _ _)
  have hexposed : Moves s (strobePlaced s).exposeStrobe :=
    .trans hplaced (.of_onlyChanges (onlyChanges_exposeStrobe _) (by decide))
  have hlined : Moves s (strobeLined s) := .trans hexposed (.same rfl rfl rfl rfl)
  exact .trans hlined (.of_onlyChanges (onlyChanges_detectMissedCuts (strobeLined s)) (by decide))

theorem moves_attempt (s : State) (active : Magazine) : Moves s (s.attempt active) := by
  have hmark (t : State) (slot : Nat) (need : Option PaperNeed) : Moves t (t.markPaper slot need) :=
    .order t slot (f := fun o => { o with paperWait := need }) fun _ => ⟨rfl, rfl, rfl⟩
  have hscan (t : State) (classes : List OrderClass) : Moves t (t.scanClasses active classes) := by
    induction classes generalizing t with
    | nil => exact .refl t
    | cons c rest ih =>
      unfold State.scanClasses
      split
      · next slot n i e _ =>
        exact .trans (hmark t slot none) (.same (by simp [State.selectPrint]) (by simp [State.selectPrint])
          (by simp [State.selectPrint]) (by simp [State.selectPrint]))
      · split
        · exact ih t
        · split
          · exact .trans (hmark t _ none) (.same rfl rfl rfl rfl)
          · exact .trans (hmark t _ _) (ih _)
  unfold State.attempt
  dsimp only
  split
  · exact .same rfl rfl rfl rfl
  · exact .trans (t := { s with scheduler := { s.scheduler with attemptCause := false } }) (.same rfl rfl rfl rfl)
      (hscan _ _)

theorem moves_clearCause (s : State) (link : Link) (c : Cause) : Moves s (s.clearCause link c) := by
  have hflag (t : State) (slot : Nat) : Moves t (t.modifyOrder slot c.clearFlag) :=
    .order t slot fun o => by cases c <;> exact ⟨rfl, rfl, rfl⟩
  unfold State.clearCause
  split
  · split
    · exact hflag s _
    · exact .refl s
  · split
    · exact hflag s _
    · exact .refl s
  · split
    · exact hflag s _
    · exact .refl s
  · split
    · exact .trans (hflag s _) (.free _ _)
    · exact .refl s
  · exact .same rfl rfl rfl rfl
  all_goals exact .refl s

/-! ## Invariants through moves -/

/-- A change of order records that keeps their tickets. -/
def TicketKeeps (o p : Order) : Prop := p.ticket = o.ticket

theorem ticketsOk_of_recast {s t : State} (horders : Recast TicketKeeps s.orderTable.orders t.orderTable.orders)
    (hnext : t.orderTable.nextTicket = s.orderTable.nextTicket) (hs : TicketsOk s) : TicketsOk t := by
  rw [ticketsOk_iff] at hs ⊢
  obtain ⟨hrising, hrange, hunique, hcounter⟩ := hs
  have hback (slot : Nat) (p : Order) (hp : t.order? slot = some p) :
      ∃ o, s.order? slot = some o ∧ p.ticket = o.ticket := by
    rcases horders.get? slot with ⟨-, hnone⟩ | ⟨o, p', ho, hp', hticket⟩
    · exact absurd (hnone.symm.trans hp) (by simp)
    · obtain rfl : p' = p := Option.some.inj (hp'.symm.trans hp)
      exact ⟨o, ho, hticket⟩
  refine ⟨by rw [horders.keys]; exact hrising, fun slot p hp => ?_, fun slot slot' p p' hp hp' hticket => ?_,
    by rw [hnext]; exact hcounter⟩
  · obtain ⟨o, ho, hticket⟩ := hback slot p hp
    rw [hticket]
    exact hrange slot o ho
  · obtain ⟨o, ho, hticket1⟩ := hback slot p hp
    obtain ⟨o', ho', hticket2⟩ := hback slot' p' hp'
    exact hunique slot slot' o o' ho ho' (by rw [← hticket1, ← hticket2, hticket])

theorem order?_freeRecord (s : State) (slot k : Nat) :
    (s.freeRecord slot).order? k = if k = slot then none else s.order? k := by
  unfold State.order? State.freeRecord
  by_cases hk : k = slot
  · subst hk; simp
  · simp [hk, get?_erase_of_ne hk]

theorem ticketsOk_freeRecord {s : State} (slot : Nat) (hs : TicketsOk s) : TicketsOk (s.freeRecord slot) := by
  rw [ticketsOk_iff] at hs ⊢
  obtain ⟨hrising, hrange, hunique, hcounter⟩ := hs
  have hback (k : Nat) (o : Order) (h : (s.freeRecord slot).order? k = some o) : s.order? k = some o := by
    rw [order?_freeRecord] at h
    split at h
    · cases h
    · exact h
  exact ⟨keys_erase_rising hrising, fun k o ho => hrange k o (hback k o ho),
    fun k k' o o' ho ho' => hunique k k' o o' (hback k o ho) (hback k' o' ho'), hcounter⟩

theorem ticketKeeps_refl (o : Order) : TicketKeeps o o := rfl

theorem ticketsOk_of_moves {s t : State} (h : Moves s t) (hs : TicketsOk s) : TicketsOk t := by
  induction h with
  | recast horders _ hnext _ => exact ticketsOk_of_recast (horders.mono fun _ _ h => h.1) hnext hs
  | free s slot => exact ticketsOk_freeRecord slot hs
  | charge p ho hi hc => exact ticketsOk_of_recast (recast_modify ticketKeeps_refl _ fun _ => rfl) rfl hs
  | trans _ _ ih ih' => exact ih' (ih hs)

/-! ### Charged sums -/

theorem chargedSum_congr {items items' : Table Item} {refs : List Nat}
    (h : ∀ r ∈ refs, ((Table.get? items' r).map fun i => i.charged) = (Table.get? items r).map fun i => i.charged) :
    chargedSum items' refs = chargedSum items refs := by
  induction refs with
  | nil => rfl
  | cons r rest ih =>
    have hr := h r (by simp)
    have hrest := ih fun k hk => h k (by simp [hk])
    unfold chargedSum at hrest ⊢
    cases hi : Table.get? items r <;> cases hj : Table.get? items' r <;> simp_all

theorem chargedSum_recast {items items' : Table Item} (h : Recast ItemKeeps items items') (refs : List Nat) :
    chargedSum items' refs = chargedSum items refs := by
  refine chargedSum_congr fun r _ => ?_
  rcases h.get? r with ⟨ha, hb⟩ | ⟨i, j, ha, hb, hcharged, -⟩
  · rw [ha, hb]
  · simp [ha, hb, hcharged]

theorem chargedSum_cons (items : Table Item) (r : Nat) (rest : List Nat) :
    chargedSum items (r :: rest) = ((Table.get? items r).map fun i => i.charged).getD 0 + chargedSum items rest := by
  unfold chargedSum
  cases h : Table.get? items r <;> simp [h]

theorem chargedSum_addCharge {items : Table Item} {refs : List Nat} {r c : Nat} {i : Item} (hnodup : refs.Nodup)
    (hr : r ∈ refs) (hi : Table.get? items r = some i) :
    chargedSum (Table.modify items r (Item.addCharge c)) refs = chargedSum items refs + c := by
  induction refs with
  | nil => cases hr
  | cons k rest ih =>
    obtain ⟨hk, hrest⟩ := List.nodup_cons.1 hnodup
    rw [chargedSum_cons, chargedSum_cons]
    rcases List.mem_cons.1 hr with rfl | hin
    · have hsame : chargedSum (Table.modify items r (Item.addCharge c)) rest = chargedSum items rest :=
        chargedSum_congr fun j hj => by rw [get?_modify_of_ne (ne_of_mem_of_not_mem hj hk)]
      simp only [get?_modify_self, hi, Option.map_some, hsame, Item.addCharge, Option.getD_some]
      omega
    · have hne : k ≠ r := fun h => hk (h ▸ hin)
      rw [get?_modify_of_ne hne, ih hrest hin]
      omega

theorem pool_of_recast {s t : State} (horders : Recast OrderKeeps s.orderTable.orders t.orderTable.orders)
    (hitems : Recast ItemKeeps s.orderTable.items t.orderTable.items) (hs : PoolAndGross s) : PoolAndGross t := by
  rw [poolAndGross_iff] at hs ⊢
  obtain ⟨hrising, hrange, horising, hkeys, hdisjoint, hlists⟩ := hs
  have hback (slot : Nat) (p : Order) (hp : t.order? slot = some p) :
      ∃ o, s.order? slot = some o ∧ p.items = o.items ∧ p.gross = o.gross := by
    rcases horders.get? slot with ⟨-, hnone⟩ | ⟨o, p', ho, hp', -, hkeep⟩
    · exact absurd (hnone.symm.trans hp) (by simp)
    · obtain rfl : p' = p := Option.some.inj (hp'.symm.trans hp)
      exact ⟨o, ho, hkeep⟩
  have hforth (slot : Nat) (o : Order) (ho : s.order? slot = some o) :
      ∃ p, t.order? slot = some p ∧ p.items = o.items := by
    rcases horders.get? slot with ⟨hnone, -⟩ | ⟨o', p, ho', hp, -, hkeep, -⟩
    · exact absurd (hnone.symm.trans ho) (by simp)
    · obtain rfl : o' = o := Option.some.inj (ho'.symm.trans ho)
      exact ⟨p, hp, hkeep⟩
  have hsome (r : Nat) : (Table.get? t.orderTable.items r).isSome = (Table.get? s.orderTable.items r).isSome := by
    rcases hitems.get? r with ⟨ha, hb⟩ | ⟨i, j, ha, hb, -⟩ <;> rw [ha, hb] <;> rfl
  refine ⟨by rw [hitems.keys]; exact hrising, fun r hr => hrange r (by rwa [← hsome]), by rw [horders.keys]; exact horising,
    fun r => ?_, fun slot slot' p p' r hp hp' hr hr' => ?_, fun slot p hp => ?_⟩
  · rw [hsome, hkeys]
    constructor
    · rintro ⟨slot, o, ho, hr⟩
      obtain ⟨p, hp, heq⟩ := hforth slot o ho
      exact ⟨slot, p, hp, heq ▸ hr⟩
    · rintro ⟨slot, p, hp, hr⟩
      obtain ⟨o, ho, heq, -⟩ := hback slot p hp
      exact ⟨slot, o, ho, heq ▸ hr⟩
  · obtain ⟨o, ho, heq, -⟩ := hback slot p hp
    obtain ⟨o', ho', heq', -⟩ := hback slot' p' hp'
    exact hdisjoint slot slot' o o' r ho ho' (heq ▸ hr) (heq' ▸ hr')
  · obtain ⟨o, ho, heq, hgross⟩ := hback slot p hp
    rw [heq, hgross, chargedSum_recast hitems]
    exact hlists slot o ho

theorem item_freeRecord (s : State) (slot r : Nat) :
    Table.get? (s.freeRecord slot).orderTable.items r =
      if r ∈ s.orderTable.refsOf slot then none else Table.get? s.orderTable.items r := by
  refine (get?_filter_keys s.orderTable.items (fun k => !(s.orderTable.refsOf slot).contains k) r).trans ?_
  by_cases h : r ∈ s.orderTable.refsOf slot <;> simp [h]

theorem pool_freeRecord {s : State} (slot : Nat) (hs : PoolAndGross s) : PoolAndGross (s.freeRecord slot) := by
  rw [poolAndGross_iff] at hs ⊢
  obtain ⟨hrising, hrange, horising, hkeys, hdisjoint, hlists⟩ := hs
  have hback (k : Nat) (o : Order) (h : (s.freeRecord slot).order? k = some o) : k ≠ slot ∧ s.order? k = some o := by
    rw [order?_freeRecord] at h
    split at h
    · cases h
    · next hk => exact ⟨hk, h⟩
  have hrefs (k : Nat) (o : Order) (hk : k ≠ slot) (ho : s.order? k = some o) :
      ∀ r ∈ o.items, r ∉ s.orderTable.refsOf slot := by
    intro r hr hin
    cases hfreed : s.order? slot with
    | none => unfold State.order? at hfreed; simp [OrderTable.refsOf, hfreed] at hin
    | some p =>
      rw [refsOf_of_order hfreed] at hin
      exact hk (hdisjoint k slot o p r ho hfreed hr hin)
  refine ⟨hrising.sublist ((List.filter_sublist (l := s.orderTable.items)).map Prod.fst), fun r hr => ?_,
    keys_erase_rising horising, fun r => ?_, fun k k' o o' r ho ho' => hdisjoint k k' o o' r (hback k o ho).2 (hback k' o' ho').2,
    fun k o ho => ?_⟩
  · rw [item_freeRecord] at hr
    split at hr
    · cases hr
    · exact hrange r hr
  · rw [item_freeRecord]
    constructor
    · intro hr
      split at hr
      · cases hr
      · next hout =>
        obtain ⟨k, o, ho, hin⟩ := (hkeys r).1 hr
        refine ⟨k, o, ?_, hin⟩
        rw [order?_freeRecord, if_neg, ho]
        rintro rfl
        exact hout (by rwa [refsOf_of_order ho])
    · rintro ⟨k, o, ho, hr⟩
      obtain ⟨hk, ho⟩ := hback k o ho
      rw [if_neg (hrefs k o hk ho r hr)]
      exact (hkeys r).2 ⟨k, o, ho, hr⟩
  · obtain ⟨hk, ho⟩ := hback k o ho
    rw [chargedSum_congr (items := s.orderTable.items) fun r hr => by rw [item_freeRecord, if_neg (hrefs k o hk ho r hr)]]
    exact hlists k o ho

/-- A charge of one record and of its order's gross. -/
theorem pool_charge {s : State} {slot n c : Nat} {o : Order} {i : Item} (p : PriceUnit) (ho : s.order? slot = some o)
    (hi : s.orderTable.item? slot n = some i) (hc : c ≤ 9999999 - o.gross) (hs : PoolAndGross s) :
    PoolAndGross { s with
        orderTable := (s.orderTable.modifyItem slot n (Item.addCharge c)).modifyOrder slot (Order.addCharge c)
        price := p } := by
  obtain ⟨r, hr, hir⟩ := (item?_eq_some ho).1 hi
  have hmodified : (s.orderTable.modifyItem slot n (Item.addCharge c)).items
      = Table.modify s.orderTable.items r (Item.addCharge c) := by
    simp [OrderTable.modifyItem, itemRef?_of_order ho, hr]
  rw [poolAndGross_iff] at hs ⊢
  obtain ⟨hrising, hrange, horising, hkeys, hdisjoint, hlists⟩ := hs
  dsimp only [OrderTable.modifyOrder]
  rw [hmodified, keys_modify]
  have hsome (k : Nat) : (Table.get? (Table.modify s.orderTable.items r (Item.addCharge c)) k).isSome
      = (Table.get? s.orderTable.items k).isSome := by
    rw [get?_modify]
    split
    · next h => simp [h]
    · rfl
  have hget (k : Nat) : Table.get? (Table.modify (s.orderTable.modifyItem slot n (Item.addCharge c)).orders slot
      (Order.addCharge c)) k = if k = slot then some (o.addCharge c) else s.order? k :=
    (get?_modify s.orderTable.orders slot k _).trans (by
      change (if k = slot then (s.order? slot).map _ else s.order? k) = _
      rw [ho]; rfl)
  have hview (k : Nat) (q : Order) (hq : Table.get? (Table.modify (s.orderTable.modifyItem slot n (Item.addCharge c)).orders
      slot (Order.addCharge c)) k = some q) : ∃ q', s.order? k = some q' ∧ q.items = q'.items
        ∧ (k = slot → q = o.addCharge c) ∧ (k ≠ slot → q = q') := by
    rw [hget] at hq
    split at hq
    · next h => cases hq; subst h; exact ⟨o, ho, rfl, fun _ => rfl, fun h => absurd rfl h⟩
    · next h => exact ⟨q, hq, rfl, fun h' => absurd h' h, fun _ => rfl⟩
  refine ⟨hrising, fun k hk => hrange k (by rwa [← hsome]), (keys_modify s.orderTable.orders slot _).symm ▸ horising,
    fun k => ?_, fun k k' q q' x hq hq' hx hx' => ?_, fun k q hq => ?_⟩
  · rw [hsome, hkeys]
    refine exists_congr fun k' => ?_
    constructor
    · rintro ⟨q, hq, hin⟩
      by_cases hk : k' = slot
      · subst hk
        obtain rfl : q = o := Option.some.inj (hq.symm.trans ho)
        exact ⟨q.addCharge c, (hget k').trans (if_pos rfl), hin⟩
      · exact ⟨q, (hget k').trans ((if_neg hk).trans hq), hin⟩
    · rintro ⟨q, hq, hin⟩
      obtain ⟨q', hq', hitems, -⟩ := hview k' q hq
      exact ⟨q', hq', hitems ▸ hin⟩
  · obtain ⟨p, hp, hitems, -⟩ := hview k q hq
    obtain ⟨p', hp', hitems', -⟩ := hview k' q' hq'
    exact hdisjoint k k' p p' x hp hp' (hitems ▸ hx) (hitems' ▸ hx')
  · obtain ⟨p, hp, hitems, hself, hother⟩ := hview k q hq
    obtain ⟨hnodup, hlen, hgross, hsum⟩ := hlists k p hp
    have hin : r ∈ o.items := List.mem_of_getElem? hr
    by_cases hk : k = slot
    · subst hk
      obtain rfl : p = o := Option.some.inj (hp.symm.trans ho)
      rw [hself rfl]
      refine ⟨hnodup, hlen, ?_, ?_⟩
      · change p.gross + c ≤ 9999999
        omega
      · change p.gross + c = chargedSum _ p.items
        rw [chargedSum_addCharge hnodup hin hir, hsum]
    · obtain rfl := hother hk
      refine ⟨hnodup, hlen, hgross, hsum.trans (chargedSum_congr fun j hj => ?_).symm⟩
      rw [get?_modify_of_ne]
      rintro rfl
      exact hk (hdisjoint k slot q o j hp ho hj hin)

theorem pool_of_moves {s t : State} (h : Moves s t) (hs : PoolAndGross s) : PoolAndGross t := by
  induction h with
  | recast horders hitems _ _ => exact pool_of_recast horders hitems hs
  | free s slot => exact pool_freeRecord slot hs
  | charge p ho hi hc => exact pool_charge p ho hi hc hs
  | trans _ _ ih ih' => exact ih' (ih hs)

theorem accountsHold_of_moves {s t : State} (h : Moves s t) (hs : AccountsHold s) : AccountsHold t := by
  induction h with
  | recast _ hitems _ _ =>
    intro p hp
    obtain ⟨i, hi, -, hkeep⟩ := hitems.mem hp
    exact hkeep (hs _ hi)
  | free s slot => exact fun p hp => hs p (List.mem_of_mem_filter hp)
  | @charge s slot n c o i p ho hi hc =>
    intro q hq
    have hrecast : Recast (fun i j => Balanced i → Balanced j) s.orderTable.items
        (s.orderTable.modifyItem slot n (Item.addCharge c)).items := by
      unfold OrderTable.modifyItem
      dsimp only
      split
      · exact recast_modify (fun _ => id) _ fun _ => id
      · exact .refl (fun _ => id) _
    obtain ⟨j, hj, hkeep⟩ := hrecast.mem hq
    exact hkeep (hs _ hj)
  | trans _ _ ih ih' => exact ih' (ih hs)

theorem binsOk_of_moves {s t : State} (h : Moves s t) (hs : BinsOk s) : BinsOk t := by
  induction h with
  | recast _ _ _ hbins => exact hbins hs
  | free s slot => exact hs
  | charge p ho hi hc => exact hs
  | trans _ _ ih ih' => exact ih' (ih hs)

/-! ## Commands that do more to the tables than move -/

theorem moves_enlistedIf (s : State) (slot : Nat) (joins : Prop) [Decidable joins] : Moves s (enlistedIf s slot joins) :=
  .of_onlyChanges (onlyChanges_enlistedIf s slot joins) (by decide)

theorem moves_rescheduled (s : State) (sch : Scheduler) (voids : Prop) [Decidable voids] :
    Moves s (rescheduled s sch voids) := by
  unfold rescheduled
  split
  · exact .trans (t := { s with scheduler := sch }) (.same rfl rfl rfl rfl)
      (.of_onlyChanges (onlyChanges_voidSelection _) (by decide))
  · exact .same rfl rfl rfl rfl

theorem moves_bin (s : State) (n : Nat) {f : Bin → Bin}
    (hf : ∀ b, Table.get? s.sort.bins n = some b → b.ok → (f b).ok) : Moves s (binChanged s n f) :=
  .recast (.refl orderKeeps_refl _) (.refl itemKeeps_refl _) rfl fun hs => binsOk_modify hs rfl hf

theorem moves_binCleared (s : State) (n : Nat) (b : Bin) : Moves s (binCleared s n b) := by
  refine .trans (moves_bin s n fun _ _ => emptied_ok) ?_
  unfold Sorting.binCleared ownerChanged
  generalize binChanged s n Bin.emptied = t
  split
  · next slot hslot =>
    refine Moves.order t slot (f := Order.binEmptied b.state n) fun o => ?_
    cases b.state <;> exact ⟨rfl, rfl, rfl⟩
  · exact .refl t

theorem moves_uncollectedTimeSet (s : State) (minutes : Nat) : Moves s (uncollectedTimeSet s minutes) := by
  refine .recast (.refl orderKeeps_refl _) (.refl itemKeeps_refl _) rfl fun hs => ?_
  by_cases hzero : minutes = 0
  · subst hzero
    have hbins : (uncollectedTimeSet s 0).sort.bins = s.sort.bins.map fun p => (p.1, { p.2 with timer := none }) := rfl
    refine ⟨by rw [hbins]; simpa [Function.comp_def] using hs.1, fun p hp => ?_⟩
    rw [hbins] at hp
    obtain ⟨q, hq, rfl⟩ := List.mem_map.1 hp
    obtain ⟨hmin, hmax, hcount, hfree, hclear, howned, hfilling, hquiet⟩ := hs.2 q hq
    exact ⟨hmin, hmax, hcount, hfree, hclear, howned, hfilling, fun h => ⟨rfl, (hquiet h).2⟩⟩
  · have hbins : (uncollectedTimeSet s minutes).sort.bins = s.sort.bins := by simp [uncollectedTimeSet, hzero]
    exact ⟨hbins ▸ hs.1, by rw [hbins]; exact hs.2⟩

theorem binSet_ok {b : Bin} (g : BinGroup) {capacity : Nat} (hmin : 1 ≤ capacity) (hmax : capacity ≤ 250)
    (hfree : b.state = .free) (h : b.ok) : (binSet g capacity b).ok := by
  obtain ⟨-, -, -, hfreeok, -, -, -, hquiet⟩ := h
  refine ⟨hmin, hmax, ?_, hfreeok, ?_, ?_, ?_, hquiet⟩ <;> simp [binSet, hfree, hfreeok hfree]

theorem expire_ok {b : Bin} (hwaiting : b.state = .waiting) (h : b.ok) : b.expire.ok := by
  obtain ⟨hmin, hmax, hcount, -, -, howned, -, -⟩ := h
  refine ⟨hmin, hmax, hcount, ?_, ?_, fun _ => howned (.inr (.inr hwaiting)), ?_, ?_⟩ <;> simp [Bin.expire, hwaiting]

theorem moves_expireWindow (s : State) (slot : Nat) : Moves s (s.expireWindow slot) := by
  have hended : Moves s (s.modifyOrder slot fun o => { o with windowEnded := true }) :=
    .order s slot fun _ => ⟨rfl, rfl, rfl⟩
  unfold State.expireWindow
  dsimp only
  split
  · split
    · exact .trans hended (.same rfl rfl rfl rfl)
    · exact hended
  · exact hended

/-- The commands but for power-on, a new order, a new item and a committed amendment move. -/
theorem moves_or_of_change {s u : State} (h : Change s u) :
    Moves s u ∨ u = { State.reset with pending := s.pending, freeCount := s.freeCount }
      ∨ (∃ slot c, Table.lowestFree s.orderTable.orders 64 = some slot
          ∧ u = OrdersAndItems.opened s slot (s.orderTable.searchTicket 64 s.orderTable.nextTicket) c)
      ∨ (∃ slot r o i, s.order? slot = some o ∧ o.items.length < 24 ∧ Table.lowestFree s.orderTable.items 512 = some r
          ∧ i.charged = 0 ∧ Balanced i ∧ u = itemAdded s slot o.cls r i)
      ∨ (∃ slot o a, s.order? slot = some o ∧ u = committed s slot a) := by
  cases h
  case powerOn => exact .inr (.inl rfl)
  case opened slot c hfree => exact .inr (.inr (.inl ⟨slot, c, hfree, rfl⟩))
  case itemAdded slot r o handle ws hs sizeIndex u m copies ho _ hlen hfree =>
    exact .inr (.inr (.inr (.inl ⟨slot, r, o, _, ho, hlen, hfree, rfl, by simp [Balanced, Item.fresh], rfl⟩)))
  case committed slot o a ho => exact .inr (.inr (.inr (.inr ⟨slot, o, a, ho, rfl⟩)))
  all_goals left
  case submitted slot o ms _ _ _ =>
    exact .trans (.order s slot (f := submitted s.timeBase ms) fun _ => ⟨rfl, rfl, rfl⟩) (moves_enlistedIf _ slot _)
  case held slot o _ _ =>
    exact .trans (.trans (.order s slot (f := fun o => { o with state := .held }) fun _ => ⟨rfl, rfl, rfl⟩) (moves_delist _ slot))
      (.of_onlyChanges (onlyChanges_voidSelectionOf _ slot) (by decide))
  case released slot o _ _ =>
    exact .trans (.order s slot (f := released o.started) fun _ => ⟨rfl, rfl, rfl⟩) (moves_enlistedIf _ slot _)
  case freed slot o _ _ => exact .free s slot
  case withdrawn slot o p requester partially _ _ _ _ =>
    exact .trans (t := repriced s p) (.same rfl rfl rfl rfl) (moves_withdraw _ slot requester partially)
  case collected slot o p _ _ =>
    exact .trans (.trans (t := repriced s p) (.same rfl rfl rfl rfl) (moves_releaseBins _ slot)) (.free _ slot)
  case warmReset =>
    have hflush (t : State) : Moves t t.flush := .same (by simp) (by simp) (by simp) (by simp)
    refine .trans (.trans (hflush s) (moves_clearMap s.flush)) (.same rfl rfl rfl rfl)
  case webCleared => exact .trans (moves_clearMap s) (.same rfl rfl rfl rfl)
  case cut => exact moves_cutTaken s
  case strobe => exact moves_strobe s
  case attempt active _ _ => exact moves_attempt s active
  case rasterFault fetch f cause =>
    exact .trans (t := { s with fetch := fetch }) (.same rfl rfl rfl rfl) (moves_rasterFault _ f cause)
  case attention link c => exact moves_clearCause s link c
  case windowExpired slot o e _ _ _ => exact moves_expireWindow s slot
  case binCleared n b _ => exact moves_binCleared s n b
  case uncollectedTime minutes _ => exact moves_uncollectedTimeSet s minutes
  case binSet n b g capacity hb hfree =>
    refine moves_bin s n fun b' hb' hok => binSet_ok g ?_ ?_ ?_ hok
    · unfold clampNat; omega
    · unfold clampNat; omega
    · rwa [← Option.some.inj (hb.symm.trans hb')]
  case binExpired n b hb hwaiting =>
    refine moves_bin s n fun b' hb' hok => expire_ok ?_ hok
    rwa [← Option.some.inj (hb.symm.trans hb')]
  case rollLoaded => exact moves_rescheduled s _ _
  case rollUnloaded => exact moves_rescheduled s _ _
  case magazineTaken => exact moves_rescheduled s _ _
  case transportRun => exact .of_onlyChanges (onlyChanges_transportRun s) (by decide)
  case transportStop => exact .of_onlyChanges (onlyChanges_transportStop s) (by decide)
  case stallFirst => exact .of_onlyChanges (onlyChanges_stallFirst s) (by decide)
  case stallSecond => exact .of_onlyChanges (onlyChanges_stallSecond s) (by decide)
  case headFault c => exact .of_onlyChanges (onlyChanges_headFaulted s c) (by decide)
  case densityReset =>
    exact .trans (t := densityCleared s) (.same rfl rfl rfl rfl) (.of_onlyChanges (onlyChanges_voidSelection _) (by decide))
  case rowPlaced fetch row =>
    exact .trans (t := { s with fetch := fetch }) (.same rfl rfl rfl rfl)
      (.of_onlyChanges (onlyChanges_placeRow _ row) (by decide))
  case lineProduced w codes _ =>
    exact .trans (t := { s with channel := s.channel.accept w codes }) (.same rfl rfl rfl rfl)
      (.of_onlyChanges (onlyChanges_advanceWork _ w) (by decide))
  all_goals exact .same rfl rfl rfl rfl

/-! ### A new order -/

theorem order?_opened (s : State) (slot ticket : Nat) (c : OrderClass) (k : Nat) :
    (opened s slot ticket c).order? k = if k = slot then some (Order.opened ticket c) else s.order? k :=
  get?_put _ _ _ _

theorem ticketsOk_opened {s : State} {slot : Nat} (c : OrderClass)
    (hfree : Table.lowestFree s.orderTable.orders 64 = some slot) (hs : TicketsOk s) :
    TicketsOk (opened s slot (s.orderTable.searchTicket 64 s.orderTable.nextTicket) c) := by
  obtain ⟨hslot, hnone, -⟩ := lowestFree_spec hfree
  obtain ⟨j, hticket, hunheld, -⟩ := searchTicket_assigns hs hslot hnone
  obtain ⟨hrising, hrange, hunique, hnext1, hnext2⟩ := (ticketsOk_iff s).1 hs
  generalize s.orderTable.searchTicket 64 s.orderTable.nextTicket = ticket at hticket hunheld ⊢
  obtain ⟨hmin, hmax⟩ : 1 ≤ ticket ∧ ticket ≤ 9999 := by
    rw [hticket]; omega
  have hother (k : Nat) (o : Order) (ho : s.order? k = some o) : o.ticket ≠ ticket := by
    rintro rfl
    simp only [OrderTable.findTicket, Option.map_eq_none_iff, List.find?_eq_none] at hunheld
    exact absurd (hunheld _ (mem_of_get? ho)) (by simp)
  have hnew (k : Nat) (o : Order) (ho : (opened s slot ticket c).order? k = some o) :
      (k = slot ∧ o.ticket = ticket) ∨ s.order? k = some o := by
    rw [order?_opened] at ho
    split at ho
    · cases ho; exact .inl ⟨by assumption, rfl⟩
    · exact .inr ho
  obtain ⟨hafter1, hafter2⟩ := ticketAfter_range hmax
  refine (ticketsOk_iff _).2 ⟨keys_put_rising hrising, fun k o ho => ?_, fun k k' o o' ho ho' heq => ?_, hafter1, hafter2⟩
  · rcases hnew k o ho with ⟨rfl, rfl⟩ | ho
    · exact ⟨hslot, hmin, hmax⟩
    · exact hrange k o ho
  · rcases hnew k o ho with ⟨hk, hto⟩ | hold <;> rcases hnew k' o' ho' with ⟨hk', hto'⟩ | hold'
    · rw [hk, hk']
    · exact absurd (heq.symm.trans hto) (hother k' o' hold')
    · exact absurd (heq.trans hto') (hother k o hold)
    · exact hunique k k' o o' hold hold' heq

theorem pool_opened {s : State} {slot : Nat} (ticket : Nat) (c : OrderClass) (hnone : s.order? slot = none)
    (hs : PoolAndGross s) : PoolAndGross (opened s slot ticket c) := by
  rw [poolAndGross_iff] at hs ⊢
  obtain ⟨hrising, hrange, horising, hkeys, hdisjoint, hlists⟩ := hs
  have hnew (k : Nat) (o : Order) (ho : (opened s slot ticket c).order? k = some o) :
      (o.items = [] ∧ o.gross = 0) ∨ s.order? k = some o := by
    rw [order?_opened] at ho
    split at ho
    · cases ho; exact .inl ⟨rfl, rfl⟩
    · exact .inr ho
  refine ⟨hrising, hrange, keys_put_rising horising, fun r => (hkeys r).trans ⟨?_, ?_⟩,
    fun k k' o o' r ho ho' hr hr' => ?_, fun k o ho => ?_⟩
  · rintro ⟨k, o, ho, hr⟩
    refine ⟨k, o, ?_, hr⟩
    rw [order?_opened, if_neg, ho]
    rintro rfl
    simp [hnone] at ho
  · rintro ⟨k, o, ho, hr⟩
    rcases hnew k o ho with ⟨hitems, -⟩ | ho
    · simp [hitems] at hr
    · exact ⟨k, o, ho, hr⟩
  · rcases hnew k o ho with ⟨hitems, -⟩ | ho
    · simp [hitems] at hr
    rcases hnew k' o' ho' with ⟨hitems, -⟩ | ho'
    · simp [hitems] at hr'
    exact hdisjoint k k' o o' r ho ho' hr hr'
  · rcases hnew k o ho with ⟨hitems, hgross⟩ | ho
    · simp [hitems, hgross, chargedSum]
    · exact hlists k o ho

/-! ### A new item -/

theorem order?_itemAdded (s : State) (slot : Nat) (cls : OrderClass) (r : Nat) (i : Item) (k : Nat) :
    (itemAdded s slot cls r i).order? k =
      if k = slot then (s.order? slot).map fun o => { o with items := o.items ++ [r] } else s.order? k :=
  get?_modify s.orderTable.orders slot k fun o => { o with items := o.items ++ [r] }

theorem item_itemAdded (s : State) (slot : Nat) (cls : OrderClass) (r : Nat) (i : Item) (k : Nat) :
    Table.get? (itemAdded s slot cls r i).orderTable.items k =
      if k = r then some i else Table.get? s.orderTable.items k := get?_put _ _ _ _

theorem pool_itemAdded {s : State} {slot r : Nat} {o : Order} {i : Item} (cls : OrderClass) (ho : s.order? slot = some o)
    (hlen : o.items.length < 24) (hfree : Table.lowestFree s.orderTable.items 512 = some r) (hi : i.charged = 0)
    (hs : PoolAndGross s) : PoolAndGross (itemAdded s slot cls r i) := by
  obtain ⟨hlt, hnone, -⟩ := lowestFree_spec hfree
  rw [poolAndGross_iff] at hs ⊢
  obtain ⟨hrising, hrange, horising, hkeys, hdisjoint, hlists⟩ := hs
  have hout (k : Nat) (p : Order) (hp : s.order? k = some p) : r ∉ p.items := fun hin => by
    have := (hkeys r).2 ⟨k, p, hp, hin⟩
    simp [hnone] at this
  have hview (k : Nat) (q : Order) (hq : (itemAdded s slot cls r i).order? k = some q) :
      ∃ p, s.order? k = some p ∧ q.gross = p.gross
        ∧ ((k = slot ∧ p = o ∧ q.items = p.items ++ [r]) ∨ (k ≠ slot ∧ q.items = p.items)) := by
    rw [order?_itemAdded] at hq
    split at hq
    · next h => subst h; rw [ho] at hq; cases hq; exact ⟨o, ho, rfl, .inl ⟨rfl, rfl, rfl⟩⟩
    · next h => exact ⟨q, hq, rfl, .inr ⟨h, rfl⟩⟩
  have hin (k : Nat) (q : Order) (hq : (itemAdded s slot cls r i).order? k = some q) (x : Nat) (hx : x ∈ q.items) :
      (k = slot ∧ x = r) ∨ ∃ p, s.order? k = some p ∧ x ∈ p.items := by
    obtain ⟨p, hp, -, ⟨hk, -, hitems⟩ | ⟨-, hitems⟩⟩ := hview k q hq
    · rw [hitems, List.mem_append, List.mem_singleton] at hx
      exact hx.elim (fun hx => .inr ⟨p, hp, hx⟩) fun hx => .inl ⟨hk, hx⟩
    · exact .inr ⟨p, hp, hitems ▸ hx⟩
  have hsum (k : Nat) (p : Order) (hp : s.order? k = some p) :
      chargedSum (itemAdded s slot cls r i).orderTable.items p.items = chargedSum s.orderTable.items p.items :=
    chargedSum_congr fun x hx => by rw [item_itemAdded, if_neg]; rintro rfl; exact hout k p hp hx
  have hkept : (itemAdded s slot cls r i).orderTable.orders.map Prod.fst = s.orderTable.orders.map Prod.fst :=
    keys_modify s.orderTable.orders slot fun o => { o with items := o.items ++ [r] }
  refine ⟨keys_put_rising hrising, fun x hx => ?_, hkept ▸ horising,
    fun x => ⟨fun hx => ?_, ?_⟩, fun k k' q q' x hq hq' hx hx' => ?_, fun k q hq => ?_⟩
  · rw [item_itemAdded] at hx
    split at hx
    · next h => exact h ▸ hlt
    · exact hrange x hx
  · rw [item_itemAdded] at hx
    split at hx
    · next h =>
      exact ⟨slot, { o with items := o.items ++ [r] }, by rw [order?_itemAdded, if_pos rfl, ho]; rfl, by simp [h]⟩
    · obtain ⟨k, p, hp, hxp⟩ := (hkeys x).1 hx
      by_cases hk : k = slot
      · subst hk
        obtain rfl : p = o := Option.some.inj (hp.symm.trans ho)
        exact ⟨k, { p with items := p.items ++ [r] }, by rw [order?_itemAdded, if_pos rfl, hp]; rfl, by simp [hxp]⟩
      · exact ⟨k, p, by rw [order?_itemAdded, if_neg hk, hp], hxp⟩
  · rintro ⟨k, q, hq, hx⟩
    rw [item_itemAdded]
    split
    · rfl
    · next hne =>
      rcases hin k q hq x hx with ⟨-, h⟩ | ⟨p, hp, hxp⟩
      · exact absurd h hne
      · exact (hkeys x).2 ⟨k, p, hp, hxp⟩
  · rcases hin k q hq x hx with ⟨hk, hxr⟩ | ⟨p, hp, hxp⟩ <;> rcases hin k' q' hq' x hx' with ⟨hk', hxr'⟩ | ⟨p', hp', hxp'⟩
    · rw [hk, hk']
    · exact absurd (hxr ▸ hxp') (hout k' p' hp')
    · exact absurd (hxr' ▸ hxp) (hout k p hp)
    · exact hdisjoint k k' p p' x hp hp' hxp hxp'
  · obtain ⟨p, hp, hgross, hitems⟩ := hview k q hq
    obtain ⟨hnodup, hlen', hmax, hgrossum⟩ := hlists k p hp
    rw [hgross]
    rcases hitems with ⟨-, rfl, hitems⟩ | ⟨-, hitems⟩ <;> rw [hitems]
    · refine ⟨hnodup.append (List.nodup_singleton r) (by simpa using hout k p hp), by simp; omega, hmax, ?_⟩
      have happend : chargedSum (itemAdded s slot cls r i).orderTable.items (p.items ++ [r])
          = chargedSum (itemAdded s slot cls r i).orderTable.items p.items + 0 := by
        simp [chargedSum, item_itemAdded, hi]
      rw [happend, hsum k p hp, Nat.add_zero, hgrossum]
    · exact ⟨hnodup, hlen', hmax, by rw [hsum k p hp, hgrossum]⟩

/-! ### A committed amendment -/

/-- The charged sums of a list of records whose waived ones are set to 0 by their place in the list. -/
theorem chargedSum_waive {items items' : Table Item} {w : Nat → Bool} {refs : List Nat}
    (hitem : ∀ n r i, refs[n]? = some r → Table.get? items r = some i →
      ∃ j, Table.get? items' r = some j ∧ j.charged = if w n = true ∧ i.waived = false then 0 else i.charged)
    (hnone : ∀ r ∈ refs, Table.get? items r = none → Table.get? items' r = none) :
    chargedSum items' refs + ((List.range refs.length).map fun n =>
      match (refs[n]?).bind (Table.get? items) with
      | some i => if w n = true ∧ i.waived = false then i.charged else 0
      | none => 0).sum = chargedSum items refs := by
  induction refs generalizing w with
  | nil => rfl
  | cons r rest ih =>
    have htail := ih (w := fun n => w (n + 1)) (fun n r i hr hi => hitem (n + 1) r i (by simpa using hr) hi)
      fun r hr => hnone r (by simp [hr])
    rw [chargedSum_cons, chargedSum_cons, List.length_cons, List.range_succ_eq_map, List.map_cons, List.map_map,
      List.sum_cons]
    simp only [Function.comp_def, Nat.succ_eq_add_one, List.getElem?_cons_succ, List.getElem?_cons_zero,
      Option.bind_some] at htail ⊢
    cases hi : Table.get? items r with
    | none =>
      rw [hnone r (by simp) hi]
      simpa using htail
    | some i =>
      obtain ⟨j, hj, hcharged⟩ := hitem 0 r i rfl hi
      simp only [hj, Option.map_some, Option.getD_some, hcharged]
      split <;> omega

theorem chargedSum_add_waivedSum {s : State} {slot : Nat} {o : Order} (ho : s.order? slot = some o) (hnodup : o.items.Nodup)
    (a : Amendment) :
    chargedSum (committed s slot a).orderTable.items o.items + waivedSum s o a.waive
      = chargedSum s.orderTable.items o.items := by
  refine chargedSum_waive (w := fun n => a.waive.getLsbD n) (fun n r i hr hi => ?_) fun r _ hnone => ?_
  · rw [item_committed]
    by_cases hin : r ∈ s.orderTable.waivedRefs slot a.waive
    · exact ⟨i.waive, by rw [if_pos hin, hi]; rfl, by
        rw [if_pos ((mem_waivedRefs_of_nodup ho hnodup hr hi).1 hin)]; rfl⟩
    · exact ⟨i, by rw [if_neg hin, hi], by rw [if_neg fun h => hin ((mem_waivedRefs_of_nodup ho hnodup hr hi).2 h)]⟩
  · rw [item_committed, hnone]
    simp

theorem pool_committed {s : State} {slot : Nat} {o : Order} (a : Amendment) (ho : s.order? slot = some o)
    (hs : PoolAndGross s) : PoolAndGross (committed s slot a) := by
  rw [poolAndGross_iff] at hs ⊢
  obtain ⟨hrising, hrange, horising, hkeys, hdisjoint, hlists⟩ := hs
  have hview (k : Nat) (q : Order) (hq : (committed s slot a).order? k = some q) :
      ∃ p, s.order? k = some p ∧ q.items = p.items ∧ ((k ≠ slot ∧ q.gross = p.gross)
        ∨ (k = slot ∧ p = o ∧ q.gross = o.gross - waivedSum s o a.waive)) := by
    rw [order?_committed] at hq
    split at hq
    · next h =>
      subst h
      rw [ho, refundOf_eq ho] at hq
      cases hq
      exact ⟨o, ho, rfl, .inr ⟨rfl, rfl, rfl⟩⟩
    · next h => exact ⟨q, hq, rfl, .inl ⟨h, rfl⟩⟩
  have hforth (k : Nat) (p : Order) (hp : s.order? k = some p) :
      ∃ q, (committed s slot a).order? k = some q ∧ q.items = p.items := by
    rw [order?_committed]
    split
    · next h => subst h; rw [hp]; exact ⟨_, rfl, rfl⟩
    · exact ⟨p, hp, rfl⟩
  have hsome (r : Nat) : (Table.get? (committed s slot a).orderTable.items r).isSome
      = (Table.get? s.orderTable.items r).isSome := by
    rw [item_committed]
    split <;> simp
  have hitems : (committed s slot a).orderTable.items.map Prod.fst = s.orderTable.items.map Prod.fst :=
    keys_modifyAll s.orderTable.items _ Item.waive
  have horders : (committed s slot a).orderTable.orders.map Prod.fst = s.orderTable.orders.map Prod.fst :=
    keys_modify s.orderTable.orders slot (amended a (s.orderTable.refundOf slot a.waive))
  refine ⟨hitems ▸ hrising, fun r hr => hrange r (by rwa [← hsome]), horders ▸ horising, fun r => ?_, fun k k' q q' r hq hq' hr hr' => ?_, fun k q hq => ?_⟩
  · rw [hsome, hkeys]
    constructor
    · rintro ⟨k, p, hp, hr⟩
      obtain ⟨q, hq, hitems⟩ := hforth k p hp
      exact ⟨k, q, hq, hitems ▸ hr⟩
    · rintro ⟨k, q, hq, hr⟩
      obtain ⟨p, hp, hitems, -⟩ := hview k q hq
      exact ⟨k, p, hp, hitems ▸ hr⟩
  · obtain ⟨p, hp, hitems, -⟩ := hview k q hq
    obtain ⟨p', hp', hitems', -⟩ := hview k' q' hq'
    exact hdisjoint k k' p p' r hp hp' (hitems ▸ hr) (hitems' ▸ hr')
  · obtain ⟨p, hp, hitems, hgross⟩ := hview k q hq
    obtain ⟨hnodup, hlen, hmax, hsum⟩ := hlists k p hp
    rw [hitems]
    rcases hgross with ⟨hk, hgross⟩ | ⟨rfl, rfl, hgross⟩ <;> rw [hgross]
    · refine ⟨hnodup, hlen, hmax, hsum.trans (chargedSum_congr fun r hr => ?_).symm⟩
      rw [otherItemsSame_committed ho a r]
      exact fun hin => hk (hdisjoint k slot p o r hp ho hr hin)
    · have htotal := chargedSum_add_waivedSum ho hnodup a
      exact ⟨hnodup, hlen, by omega, by omega⟩

/-! ## The invariants through every step -/

theorem ticketsOk_reset : TicketsOk State.reset := by
  obtain ⟨-, -, -, -, -, -, -, -, h, -⟩ := Resets.resetMeetsInvariants
  exact h

theorem poolAndGross_reset : PoolAndGross State.reset := by
  obtain ⟨-, -, -, -, -, -, -, -, -, h, -⟩ := Resets.resetMeetsInvariants
  exact h

theorem binsOk_reset : BinsOk State.reset := by
  obtain ⟨-, -, -, -, h, -⟩ := Resets.resetMeetsInvariants
  exact h

theorem ticketsOk_of_change {s u : State} (h : Change s u) (hs : TicketsOk s) : TicketsOk u := by
  rcases moves_or_of_change h with hmoves | rfl | ⟨slot, c, hfree, rfl⟩ | ⟨slot, r, o, i, ho, -, -, -, -, rfl⟩ | ⟨slot, o, a, ho, rfl⟩
  · exact ticketsOk_of_moves hmoves hs
  · exact ticketsOk_reset
  · exact ticketsOk_opened c hfree hs
  · exact ticketsOk_of_recast (s := s) (recast_modify ticketKeeps_refl slot
      (f := fun o => { o with items := o.items ++ [r] }) fun _ => rfl) rfl hs
  · exact ticketsOk_of_recast (s := s) (recast_modify ticketKeeps_refl slot
      (f := amended a (s.orderTable.refundOf slot a.waive)) fun _ => rfl) rfl hs

theorem pool_of_change {s u : State} (h : Change s u) (hs : PoolAndGross s) : PoolAndGross u := by
  rcases moves_or_of_change h with hmoves | rfl | ⟨slot, c, hfree, rfl⟩ | ⟨slot, r, o, i, ho, hlen, hfree, hi, -, rfl⟩
    | ⟨slot, o, a, ho, rfl⟩
  · exact pool_of_moves hmoves hs
  · exact poolAndGross_reset
  · exact pool_opened _ c (lowestFree_spec hfree).2.1 hs
  · exact pool_itemAdded o.cls ho hlen hfree hi hs
  · exact pool_committed a ho hs

theorem accountsHold_of_change {s u : State} (h : Change s u) (hs : AccountsHold s) : AccountsHold u := by
  rcases moves_or_of_change h with hmoves | rfl | ⟨slot, c, hfree, rfl⟩ | ⟨slot, r, o, i, ho, -, -, -, hbalanced, rfl⟩
    | ⟨slot, o, a, ho, rfl⟩
  · exact accountsHold_of_moves hmoves hs
  · exact nofun
  · exact hs
  · intro p hp
    rcases mem_put hp with rfl | hp
    · exact hbalanced
    · exact hs p hp
  · intro p hp
    rcases mem_modifyAll hp with ⟨hp, -⟩ | ⟨i, hi, -, heq⟩
    · exact hs p hp
    · rw [heq]
      exact hs _ hi

theorem binsOk_of_change {s u : State} (h : Change s u) (hs : BinsOk s) : BinsOk u := by
  rcases moves_or_of_change h with hmoves | rfl | ⟨slot, c, hfree, rfl⟩ | ⟨slot, r, o, i, ho, -, -, -, -, rfl⟩ | ⟨slot, o, a, ho, rfl⟩
  · exact binsOk_of_moves hmoves hs
  · exact binsOk_reset
  · exact hs
  · exact hs
  · exact hs

/-- Settles O12. -/
theorem everyStepKeepsTickets : Obligations.EveryStepKeepsTickets := fun _ _ =>
  step_keeps (P := TicketsOk) (fun _ _ _ _ h => h) (fun _ _ hs hu => ticketsOk_of_change hu hs)

/-- Settles O13. -/
theorem everyStepKeepsPoolAndGross : Obligations.EveryStepKeepsPoolAndGross := fun _ _ =>
  step_keeps (P := PoolAndGross) (fun _ _ _ _ h => h) (fun _ _ hs hu => pool_of_change hu hs)

end Sys2Proof.Pool

/-! The registry through every step (O5, O6, O9): the class lists, the counts of copies on the web and the bins' owners agree with
the order records. Each operation keeps all of them together, `Keeps`; most change what one slot holds and nothing beside it. -/

namespace Sys2Proof.Registry

open Sys2Proof.Machine Sys2Proof.Laws Sys2Proof.OrdersAndItems Sys2Proof.Magazines Sys2Proof.Sorting Sys2Proof.Till
open Sys2Proof.Steps Sys2Proof.WebMap Sys2Proof.Pool

/-! ## Items by slot and number -/

theorem item?_eq_bind (s : State) (k j : Nat) :
    s.orderTable.item? k j = (s.order? k).bind fun o => (o.items[j]?).bind (Table.get? s.orderTable.items) := by
  unfold OrderTable.item? OrderTable.itemRef? State.order?
  cases Table.get? s.orderTable.orders k <;> rfl

theorem order?_of_item? {s : State} {k j : Nat} {i : Item} (h : s.orderTable.item? k j = some i) :
    ∃ o r, s.order? k = some o ∧ o.items[j]? = some r ∧ Table.get? s.orderTable.items r = some i := by
  rw [item?_eq_bind, Option.bind_eq_some_iff] at h
  obtain ⟨o, ho, hi⟩ := h
  obtain ⟨r, hr, hget⟩ := Option.bind_eq_some_iff.1 hi
  exact ⟨o, r, ho, hr, hget⟩

theorem item?_of_order {s : State} {k j r : Nat} {o : Order} (ho : s.order? k = some o) (hr : o.items[j]? = some r) :
    s.orderTable.item? k j = Table.get? s.orderTable.items r := by
  simp [item?_eq_bind, ho, hr]

/-- An order whose list, with the records it names, is as before has its items as before. -/
theorem item?_congr {s t : State} {k : Nat} (horder : (t.order? k).map Order.items = (s.order? k).map Order.items)
    (hitems : ∀ o, s.order? k = some o → ∀ r ∈ o.items,
      Table.get? t.orderTable.items r = Table.get? s.orderTable.items r) (j : Nat) :
    t.orderTable.item? k j = s.orderTable.item? k j := by
  rw [item?_eq_bind, item?_eq_bind]
  cases hs : s.order? k with
  | none => cases ht : t.order? k <;> simp_all
  | some o =>
    cases ht : t.order? k with
    | none => simp [hs, ht] at horder
    | some p =>
      obtain heq : p.items = o.items := by simpa [hs, ht] using horder
      simp only [Option.bind_some, heq]
      cases hr : o.items[j]? with
      | none => rfl
      | some r => exact hitems o hs r (List.mem_of_getElem? hr)

section
variable {s : State} (hpool : PoolAndGross s)
include hpool

theorem itemRef_injective {k k' j j' r : Nat} {o o' : Order} (ho : s.order? k = some o) (ho' : s.order? k' = some o')
    (hr : o.items[j]? = some r) (hr' : o'.items[j']? = some r) : k = k' ∧ j = j' := by
  obtain ⟨-, -, -, -, hdisjoint, hlists⟩ := (poolAndGross_iff s).1 hpool
  obtain rfl := hdisjoint k k' o o' r ho ho' (List.mem_of_getElem? hr) (List.mem_of_getElem? hr')
  obtain rfl : o = o' := Option.some.inj (ho.symm.trans ho')
  obtain ⟨hj, -⟩ := List.getElem?_eq_some_iff.1 hr
  exact ⟨rfl, (List.getElem?_inj hj (hlists k o ho).1).1 (hr.trans hr'.symm)⟩

/-- Every item number of an order has its record. -/
theorem item?_isSome {k j : Nat} {o : Order} (ho : s.order? k = some o) (hj : j < o.items.length) :
    ∃ i, s.orderTable.item? k j = some i := by
  obtain ⟨-, -, -, hkeys, -, -⟩ := (poolAndGross_iff s).1 hpool
  have hr : o.items[j]? = some o.items[j] := List.getElem?_eq_getElem hj
  obtain ⟨i, hi⟩ := Option.isSome_iff_exists.1 ((hkeys o.items[j]).2 ⟨k, o, ho, List.getElem_mem hj⟩)
  exact ⟨i, (item?_of_order ho hr).trans hi⟩

theorem item?_modifyItem (slot n : Nat) (f : Item → Item) (k j : Nat) :
    (s.orderTable.modifyItem slot n f).item? k j =
      if k = slot ∧ j = n then (s.orderTable.item? slot n).map f else s.orderTable.item? k j := by
  cases hcase : s.order? slot with
  | none =>
    have hsame : s.orderTable.modifyItem slot n f = s.orderTable := by
      unfold State.order? at hcase
      simp [OrderTable.modifyItem, OrderTable.itemRef?, hcase]
    rw [hsame]
    split
    · next h => rw [h.1, h.2, item?_eq_bind, hcase]; rfl
    · rfl
  | some o =>
    cases hr : o.items[n]? with
    | none =>
      have hsame : s.orderTable.modifyItem slot n f = s.orderTable := by
        simp [OrderTable.modifyItem, itemRef?_of_order hcase, hr]
      rw [hsame]
      split
      · next h => rw [h.1, h.2, item?_eq_bind, hcase]; simp [hr]
      · rfl
    | some r =>
      have hmodified : s.orderTable.modifyItem slot n f
          = { s.orderTable with items := Table.modify s.orderTable.items r f } := by
        simp [OrderTable.modifyItem, itemRef?_of_order hcase, hr]
      have hview : (s.orderTable.modifyItem slot n f).item? k j
          = (s.order? k).bind fun o => (o.items[j]?).bind (Table.get? (Table.modify s.orderTable.items r f)) := by
        rw [hmodified]
        exact item?_eq_bind { s with orderTable := { s.orderTable with items := Table.modify s.orderTable.items r f } } k j
      rw [hview]
      split
      · next h =>
        obtain ⟨rfl, rfl⟩ := h
        rw [item?_of_order hcase hr, hcase, Option.bind_some, hr, Option.bind_some, get?_modify_self]
      · next h =>
        rw [item?_eq_bind]
        cases hk : s.order? k with
        | none => rfl
        | some p =>
          cases hq : p.items[j]? with
          | none => simp [hq]
          | some q =>
            simp only [Option.bind_some, hq]
            rw [get?_modify_of_ne]
            rintro rfl
            exact h (itemRef_injective hpool hk hcase hq hr)

/-- The items of another order are none of the records an order lists. -/
theorem not_mem_items {k slot r : Nat} {o p : Order} (hk : k ≠ slot) (ho : s.order? slot = some o)
    (hp : s.order? k = some p) (hr : r ∈ p.items) : r ∉ o.items := by
  obtain ⟨-, -, -, -, hdisjoint, -⟩ := (poolAndGross_iff s).1 hpool
  exact fun hin => hk (hdisjoint k slot p o r hp ho hr hin)

theorem item?_freeRecord (slot k j : Nat) :
    (s.freeRecord slot).orderTable.item? k j = if k = slot then none else s.orderTable.item? k j := by
  split
  · next h => rw [item?_eq_bind, order?_freeRecord, if_pos h]; rfl
  · next h =>
    refine item?_congr (by rw [order?_freeRecord, if_neg h]) (fun p hp r hr => ?_) j
    rw [item_freeRecord, if_neg]
    intro hin
    cases ho : s.order? slot with
    | none => unfold State.order? at ho; simp [OrderTable.refsOf, ho] at hin
    | some o =>
      rw [refsOf_of_order ho] at hin
      exact not_mem_items hpool h ho hp hr hin

end

/-! ## The invariants by slots and item numbers -/

/-- R7, R8, R12, R21: what the flags of an order record say of its state. -/
def OrderSound (o : Order) : Prop :=
  (o.state = .opened → o.windowEnded = false ∧ o.eligibleAt = none) ∧ (o.started = true → o.windowEnded = true)
    ∧ (o.state = .inPrint → o.started = true) ∧ (o.cancelNotice = true → o.state = .withdrawn)

/-- R33, R43: a selected print is one of a listed order with a copy waiting. -/
def SelectionStands (s : State) : Prop :=
  ∀ slot n copy, s.scheduler.selection = some (.print slot n copy) →
    ∃ o i, s.order? slot = some o ∧ o.listed = true ∧ s.orderTable.item? slot n = some i ∧ i.waiting ≠ 0

theorem listsAgree_iff (s : State) : ListsAgree s ↔
    (∀ c, (s.scheduler.classList c).Nodup)
      ∧ (∀ c slot, slot ∈ s.scheduler.classList c ↔ ∃ o, s.order? slot = some o ∧ o.cls = c ∧ o.listed = true)
      ∧ (s.orderTable.orders.map Prod.fst).Pairwise (· < ·)
      ∧ (∀ slot o, s.order? slot = some o → OrderSound o) ∧ SelectionStands s := by
  unfold ListsAgree SelectionStands
  refine and_congr_right fun _ => and_congr_right fun _ => and_congr_right fun _ => and_congr_right fun _ => ?_
  refine forall_congr' fun slot => forall_congr' fun n => forall_congr' fun copy => imp_congr_right fun _ => ?_
  constructor
  · rintro ⟨o, r, i, ho, hlisted, hr, hi, hwaiting⟩
    exact ⟨o, i, ho, hlisted, (item?_of_order ho hr).trans hi, hwaiting⟩
  · rintro ⟨o, i, ho, hlisted, hi, hwaiting⟩
    obtain ⟨r, hr, hget⟩ := (item?_eq_some ho).1 hi
    exact ⟨o, r, i, ho, hlisted, hr, hget, hwaiting⟩

/-- The slot and item number a segment carries a copy of. -/
def copyOf (g : Segment) : Option (Nat × Nat) :=
  match g.kind with
  | .print slot n _ => some (slot, n)
  | .patch | .leader | .blank => none

/-- The copies of a list of segments. -/
def copies (segs : List Segment) : List (Nat × Nat) := segs.filterMap copyOf

theorem countP_isPrintOf (segs : List Segment) (slot n : Nat) :
    segs.countP (Segment.isPrintOf slot n) = (copies segs).count (slot, n) := by
  unfold copies
  induction segs with
  | nil => rfl
  | cons g rest ih =>
    rw [List.countP_cons, List.filterMap_cons, ih]
    cases hk : g.kind <;> simp [copyOf, Segment.isPrintOf, hk, List.count_cons]

theorem mem_copies {segs : List Segment} {slot n : Nat} :
    (slot, n) ∈ copies segs ↔ ∃ g ∈ segs, ∃ copy, g.kind = .print slot n copy := by
  unfold copies
  rw [List.mem_filterMap]
  refine exists_congr fun g => and_congr_right fun _ => ?_
  unfold copyOf
  cases hk : g.kind <;> simp

theorem copies_append (a b : List Segment) : copies (a ++ b) = copies a ++ copies b := List.filterMap_append

/-- What an item says of its copies on the web, counted elsewhere. -/
def CopyCounted (count : Nat) (o : Order) (i : Item) : Prop :=
  i.onWeb = count ∧ (o.state = .opened ∨ o.state = .complete ∨ o.cancelNotice = true → i.onWeb = 0)
    ∧ (o.state = .complete → i.waiting = 0)

/-- R2, R12, R13: the copies on the web are these. -/
def Counted (m : List (Nat × Nat)) (s : State) : Prop :=
  (∀ slot o n i, s.order? slot = some o → s.orderTable.item? slot n = some i → CopyCounted (m.count (slot, n)) o i)
    ∧ ∀ slot n, (slot, n) ∈ m → ∃ o, s.order? slot = some o ∧ n < o.items.length

theorem copiesCounted_iff (s : State) : CopiesCounted s ↔ Counted (copies s.web.map) s := by
  unfold CopiesCounted Counted
  refine and_congr ?_ ?_
  · constructor
    · intro h slot o n i ho hi
      obtain ⟨r, hr, hget⟩ := (item?_eq_some ho).1 hi
      rw [← countP_isPrintOf]
      exact h slot o n r i ho hr hget
    · intro h slot o n r i ho hr hget
      rw [countP_isPrintOf]
      exact h slot o n i ho ((item?_of_order ho hr).trans hget)
  · constructor
    · intro h slot n hin
      obtain ⟨g, hg, copy, hkind⟩ := mem_copies.1 hin
      exact h g hg slot n copy hkind
    · intro h g hg slot n copy hkind
      exact h slot n (mem_copies.2 ⟨g, hg, copy, hkind⟩)

/-- An order that lists a copy on the web is neither OPEN nor COMPLETE and has no cancel notice. -/
theorem Counted.owner {m : List (Nat × Nat)} {s : State} (h : Counted m s) (hpool : PoolAndGross s) {slot n : Nat}
    (hin : (slot, n) ∈ m) : ∃ o i, s.order? slot = some o ∧ s.orderTable.item? slot n = some i ∧ 0 < i.onWeb
      ∧ o.state ≠ .opened ∧ o.state ≠ .complete ∧ o.cancelNotice = false := by
  obtain ⟨o, ho, hn⟩ := h.2 slot n hin
  obtain ⟨i, hi⟩ := item?_isSome hpool ho hn
  obtain ⟨hcount, hquiet, -⟩ := h.1 slot o n i ho hi
  have hpos : 0 < i.onWeb := by rw [hcount]; exact List.count_pos_iff.2 hin
  refine ⟨o, i, ho, hi, hpos, fun h => ?_, fun h => ?_, ?_⟩
  · exact hpos.ne' (hquiet (.inl h))
  · exact hpos.ne' (hquiet (.inr (.inl h)))
  · by_contra hne
    exact hpos.ne' (hquiet (.inr (.inr (by simpa using hne))))

/-- R139, R142, R146, R150: what the bin list of an order may name. -/
def ListsBins (s : State) (slot : Nat) (o : Order) : Prop :=
  o.bins.length ≤ 4 ∧ o.bins.Nodup
    ∧ (∀ n ∈ o.bins, ∃ b, Table.get? s.sort.bins n = some b ∧ b.owner = some slot
        ∧ (b.state = .filling ∨ b.state = .full ∨ b.state = .waiting))
    ∧ (o.state = .opened ∨ o.state = .withdrawn → o.bins = [])

/-- A bin in the keeping of the order in a slot. -/
def KeptFor (s : State) (slot n : Nat) (b : Bin) : Prop :=
  ∃ o, s.order? slot = some o ∧ b.ticket = some o.ticket ∧ n ∈ o.bins

theorem binsAgree_iff (s : State) : BinsAgree s ↔
    (∀ n b slot, Table.get? s.sort.bins n = some b → b.owner = some slot → KeptFor s slot n b)
      ∧ ∀ slot o, s.order? slot = some o → ListsBins s slot o := Iff.rfl

/-! ## Keeping all of them -/

/-- From one state, with these copies on the web, to another, with those. -/
def Keeps (m : List (Nat × Nat)) (s : State) (m' : List (Nat × Nat)) (t : State) : Prop :=
  (PoolAndGross s → PoolAndGross t) ∧ (BinsOk s → BinsOk t)
    ∧ (PoolAndGross s → ListsAgree s → ListsAgree t)
    ∧ (PoolAndGross s → ListsAgree s → Counted m s → Counted m' t)
    ∧ (PoolAndGross s → BinsOk s → ListsAgree s → Counted m s → BinsAgree s → BinsAgree t)

section
variable {m m' m'' : List (Nat × Nat)} {s t u : State}

theorem Keeps.refl (m : List (Nat × Nat)) (s : State) : Keeps m s m s :=
  ⟨id, id, fun _ h => h, fun _ _ h => h, fun _ _ _ _ h => h⟩

theorem Keeps.trans (h : Keeps m s m' t) (h' : Keeps m' t m'' u) : Keeps m s m'' u := by
  obtain ⟨hpool, hok, hlists, hcount, hbins⟩ := h
  obtain ⟨hpool', hok', hlists', hcount', hbins'⟩ := h'
  refine ⟨hpool' ∘ hpool, hok' ∘ hok, fun p l => hlists' (hpool p) (hlists p l), fun p l c => ?_, fun p k l c b => ?_⟩
  · exact hcount' (hpool p) (hlists p l) (hcount p l c)
  · exact hbins' (hpool p) (hok k) (hlists p l) (hcount p l c) (hbins p k l c b)

theorem Keeps.of_moves (hmoves : Moves s t) (hlists : PoolAndGross s → ListsAgree s → ListsAgree t)
    (hcount : PoolAndGross s → ListsAgree s → Counted m s → Counted m' t)
    (hbins : PoolAndGross s → BinsOk s → ListsAgree s → Counted m s → BinsAgree s → BinsAgree t) : Keeps m s m' t :=
  ⟨pool_of_moves hmoves, binsOk_of_moves hmoves, hlists, hcount, hbins⟩

/-! ### What touches no record of the registry -/

/-- What changes no order, item, class list or bin, and selects no print but one that may be selected. -/
theorem Keeps.of_selecting {parts : List Machine.Part} (m : List (Nat × Nat)) (h : OnlyChanges parts s t)
    (hparts : ∀ p ∈ ([.orders, .items, .ticketCounter, .classLists, .bins] : List Machine.Part), p ∉ parts)
    (hsel : ListsAgree s → ∀ slot n copy, t.scheduler.selection = some (.print slot n copy) →
      ∃ o i, s.order? slot = some o ∧ o.listed = true ∧ s.orderTable.item? slot n = some i ∧ i.waiting ≠ 0) :
    Keeps m s m t := by
  simp only [List.forall_mem_cons] at hparts
  obtain ⟨horders, hitems, hnext, hlists, hbins, -⟩ := hparts
  have hmoves : Moves s t := .of_onlyChanges h (by simp_all)
  replace horders : t.orderTable.orders = s.orderTable.orders := h .orders horders
  replace hitems : t.orderTable.items = s.orderTable.items := h .items hitems
  replace hbins : t.sort.bins = s.sort.bins := h .bins hbins
  have horder (k : Nat) : t.order? k = s.order? k := by unfold State.order?; rw [horders]
  have hitem (k j : Nat) : t.orderTable.item? k j = s.orderTable.item? k j := by
    rw [item?_eq_bind, item?_eq_bind, horder, hitems]
  have hlist (c : OrderClass) : t.scheduler.classList c = s.scheduler.classList c := by
    obtain ⟨he, hst, hb⟩ := h .classLists hlists
    cases c
    · exact he
    · exact hst
    · exact hb
  refine .of_moves hmoves (fun _ hl => ?_) (fun _ _ hc => ?_) fun _ _ _ _ hb => ?_
  · have hchosen := hsel hl
    rw [listsAgree_iff] at hl ⊢
    obtain ⟨hnodup, hmem, hrising, hsound, -⟩ := hl
    refine ⟨fun c => hlist c ▸ hnodup c, fun c k => ?_, horders ▸ hrising, fun k o ho => hsound k o (horder k ▸ ho), ?_⟩
    · rw [hlist, horder]; exact hmem c k
    · intro slot n copy hprint
      obtain ⟨o, i, ho, hlisted, hi, hwaiting⟩ := hchosen slot n copy hprint
      exact ⟨o, i, (horder slot).trans ho, hlisted, (hitem slot n).trans hi, hwaiting⟩
  · refine ⟨fun k o n i ho hi => hc.1 k o n i (horder k ▸ ho) (hitem k n ▸ hi), fun k n hin => ?_⟩
    rw [horder]
    exact hc.2 k n hin
  · unfold BinsAgree at hb ⊢
    simpa only [horder, hbins] using hb

/-- What changes no order, item, class list or bin, and selects no print. -/
theorem Keeps.of_frame {parts : List Machine.Part} (m : List (Nat × Nat)) (h : OnlyChanges parts s t)
    (hparts : ∀ p ∈ ([.orders, .items, .ticketCounter, .classLists, .bins] : List Machine.Part), p ∉ parts)
    (hsel : ∀ slot n copy, t.scheduler.selection = some (.print slot n copy) →
      s.scheduler.selection = some (.print slot n copy)) : Keeps m s m t :=
  .of_selecting m h hparts fun hl slot n copy hprint => by
    obtain ⟨-, -, -, -, hstands⟩ := (listsAgree_iff s).1 hl
    exact hstands slot n copy (hsel slot n copy hprint)

/-- A change of an order record that the class lists and the counts of copies do not see. -/
def OrderQuiet (o p : Order) : Prop :=
  p.cls = o.cls ∧ p.state = o.state ∧ p.eligibleAt = o.eligibleAt ∧ p.windowEnded = o.windowEnded
    ∧ p.started = o.started ∧ p.items = o.items ∧ (p.cancelNotice = true → o.cancelNotice = true)

theorem orderQuiet_refl (o : Order) : OrderQuiet o o := ⟨rfl, rfl, rfl, rfl, rfl, rfl, id⟩

/-- A change of an order record that no part of the registry sees. -/
def OrderStill (o p : Order) : Prop := OrderQuiet o p ∧ p.ticket = o.ticket ∧ p.bins = o.bins

theorem orderStill_refl (o : Order) : OrderStill o o := ⟨orderQuiet_refl o, rfl, rfl⟩

/-- An item record that keeps its copies where they are. -/
def ItemStill (i j : Item) : Prop := j.waiting = i.waiting ∧ j.onWeb = i.onWeb

theorem itemStill_refl (i : Item) : ItemStill i i := ⟨rfl, rfl⟩

/-- In the keeping of an order. -/
def BinState.owned (x : BinState) : Prop := x = .filling ∨ x = .full ∨ x = .waiting

/-- A bin record that keeps its owner, and with one its ticket and its being owned. -/
def BinStill (b c : Bin) : Prop :=
  c.owner = b.owner ∧ (b.owner.isSome = true → c.ticket = b.ticket ∧ (BinState.owned b.state → BinState.owned c.state))

theorem binStill_refl (b : Bin) : BinStill b b := ⟨rfl, fun _ => ⟨rfl, id⟩⟩

/-- Every bin stays or changes as little as that. -/
def BinsStill (s t : State) : Prop :=
  ∀ n, (Table.get? s.sort.bins n = none ∧ Table.get? t.sort.bins n = none)
    ∨ ∃ b c, Table.get? s.sort.bins n = some b ∧ Table.get? t.sort.bins n = some c ∧ BinStill b c

theorem binsStill_of_bins (h : t.sort.bins = s.sort.bins) : BinsStill s t := by
  intro n
  rw [h]
  cases hb : Table.get? s.sort.bins n with
  | none => exact .inl ⟨rfl, rfl⟩
  | some b => exact .inr ⟨b, b, rfl, rfl, binStill_refl b⟩

theorem order?_back {keeps : Order → Order → Prop} (horders : Recast keeps s.orderTable.orders t.orderTable.orders)
    {k : Nat} {p : Order} (hp : t.order? k = some p) : ∃ o, s.order? k = some o ∧ keeps o p := by
  rcases horders.get? k with ⟨-, hnone⟩ | ⟨o, p', ho, hp', hstill⟩
  · exact absurd (hnone.symm.trans hp) (by simp)
  · obtain rfl : p' = p := Option.some.inj (hp'.symm.trans hp)
    exact ⟨o, ho, hstill⟩

theorem order?_forth {keeps : Order → Order → Prop} (horders : Recast keeps s.orderTable.orders t.orderTable.orders)
    {k : Nat} {o : Order} (ho : s.order? k = some o) : ∃ p, t.order? k = some p ∧ keeps o p := by
  rcases horders.get? k with ⟨hnone, -⟩ | ⟨o', p, ho', hp, hstill⟩
  · exact absurd (hnone.symm.trans ho) (by simp)
  · obtain rfl : o' = o := Option.some.inj (ho'.symm.trans ho)
    exact ⟨p, hp, hstill⟩

section
variable (horders : Recast OrderQuiet s.orderTable.orders t.orderTable.orders)
  (hitems : Recast ItemStill s.orderTable.items t.orderTable.items)
include horders hitems

theorem item?_back {k j : Nat} {i' : Item} (hi' : t.orderTable.item? k j = some i') :
    ∃ i, s.orderTable.item? k j = some i ∧ ItemStill i i' := by
  obtain ⟨p, r, hp, hr, hget⟩ := order?_of_item? hi'
  obtain ⟨o, ho, -, -, -, -, -, hlisted, -⟩ := order?_back horders hp
  rcases hitems.get? r with ⟨-, hnone⟩ | ⟨i, i'', hi, hi'', hstill⟩
  · exact absurd (hnone.symm.trans hget) (by simp)
  · obtain rfl : i'' = i' := Option.some.inj (hi''.symm.trans hget)
    exact ⟨i, (item?_of_order ho (hlisted ▸ hr)).trans hi, hstill⟩

theorem item?_forth {k j : Nat} {i : Item} (hi : s.orderTable.item? k j = some i) :
    ∃ i', t.orderTable.item? k j = some i' ∧ ItemStill i i' := by
  obtain ⟨o, r, ho, hr, hget⟩ := order?_of_item? hi
  obtain ⟨p, hp, -, -, -, -, -, hlisted, -⟩ := order?_forth horders ho
  rcases hitems.get? r with ⟨hnone, -⟩ | ⟨i', i'', hi', hi'', hstill⟩
  · exact absurd (hnone.symm.trans hget) (by simp)
  · obtain rfl : i' = i := Option.some.inj (hi'.symm.trans hget)
    exact ⟨i'', (item?_of_order hp (hlisted.symm ▸ hr)).trans hi'', hstill⟩

theorem listsAgree_of_quiet (hlist : ∀ c, t.scheduler.classList c = s.scheduler.classList c)
    (hsel : t.scheduler.selection = s.scheduler.selection) (hl : ListsAgree s) : ListsAgree t := by
  rw [listsAgree_iff] at hl ⊢
  obtain ⟨hnodup, hmem, hrising, hsound, hstands⟩ := hl
  refine ⟨fun c => hlist c ▸ hnodup c, fun c k => ?_, by rw [horders.keys]; exact hrising, fun k p hp => ?_, ?_⟩
  · rw [hlist, hmem]
    constructor
    · rintro ⟨o, ho, hcls, hlisted⟩
      obtain ⟨p, hp, hcls', hstate, -, hended, -⟩ := order?_forth horders ho
      exact ⟨p, hp, hcls'.trans hcls, by unfold Order.listed at *; rwa [hstate, hended]⟩
    · rintro ⟨p, hp, hcls, hlisted⟩
      obtain ⟨o, ho, hcls', hstate, -, hended, -⟩ := order?_back horders hp
      exact ⟨o, ho, hcls'.symm.trans hcls, by unfold Order.listed at *; rwa [hstate, hended] at hlisted⟩
  · obtain ⟨o, ho, -, hstate, heligible, hended, hstarted, -, hnotice⟩ := order?_back horders hp
    obtain ⟨h1, h2, h3, h4⟩ := hsound k o ho
    refine ⟨?_, ?_, ?_, fun h => ?_⟩
    · rw [hstate, hended, heligible]; exact h1
    · rw [hstarted, hended]; exact h2
    · rw [hstate, hstarted]; exact h3
    · rw [hstate]; exact h4 (hnotice h)
  · intro slot n copy hprint
    obtain ⟨o, i, ho, hlisted, hi, hwaiting⟩ := hstands slot n copy (hsel ▸ hprint)
    obtain ⟨p, hp, -, hstate, -, hended, -⟩ := order?_forth horders ho
    obtain ⟨i', hi', hkept, -⟩ := item?_forth horders hitems hi
    exact ⟨p, i', hp, by unfold Order.listed at *; rwa [hstate, hended], hi', by rwa [hkept]⟩

theorem counted_of_quiet (hc : Counted m s) : Counted m t := by
  refine ⟨fun k p n i' hp hi' => ?_, fun k n hin => ?_⟩
  · obtain ⟨o, ho, -, hstate, -, -, -, -, hnotice⟩ := order?_back horders hp
    obtain ⟨i, hi, hwaiting, honweb⟩ := item?_back horders hitems hi'
    obtain ⟨h1, h2, h3⟩ := hc.1 k o n i ho hi
    refine ⟨honweb.trans h1, fun h => honweb.trans (h2 ?_), fun h => hwaiting.trans (h3 (hstate ▸ h))⟩
    rw [hstate] at h
    exact h.imp_right (Or.imp_right hnotice)
  · obtain ⟨o, ho, hn⟩ := hc.2 k n hin
    obtain ⟨p, hp, -, -, -, -, -, hlisted, -⟩ := order?_forth horders ho
    exact ⟨p, hp, hlisted.symm ▸ hn⟩

end

theorem binsAgree_of_still (horders : Recast OrderStill s.orderTable.orders t.orderTable.orders) (hbins : BinsStill s t)
    (hb : BinsAgree s) : BinsAgree t := by
  refine ⟨fun n c k hc howner => ?_, fun k p hp => ?_⟩
  · rcases hbins n with ⟨-, hnone⟩ | ⟨b, c', hb', hc', howner', hticket⟩
    · exact absurd (hnone.symm.trans hc) (by simp)
    obtain rfl : c' = c := Option.some.inj (hc'.symm.trans hc)
    rw [howner'] at howner
    obtain ⟨o, ho, hticket', hin⟩ := hb.1 n b k hb' howner
    obtain ⟨p, hp, -, hpticket, hpbins⟩ := order?_forth horders ho
    exact ⟨p, hp, by rw [(hticket (by simp [howner])).1, hticket', hpticket], hpbins.symm ▸ hin⟩
  · obtain ⟨o, ho, ⟨-, hstate, -⟩, -, hbinlist⟩ := order?_back horders hp
    obtain ⟨hlen, hnodup, howned, hempty⟩ := hb.2 k o ho
    rw [hbinlist, hstate]
    refine ⟨hlen, hnodup, fun n hn => ?_, hempty⟩
    obtain ⟨b, hb', howner, hb3⟩ := howned n hn
    rcases hbins n with ⟨hnone, -⟩ | ⟨b', c, hb'', hc', hcowner, hkept⟩
    · exact absurd (hnone.symm.trans hb') (by simp)
    obtain rfl : b' = b := Option.some.inj (hb''.symm.trans hb')
    exact ⟨c, hc', hcowner.trans howner, (hkept (by simp [howner])).2 hb3⟩

theorem Keeps.of_still (m : List (Nat × Nat)) (hpool : PoolAndGross s → PoolAndGross t) (hok : BinsOk s → BinsOk t)
    (horders : Recast OrderStill s.orderTable.orders t.orderTable.orders)
    (hitems : Recast ItemStill s.orderTable.items t.orderTable.items)
    (hlist : ∀ c, t.scheduler.classList c = s.scheduler.classList c)
    (hsel : t.scheduler.selection = s.scheduler.selection) (hbins : BinsOk s → BinsStill s t) : Keeps m s m t := by
  have hquiet : Recast OrderQuiet s.orderTable.orders t.orderTable.orders := horders.mono fun _ _ h => h.1
  exact ⟨hpool, hok, fun _ => listsAgree_of_quiet hquiet hitems hlist hsel, fun _ _ => counted_of_quiet hquiet hitems,
    fun _ hk _ _ => binsAgree_of_still horders (hbins hk)⟩

/-! ### What changes one slot -/

/-- Nothing changes beside a slot: neither the other orders nor their items. -/
def Beside (slot : Nat) (s t : State) : Prop :=
  OtherOrdersSame slot s t ∧ ∀ k n, k ≠ slot → t.orderTable.item? k n = s.orderTable.item? k n

/-- The bins the other orders own stay as they are. -/
def OthersBinsSame (slot : Nat) (s t : State) : Prop :=
  ∀ n b k, k ≠ slot → b.owner = some k → (Table.get? t.sort.bins n = some b ↔ Table.get? s.sort.bins n = some b)

/-- The standing selection stays, unless it is of the slot; then it is of a listed order with a copy waiting. -/
def SelectionKept (slot : Nat) (s t : State) : Prop :=
  ∀ k n copy, t.scheduler.selection = some (.print k n copy) →
    (k ≠ slot ∧ s.scheduler.selection = some (.print k n copy))
      ∨ ∃ o i, t.order? k = some o ∧ o.listed = true ∧ t.orderTable.item? k n = some i ∧ i.waiting ≠ 0

theorem beside_of_items {slot : Nat} (horders : OtherOrdersSame slot s t)
    (hitems : t.orderTable.items = s.orderTable.items) : Beside slot s t :=
  ⟨horders, fun k n hk => item?_congr (by rw [horders k hk]) (fun _ _ _ _ => by rw [hitems]) n⟩

theorem othersBinsSame_of_bins {slot : Nat} (hbins : t.sort.bins = s.sort.bins) : OthersBinsSame slot s t :=
  fun n b _ _ _ => by rw [hbins]

/-- A change of the bins of one order's list, of which each keeps its owner or loses it, touches no other order's bin. -/
theorem othersBinsSame_of_modifyAll {slot : Nat} {o : Order} {f : Bin → Bin} (hs : BinsAgree s)
    (ho : s.order? slot = some o) (hbins : t.sort.bins = Table.modifyAll s.sort.bins o.bins f)
    (hf : ∀ b, (f b).owner = b.owner ∨ (f b).owner = none) : OthersBinsSame slot s t := by
  intro n b k hk howner
  rw [hbins, get?_modifyAll]
  split
  · next hin =>
    obtain ⟨-, -, hnamed, -⟩ := hs.2 slot o ho
    obtain ⟨c, hc, hcowner, -⟩ := hnamed n hin
    rw [hc]
    refine iff_of_false (fun h => ?_) fun h => ?_
    · obtain rfl : f c = b := by simpa using h
      rcases hf c with hkeep | hnone
      · exact hk (Option.some.inj (howner.symm.trans (hkeep.trans hcowner)))
      · simp [hnone] at howner
    · obtain rfl : c = b := Option.some.inj h
      exact hk (Option.some.inj (howner.symm.trans hcowner))
  · rfl

theorem listsAgree_of_beside {slot : Nat} (hrising : (t.orderTable.orders.map Prod.fst).Pairwise (· < ·))
    (hbeside : Beside slot s t)
    (hothers : ∀ c k, k ≠ slot → (k ∈ t.scheduler.classList c ↔ k ∈ s.scheduler.classList c))
    (hnodup : ∀ c, (t.scheduler.classList c).Nodup)
    (hslot : ∀ c, slot ∈ t.scheduler.classList c ↔ ∃ o, t.order? slot = some o ∧ o.cls = c ∧ o.listed = true)
    (hsound : ∀ o, t.order? slot = some o → OrderSound o) (hsel : SelectionKept slot s t) (hs : ListsAgree s) :
    ListsAgree t := by
  obtain ⟨horders, hitems⟩ := hbeside
  rw [listsAgree_iff] at hs ⊢
  obtain ⟨-, hmem, -, hsounds, hstands⟩ := hs
  refine ⟨hnodup, fun c k => ?_, hrising, fun k o ho => ?_, fun k n copy hprint => ?_⟩
  · by_cases hk : k = slot
    · exact hk ▸ hslot c
    · rw [hothers c k hk, hmem, horders k hk]
  · by_cases hk : k = slot
    · exact hsound o (hk ▸ ho)
    · exact hsounds k o (horders k hk ▸ ho)
  · rcases hsel k n copy hprint with ⟨hk, hsame⟩ | hstand
    · obtain ⟨o, i, ho, hlisted, hi, hwaiting⟩ := hstands k n copy hsame
      exact ⟨o, i, (horders k hk).trans ho, hlisted, (hitems k n hk).trans hi, hwaiting⟩
    · exact hstand

theorem counted_of_beside {slot : Nat} (hbeside : Beside slot s t)
    (hcounts : ∀ k n, k ≠ slot → m'.count (k, n) = m.count (k, n))
    (hslot : ∀ o n i, t.order? slot = some o → t.orderTable.item? slot n = some i → CopyCounted (m'.count (slot, n)) o i)
    (hlisted : ∀ n, (slot, n) ∈ m' → ∃ o, t.order? slot = some o ∧ n < o.items.length) (hs : Counted m s) :
    Counted m' t := by
  obtain ⟨horders, hitems⟩ := hbeside
  refine ⟨fun k o n i ho hi => ?_, fun k n hin => ?_⟩
  · by_cases hk : k = slot
    · subst hk; exact hslot o n i ho hi
    · rw [hcounts k n hk]
      exact hs.1 k o n i (horders k hk ▸ ho) (hitems k n hk ▸ hi)
  · by_cases hk : k = slot
    · subst hk; exact hlisted n hin
    · rw [horders k hk]
      refine hs.2 k n (List.count_pos_iff.1 ?_)
      rw [← hcounts k n hk]
      exact List.count_pos_iff.2 hin

theorem binsAgree_of_beside {slot : Nat} (hbeside : Beside slot s t) (hbins : OthersBinsSame slot s t)
    (hkept : ∀ n b, Table.get? t.sort.bins n = some b → b.owner = some slot → KeptFor t slot n b)
    (hlists : ∀ o, t.order? slot = some o → ListsBins t slot o) (hs : BinsAgree s) : BinsAgree t := by
  obtain ⟨horders, -⟩ := hbeside
  rw [binsAgree_iff] at hs ⊢
  obtain ⟨hkepts, hlistss⟩ := hs
  refine ⟨fun n b k hb howner => ?_, fun k o ho => ?_⟩
  · by_cases hk : k = slot
    · subst hk; exact hkept n b hb howner
    · obtain ⟨o, ho, hrest⟩ := hkepts n b k ((hbins n b k hk howner).1 hb) howner
      exact ⟨o, (horders k hk).trans ho, hrest⟩
  · by_cases hk : k = slot
    · subst hk; exact hlists o ho
    · obtain ⟨hlen, hnodup, hnamed, hnone⟩ := hlistss k o (horders k hk ▸ ho)
      refine ⟨hlen, hnodup, fun n hn => ?_, hnone⟩
      obtain ⟨b, hb, howner, hstate⟩ := hnamed n hn
      exact ⟨b, (hbins n b k hk howner).2 hb, howner, hstate⟩

/-! ### The class lists after a slot has left or joined -/

/-- A slot that has left the list of its class stands in none. -/
theorem listsAgree_of_removed {slot : Nat} {o : Order} (ho : s.order? slot = some o)
    (hrising : (t.orderTable.orders.map Prod.fst).Pairwise (· < ·)) (hbeside : Beside slot s t)
    (hremoved : RemovedFromList o.cls slot s t)
    (hunlisted : ∀ p, t.order? slot = some p → p.listed = false ∧ OrderSound p)
    (hsel : SelectionKept slot s t) (hs : ListsAgree s) : ListsAgree t := by
  obtain ⟨hnodup, hmem, -⟩ := (listsAgree_iff s).1 hs
  have hslot (c : OrderClass) : slot ∉ t.scheduler.classList c := by
    rw [hremoved]
    split
    · simp
    · next hc =>
      intro hin
      obtain ⟨p, hp, hcls, -⟩ := (hmem c slot).1 hin
      obtain rfl : p = o := Option.some.inj (hp.symm.trans ho)
      exact hc hcls.symm
  refine listsAgree_of_beside hrising hbeside (fun c k hk => ?_) (fun c => ?_) (fun c => ?_)
    (fun p hp => (hunlisted p hp).2) hsel hs
  · rw [hremoved]
    split <;> simp [hk]
  · rw [hremoved]
    split
    · exact (hnodup c).filter _
    · exact hnodup c
  · refine iff_of_false (hslot c) ?_
    rintro ⟨p, hp, -, hlisted⟩
    rw [(hunlisted p hp).1] at hlisted
    exact Bool.false_ne_true hlisted

/-- A slot whose order is listed as before keeps its place. -/
theorem listsAgree_of_same_lists {slot : Nat} {o p : Order} (ho : s.order? slot = some o) (hp : t.order? slot = some p)
    (hrising : (t.orderTable.orders.map Prod.fst).Pairwise (· < ·)) (hbeside : Beside slot s t)
    (hlists : ∀ c, t.scheduler.classList c = s.scheduler.classList c) (hcls : p.cls = o.cls) (hlisted : p.listed = o.listed)
    (hsound : OrderSound p) (hsel : SelectionKept slot s t) (hs : ListsAgree s) : ListsAgree t := by
  obtain ⟨hnodup, hmem, -⟩ := (listsAgree_iff s).1 hs
  refine listsAgree_of_beside hrising hbeside (fun c k _ => by rw [hlists]) (fun c => hlists c ▸ hnodup c) (fun c => ?_)
    (fun q hq => ?_) hsel hs
  · rw [hlists, hmem]
    simp [ho, hp, hcls, hlisted]
  · obtain rfl : q = p := Option.some.inj (hq.symm.trans hp)
    exact hsound

/-- A slot that joins the list of its class where its order comes to be listed. -/
theorem listsAgree_of_appended {slot : Nat} {o p : Order} {joins : Prop} [Decidable joins] (ho : s.order? slot = some o)
    (hp : t.order? slot = some p) (hrising : (t.orderTable.orders.map Prod.fst).Pairwise (· < ·))
    (hbeside : Beside slot s t) (happended : AppendedToListIf joins o.cls slot s t) (hcls : p.cls = o.cls)
    (hunlisted : o.listed = false) (hlisted : p.listed = true ↔ joins) (hsound : OrderSound p)
    (hsel : SelectionKept slot s t) (hs : ListsAgree s) : ListsAgree t := by
  obtain ⟨hnodup, hmem, -⟩ := (listsAgree_iff s).1 hs
  have hout (c : OrderClass) : slot ∉ s.scheduler.classList c := by
    rw [hmem]
    rintro ⟨q, hq, -, hlisted⟩
    obtain rfl : q = o := Option.some.inj (hq.symm.trans ho)
    simp [hunlisted] at hlisted
  refine listsAgree_of_beside hrising hbeside (fun c k hk => ?_) (fun c => ?_) (fun c => ?_) (fun q hq => ?_) hsel hs
  · rw [happended]
    split <;> simp [hk]
  · rw [happended]
    split
    · exact (hnodup c).append (List.nodup_singleton slot) (by simpa using hout c)
    · exact hnodup c
  · rw [happended]
    simp only [hp, Option.some.injEq, exists_eq_left', hcls, hlisted]
    split
    · next h => simp [h.1, h.2]
    · next h =>
      refine iff_of_false (hout c) fun hjoins => h ⟨hjoins.1.symm, hjoins.2⟩
  · obtain rfl : q = p := Option.some.inj (hq.symm.trans hp)
    exact hsound

end

end Sys2Proof.Registry

/-! What each operation on orders, items and bins keeps of the registry. -/

namespace Sys2Proof.Registry

open Sys2Proof.Machine Sys2Proof.Laws Sys2Proof.OrdersAndItems Sys2Proof.Magazines Sys2Proof.Sorting Sys2Proof.Till
open Sys2Proof.Steps Sys2Proof.WebMap Sys2Proof.Pool

/-! ## Readings after an operation -/

section
variable {s : State} {slot : Nat} {o : Order}

theorem rising_of_pool {s : State} (h : PoolAndGross s) : (s.orderTable.orders.map Prod.fst).Pairwise (· < ·) := by
  obtain ⟨-, -, h, -⟩ := h
  exact h

theorem otherOrdersSame_modifyOrder (s : State) (slot : Nat) (f : Order → Order) :
    OtherOrdersSame slot s (s.modifyOrder slot f) := fun k hk => by rw [order?_modifyOrder, if_neg hk]

theorem removed_delist (ho : s.order? slot = some o) : RemovedFromList o.cls slot s (s.delist slot) := by
  intro k
  unfold State.delist
  simp only [ho]
  cases hc : o.cls <;> cases k <;> simp [Scheduler.remove, Scheduler.classList, hc]

@[simp] theorem classList_modifyOrder (s : State) (slot : Nat) (f : Order → Order) (c : OrderClass) :
    (s.modifyOrder slot f).scheduler.classList c = s.scheduler.classList c := rfl

theorem classList_of_same {s t : State} (h : Same s t .classLists) (c : OrderClass) :
    t.scheduler.classList c = s.scheduler.classList c := by
  obtain ⟨he, hst, hb⟩ := h
  cases c
  · exact he
  · exact hst
  · exact hb

@[simp] theorem classList_voidSelectionOf (s : State) (slot : Nat) (c : OrderClass) :
    (s.voidSelectionOf slot).scheduler.classList c = s.scheduler.classList c :=
  classList_of_same (onlyChanges_voidSelectionOf s slot .classLists (by decide)) c

theorem selection_voidSelectionOf (s : State) (slot : Nat) :
    (s.voidSelectionOf slot).scheduler.selection = if s.scheduler.selects slot = true then none else s.scheduler.selection := by
  unfold State.voidSelectionOf State.voidSelection
  split
  · next h =>
    have : s.scheduler.selection.isSome = true := by
      unfold Scheduler.selects at h
      split at h
      · next hsel => simp [hsel]
      · cases h
    simp [this]
  · rfl

theorem selects_of_selection {sch : Scheduler} {slot n copy : Nat} (h : sch.selection = some (.print slot n copy)) :
    sch.selects slot = true := by simp [Scheduler.selects, h]

/-- A standing selection of another slot stays. -/
theorem selectionKept_of_voided {s t : State} {slot : Nat}
    (hsel : t.scheduler.selection = if s.scheduler.selects slot = true then none else s.scheduler.selection) :
    SelectionKept slot s t := by
  intro k n copy hprint
  rw [hsel] at hprint
  split at hprint
  · cases hprint
  · next hselects =>
    refine .inl ⟨?_, hprint⟩
    rintro rfl
    exact hselects (selects_of_selection hprint)

/-- Where no copy of the slot's order waits or its order is not listed, the selection is of another. -/
theorem selectionKept_of_idle {s t : State} {slot : Nat} (hs : ListsAgree s)
    (hidle : ∀ o n i, s.order? slot = some o → s.orderTable.item? slot n = some i → o.listed = true → i.waiting = 0)
    (hsel : t.scheduler.selection = s.scheduler.selection) : SelectionKept slot s t := by
  intro k n copy hprint
  rw [hsel] at hprint
  refine .inl ⟨?_, hprint⟩
  rintro rfl
  obtain ⟨-, -, -, -, hstands⟩ := (listsAgree_iff s).1 hs
  obtain ⟨o, i, ho, hlisted, hi, hwaiting⟩ := hstands k n copy hprint
  exact hwaiting (hidle o n i ho hi hlisted)

/-! ### Nothing left, drained -/

theorem mem_itemsOf (ho : s.order? slot = some o) {i : Item} :
    i ∈ s.orderTable.itemsOf slot ↔ ∃ n, s.orderTable.item? slot n = some i := by
  unfold State.order? at ho
  simp only [OrderTable.itemsOf, ho, List.mem_filterMap]
  constructor
  · rintro ⟨r, hr, hi⟩
    obtain ⟨n, hn⟩ := List.mem_iff_getElem?.1 hr
    exact ⟨n, (item?_of_order (s := s) ho hn).trans hi⟩
  · rintro ⟨n, hi⟩
    obtain ⟨r, hr, hget⟩ := (item?_eq_some (s := s) ho).1 hi
    exact ⟨r, List.mem_of_getElem? hr, hget⟩

theorem nothingLeft_iff (ho : s.order? slot = some o) : s.orderTable.nothingLeft slot = true ↔
    ∀ n i, s.orderTable.item? slot n = some i → i.waiting = 0 ∧ i.onWeb = 0 := by
  simp only [OrderTable.nothingLeft, List.all_eq_true, mem_itemsOf ho, Bool.and_eq_true, beq_iff_eq, forall_exists_index]
  exact ⟨fun h n i hi => h i n hi, fun h i n hi => h n i hi⟩

theorem drained_iff (ho : s.order? slot = some o) : s.orderTable.drained slot = true ↔
    ∀ n i, s.orderTable.item? slot n = some i → i.onWeb = 0 := by
  simp only [OrderTable.drained, List.all_eq_true, mem_itemsOf ho, beq_iff_eq, forall_exists_index]
  exact ⟨fun h n i hi => h i n hi, fun h i n hi => h n i hi⟩

/-! ### One order record changed -/

theorem item?_modifyOrder (s : State) (slot : Nat) {f : Order → Order} (hf : ∀ o, (f o).items = o.items) (k j : Nat) :
    (s.modifyOrder slot f).orderTable.item? k j = s.orderTable.item? k j := by
  refine item?_congr (s := s) (t := s.modifyOrder slot f) ?_ (fun _ _ _ _ => rfl) j
  rw [order?_modifyOrder]
  split
  · next h =>
    subst h
    cases s.order? k with
    | none => rfl
    | some o => exact congrArg some (hf o)
  · rfl

/-- A change of one record that leaves it listed as it was, and its bins. -/
theorem keeps_order (m : List (Nat × Nat)) {f : Order → Order} (ho : s.order? slot = some o)
    (hf : ∀ o, OrderKeeps o (f o)) (hcls : (f o).cls = o.cls)
    (hlisted : ListsAgree s → (f o).listed = o.listed ∧ OrderSound (f o))
    (hcounted : Counted m s → ∀ n i, s.orderTable.item? slot n = some i → CopyCounted (m.count (slot, n)) (f o) i)
    (hbins : BinsAgree s → (f o).bins = o.bins ∧ ((f o).state = .opened ∨ (f o).state = .withdrawn → o.bins = [])) :
    Keeps m s m (s.modifyOrder slot f) := by
  have hmoves : Moves s (s.modifyOrder slot f) := .order s slot hf
  have hbeside : Beside slot s (s.modifyOrder slot f) := beside_of_items (otherOrdersSame_modifyOrder s slot f) rfl
  have horder : (s.modifyOrder slot f).order? slot = some (f o) := by rw [order?_modifyOrder, if_pos rfl, ho]; rfl
  have hitem := item?_modifyOrder s slot fun o => (hf o).2.1
  refine .of_moves hmoves (fun hp hl => ?_) (fun _ _ hc => ?_) fun _ _ _ _ hb => ?_
  · obtain ⟨hsame, hsound⟩ := hlisted hl
    refine listsAgree_of_same_lists ho horder (rising_of_pool (pool_of_moves hmoves hp)) hbeside (fun _ => rfl) hcls hsame
      hsound (fun k n copy hprint => ?_) hl
    obtain ⟨-, -, -, -, hstands⟩ := (listsAgree_iff s).1 hl
    obtain ⟨p, i, hp, hplisted, hi, hwaiting⟩ := hstands k n copy hprint
    by_cases hk : k = slot
    · subst hk
      obtain rfl : p = o := Option.some.inj (hp.symm.trans ho)
      exact .inr ⟨f p, i, horder, hsame.trans hplisted, (hitem k n).trans hi, hwaiting⟩
    · exact .inl ⟨hk, hprint⟩
  · refine counted_of_beside hbeside (fun _ _ _ => rfl) (fun p n i hp hi => ?_) (fun n hin => ?_) hc
    · obtain rfl : f o = p := Option.some.inj (horder.symm.trans hp)
      exact hcounted hc n i (hitem slot n ▸ hi)
    · obtain ⟨p, hp, hn⟩ := hc.2 slot n hin
      obtain rfl : p = o := Option.some.inj (hp.symm.trans ho)
      exact ⟨f p, horder, (hf p).2.1.symm ▸ hn⟩
  · obtain ⟨hsame, hempty⟩ := hbins hb
    obtain ⟨hlen, hnodup, hnamed, -⟩ := hb.2 slot o ho
    refine binsAgree_of_beside hbeside (othersBinsSame_of_bins rfl) (fun n b hget howner => ?_) (fun p hp => ?_) hb
    · obtain ⟨p, hp, hticket, hin⟩ := hb.1 n b slot hget howner
      obtain rfl : p = o := Option.some.inj (hp.symm.trans ho)
      exact ⟨f p, horder, hticket.trans (congrArg some (hf p).1.symm), hsame.symm ▸ hin⟩
    · obtain rfl : f o = p := Option.some.inj (horder.symm.trans hp)
      rw [ListsBins, hsame]
      exact ⟨hlen, hnodup, hnamed, hempty⟩

/-! ### Completion -/

/-- The record of an order that goes to COMPLETE (R15, R32). -/
def completed (o : Order) : Order := { o with state := .complete, completeUnreported := true, paperWait := none }

theorem order?_completeOrder (s : State) (slot k : Nat) :
    (s.completeOrder slot).order? k = if k = slot then (s.order? slot).map completed else s.order? k := by
  have htable : (s.completeOrder slot).orderTable
      = ((s.modifyOrder slot fun o => { o with state := .complete, completeUnreported := true }).delist slot).orderTable := by
    unfold State.completeOrder
    simp
  unfold State.order?
  rw [htable]
  refine (order?_delist _ slot k).trans ?_
  rw [order?_modifyOrder, if_pos rfl, order?_modifyOrder, Option.map_map]
  by_cases hk : k = slot
  · rw [if_pos hk, if_pos hk]; rfl
  · rw [if_neg hk, if_neg hk, if_neg hk]; rfl

theorem removed_completeOrder (ho : s.order? slot = some o) : RemovedFromList o.cls slot s (s.completeOrder slot) := by
  have hmodified : (s.modifyOrder slot fun o => { o with state := .complete, completeUnreported := true }).order? slot
      = some { o with state := .complete, completeUnreported := true } := by rw [order?_modifyOrder, if_pos rfl, ho]; rfl
  intro k
  unfold State.completeOrder
  rw [abortTrailingWorkOf_scheduler, binsToWaiting_scheduler]
  exact removed_delist hmodified k

theorem bins_completeOrder (ho : s.order? slot = some o) : (s.completeOrder slot).sort.bins
    = Table.modifyAll s.sort.bins o.bins (Bin.toWaiting s.timeBase s.sort.uncollectedTime) := by
  have hbins : State.binsOf ((s.modifyOrder slot fun o => { o with state := .complete, completeUnreported := true }).delist
      slot) slot = o.bins := by
    unfold State.binsOf
    rw [order?_delist, if_pos rfl, order?_modifyOrder, if_pos rfl, ho]
    rfl
  unfold State.completeOrder
  rw [abortTrailingWorkOf_sort]
  unfold State.binsToWaiting
  rw [hbins]
  simp [State.modifyOrder]

theorem toWaiting_owner (now : Word32) (minutes : Nat) (b : Bin) :
    (b.toWaiting now minutes).owner = b.owner ∧ (b.toWaiting now minutes).ticket = b.ticket := by
  unfold Bin.toWaiting
  split <;> exact ⟨rfl, rfl⟩

theorem toWaiting_state (now : Word32) (minutes : Nat) {b : Bin}
    (h : b.state = .filling ∨ b.state = .full ∨ b.state = .waiting) : (b.toWaiting now minutes).state = .waiting := by
  unfold Bin.toWaiting
  split
  · rfl
  · simp_all

/-- R15: an order with nothing left goes to COMPLETE. -/
theorem keeps_completeOrder (m : List (Nat × Nat)) (ho : s.order? slot = some o)
    (hstate : o.state = .ready ∨ o.state = .inPrint ∨ o.state = .held) (hleft : s.orderTable.nothingLeft slot = true) :
    Keeps m s m (s.completeOrder slot) := by
  rw [nothingLeft_iff ho] at hleft
  have hmoves := moves_completeOrder s slot
  have hitems : (s.completeOrder slot).orderTable.items = s.orderTable.items := completeOrder_orderTable_items s slot
  have hbeside : Beside slot s (s.completeOrder slot) :=
    beside_of_items (fun k hk => by rw [order?_completeOrder, if_neg hk]) hitems
  have horder : (s.completeOrder slot).order? slot = some (completed o) := by rw [order?_completeOrder, if_pos rfl, ho]; rfl
  have hitem (n : Nat) : (s.completeOrder slot).orderTable.item? slot n = s.orderTable.item? slot n :=
    item?_congr (by rw [horder, ho]; rfl) (fun _ _ _ _ => by rw [hitems]) n
  refine .of_moves hmoves (fun hp hl => ?_) (fun _ _ hc => ?_) fun _ _ _ _ hb => ?_
  · obtain ⟨-, -, -, hsound, -⟩ := (listsAgree_iff s).1 hl
    obtain ⟨-, hstarted, -, hnotice⟩ := hsound slot o ho
    refine listsAgree_of_removed ho (rising_of_pool (pool_of_moves hmoves hp)) hbeside (removed_completeOrder ho)
      (fun p hp => ?_) (selectionKept_of_idle hl (fun _ n i _ hi _ => (hleft n i hi).1) (by simp)) hl
    obtain rfl : completed o = p := Option.some.inj (horder.symm.trans hp)
    refine ⟨rfl, nofun, hstarted, nofun, fun h => ?_⟩
    have := hnotice h
    simp [this] at hstate
  · refine counted_of_beside hbeside (fun _ _ _ => rfl) (fun p n i hp hi => ?_) (fun n hin => ?_) hc
    · rw [hitem] at hi
      exact ⟨(hc.1 slot o n i ho hi).1, fun _ => (hleft n i hi).2, fun _ => (hleft n i hi).1⟩
    · obtain ⟨p, hp, hn⟩ := hc.2 slot n hin
      obtain rfl : p = o := Option.some.inj (hp.symm.trans ho)
      exact ⟨completed p, horder, hn⟩
  · obtain ⟨hlen, hnodup, hnamed, -⟩ := hb.2 slot o ho
    have hview (n : Nat) := congrArg (Table.get? · n) (bins_completeOrder ho)
    simp only [get?_modifyAll] at hview
    refine binsAgree_of_beside hbeside (othersBinsSame_of_modifyAll hb ho (bins_completeOrder ho)
      fun b => .inl (toWaiting_owner _ _ b).1) (fun n b hget howner => ?_) (fun p hp => ?_) hb
    · refine ⟨completed o, horder, ?_⟩
      rw [hview] at hget
      split at hget
      · next hin =>
        obtain ⟨c, hc, rfl⟩ := Option.map_eq_some_iff.1 hget
        rw [(toWaiting_owner _ _ c).1] at howner
        rw [(toWaiting_owner _ _ c).2]
        obtain ⟨q, hq, hticket, -⟩ := hb.1 n c slot hc howner
        obtain rfl : q = o := Option.some.inj (hq.symm.trans ho)
        exact ⟨hticket, hin⟩
      · next hout =>
        obtain ⟨q, hq, hticket, hin⟩ := hb.1 n b slot hget howner
        obtain rfl : q = o := Option.some.inj (hq.symm.trans ho)
        exact absurd hin hout
    · obtain rfl : completed o = p := Option.some.inj (horder.symm.trans hp)
      refine ⟨hlen, hnodup, fun n hn => ?_, by simp [completed]⟩
      obtain ⟨b, hget, howner, hbstate⟩ := hnamed n hn
      refine ⟨_, (hview n).trans ((if_pos (show n ∈ o.bins from hn)).trans (by rw [hget]; rfl)), ?_, ?_⟩
      · rw [(toWaiting_owner _ _ b).1, howner]
      · rw [toWaiting_state _ _ hbstate]; simp

/-! ### Freed records -/

/-- R24: the record of an order is freed that is unlisted, has no copy on the web and owns no bin. -/
theorem keeps_freeRecord {m : List (Nat × Nat)} (ho : s.order? slot = some o) (hunlisted : o.listed = false)
    (hweb : Counted m s → ∀ n i, s.orderTable.item? slot n = some i → i.onWeb = 0)
    (hnobins : BinsAgree s → o.bins = []) : Keeps m s m (s.freeRecord slot) := by
  have hgone : (s.freeRecord slot).order? slot = none := by rw [order?_freeRecord, if_pos rfl]
  have hbeside (hp : PoolAndGross s) : Beside slot s (s.freeRecord slot) :=
    ⟨fun k hk => by rw [order?_freeRecord, if_neg hk], fun k n hk => by rw [item?_freeRecord hp, if_neg hk]⟩
  refine .of_moves (.free s slot) (fun hp hl => ?_) (fun hp _ hc => ?_) fun hp _ _ _ hb => ?_
  · obtain ⟨hnodup, hmem, -⟩ := (listsAgree_iff s).1 hl
    have hsame (c : OrderClass) : (s.freeRecord slot).scheduler.classList c = s.scheduler.classList c := by simp
    refine listsAgree_of_beside (rising_of_pool (pool_freeRecord slot hp)) (hbeside hp) (fun c k _ => by rw [hsame])
      (fun c => hsame c ▸ hnodup c) (fun c => ?_) (fun p hp => ?_)
      (selectionKept_of_idle hl (fun p n i hp _ hlisted => ?_) (by simp)) hl
    · rw [hsame, hmem, hgone, ho]
      simp [hunlisted]
    · simp [hgone] at hp
    · obtain rfl : p = o := Option.some.inj (hp.symm.trans ho)
      simp [hunlisted] at hlisted
  · refine counted_of_beside (hbeside hp) (fun _ _ _ => rfl) (fun p n i hp' _ => ?_) (fun n hin => ?_) hc
    · simp [hgone] at hp'
    · obtain ⟨p, i, hp', hi, hpos, -⟩ := hc.owner hp hin
      exact absurd (hweb hc n i hi) hpos.ne'
  · refine binsAgree_of_beside (hbeside hp) (othersBinsSame_of_bins (by simp)) (fun n b hget howner => ?_) (fun p hp' => ?_) hb
    · rw [freeRecord_sort] at hget
      obtain ⟨p, hp', -, hin⟩ := hb.1 n b slot hget howner
      obtain rfl : p = o := Option.some.inj (hp'.symm.trans ho)
      simp [hnobins hb] at hin
    · simp [hgone] at hp'

/-- A record changed before it is freed is freed all the same. -/
theorem freeRecord_modifyOrder (s : State) (slot : Nat) {f : Order → Order} (hf : ∀ o, (f o).items = o.items) :
    (s.modifyOrder slot f).freeRecord slot = s.freeRecord slot := by
  have hrefs : (s.modifyOrder slot f).orderTable.refsOf slot = s.orderTable.refsOf slot := by
    unfold OrderTable.refsOf State.modifyOrder OrderTable.modifyOrder
    dsimp only
    rw [get?_modify_self]
    cases Table.get? s.orderTable.orders slot with
    | none => rfl
    | some o => exact hf o
  have horders : Table.erase (Table.modify s.orderTable.orders slot f) slot = Table.erase s.orderTable.orders slot := by
    unfold Table.erase Table.modify
    rw [List.filter_map]
    induction s.orderTable.orders with
    | nil => rfl
    | cons p rest ih =>
      simp only [List.filter_cons, Function.comp_apply]
      by_cases hp : p.1 = slot
      · simpa [hp] using ih
      · simpa [hp] using ih
  unfold State.freeRecord
  rw [hrefs]
  simp only [State.modifyOrder, OrderTable.modifyOrder, horders]

/-! ### The checks of R15 and R21 -/

/-- R15: the order has nothing left and goes to COMPLETE. -/
def completes (s : State) (slot : Nat) (o : Order) : Bool :=
  (o.state == .ready || o.state == .inPrint || o.state == .held) && s.orderTable.nothingLeft slot

/-- R21: the order is WITHDRAWN and drained. -/
def drains (s : State) (slot : Nat) (o : Order) : Bool := o.state == .withdrawn && s.orderTable.drained slot

theorem accountCheck_of_order (ho : s.order? slot = some o) : s.accountCheck slot =
    if completes s slot o = true then s.completeOrder slot
    else if drains s slot o = true then s.drainOrder slot o else s := by
  unfold State.accountCheck completes drains
  rw [ho]
  cases hstate : o.state <;> simp [hstate]

theorem accountCheck_of_free (ho : s.order? slot = none) : s.accountCheck slot = s := by
  unfold State.accountCheck
  rw [ho]

/-- R21: a drained WITHDRAWN order takes its notice or is freed. -/
theorem keeps_drainOrder (m : List (Nat × Nat)) (ho : s.order? slot = some o) (hstate : o.state = .withdrawn)
    (hdrained : s.orderTable.drained slot = true) : Keeps m s m (s.drainOrder slot o) := by
  rw [drained_iff ho] at hdrained
  have hunlisted : o.listed = false := by simp [Order.listed, hstate]
  unfold State.drainOrder
  split
  · refine keeps_order m ho (fun _ => ⟨rfl, rfl, rfl⟩) rfl (fun hl => ⟨rfl, ?_⟩) (fun hc n i hi => ?_) fun hb => ⟨rfl, ?_⟩
    · obtain ⟨-, -, -, hsound, -⟩ := (listsAgree_iff s).1 hl
      obtain ⟨hopened, hstarted, hprint, -⟩ := hsound slot o ho
      exact ⟨hopened, hstarted, hprint, fun _ => hstate⟩
    · exact ⟨(hc.1 slot o n i ho hi).1, fun _ => hdrained n i hi, by simp [hstate]⟩
    · obtain ⟨-, -, -, hnone⟩ := hb.2 slot o ho
      exact hnone
  · split
    · refine keeps_freeRecord ho hunlisted (fun _ => hdrained) fun hb => ?_
      obtain ⟨-, -, -, hnone⟩ := hb.2 slot o ho
      exact hnone (.inr hstate)
    · exact .refl m s

theorem keeps_accountCheck (m : List (Nat × Nat)) (s : State) (slot : Nat) : Keeps m s m (s.accountCheck slot) := by
  cases ho : s.order? slot with
  | none => rw [accountCheck_of_free ho]; exact .refl m s
  | some o =>
    rw [accountCheck_of_order ho]
    split
    · next h =>
      simp only [completes, Bool.and_eq_true, Bool.or_eq_true, beq_iff_eq, or_assoc] at h
      exact keeps_completeOrder m ho h.1 h.2
    · split
      · next h =>
        simp only [drains, Bool.and_eq_true, beq_iff_eq] at h
        exact keeps_drainOrder m ho h.1 h.2
      · exact .refl m s

end

/-! ## Items -/

section
variable {s : State} {slot n : Nat}

theorem keeps_item {m m' : List (Nat × Nat)} (s : State) (slot n : Nat) {f : Item → Item} (hf : ∀ i, ItemKeeps i (f i))
    (hwaiting : ∀ i, i.waiting ≠ 0 → (f i).waiting ≠ 0)
    (hcounted : ∀ o i, CopyCounted (m.count (slot, n)) o i → CopyCounted (m'.count (slot, n)) o (f i))
    (hothers : ∀ p, p ≠ (slot, n) → m'.count p = m.count p) (hlisted : (slot, n) ∈ m' → (slot, n) ∈ m) :
    Keeps m s m' { s with orderTable := s.orderTable.modifyItem slot n f } := by
  have hmoves : Moves s { s with orderTable := s.orderTable.modifyItem slot n f } :=
    moves_items (recast_modifyItem s.orderTable slot n hf) rfl rfl
  refine .of_moves hmoves (fun hp hl => ?_) (fun hp _ hc => ⟨fun k o j i ho hi => ?_, fun k j hin => ?_⟩) fun _ _ _ _ hb => hb
  · rw [listsAgree_iff] at hl ⊢
    obtain ⟨hnodup, hmem, hrising, hsound, hstands⟩ := hl
    refine ⟨hnodup, hmem, hrising, hsound, fun k j copy hprint => ?_⟩
    obtain ⟨o, i, ho, holisted, hi, hwait⟩ := hstands k j copy hprint
    by_cases hk : k = slot ∧ j = n
    · obtain ⟨rfl, rfl⟩ := hk
      exact ⟨o, f i, ho, holisted, by simp [item?_modifyItem hp, hi], hwaiting i hwait⟩
    · exact ⟨o, i, ho, holisted, by rw [item?_modifyItem hp, if_neg hk, hi], hwait⟩
  · rw [item?_modifyItem hp] at hi
    split at hi
    · next h =>
      obtain ⟨rfl, rfl⟩ := h
      obtain ⟨j', hj', rfl⟩ := Option.map_eq_some_iff.1 hi
      exact hcounted o j' (hc.1 k o j j' ho hj')
    · next h =>
      rw [hothers (k, j) (by simpa using h)]
      exact hc.1 k o j i ho hi
  · by_cases hk : (k, j) = (slot, n)
    · rw [hk] at hin
      obtain ⟨rfl, rfl⟩ := Prod.mk.inj hk
      exact hc.2 k j (hlisted hin)
    · refine hc.2 k j (List.count_pos_iff.1 ?_)
      rw [← hothers (k, j) hk]
      exact List.count_pos_iff.2 hin

/-- A copy on the web is of an order with none of what keeps its copies off it. -/
theorem copyCounted_leaves {count : Nat} {o : Order} {i j : Item} (h : CopyCounted (count + 1) o i)
    (hj : j.onWeb = i.onWeb - 1) : CopyCounted count o j := by
  obtain ⟨hcount, hquiet, -⟩ := h
  refine ⟨by omega, fun hq => ?_, fun hq => ?_⟩
  · have := hquiet hq; omega
  · have := hquiet (.inr (.inl hq)); omega

theorem keeps_leaves (m : List (Nat × Nat)) (s : State) (slot n : Nat) {f : Item → Item} (hf : ∀ i, ItemKeeps i (f i))
    (hwaiting : ∀ i, i.waiting ≠ 0 → (f i).waiting ≠ 0) (honweb : ∀ i, (f i).onWeb = i.onWeb - 1) :
    Keeps ((slot, n) :: m) s m { s with orderTable := s.orderTable.modifyItem slot n f } := by
  refine keeps_item s slot n hf hwaiting (fun o i h => ?_) (fun p hp => ?_) (List.mem_cons_of_mem _)
  · rw [List.count_cons_self] at h
    exact copyCounted_leaves h (honweb i)
  · rw [List.count_cons_of_ne hp.symm]

theorem onWeb_remake (i : Item) : i.remake.onWeb = i.onWeb - 1 := by unfold Item.remake; split <;> simp_all

theorem onWeb_writeOff (i : Item) : i.writeOff.onWeb = i.onWeb - 1 := by unfold Item.writeOff; split <;> simp_all

theorem onWeb_deliver (i : Item) : i.deliver.onWeb = i.onWeb - 1 := by unfold Item.deliver; split <;> simp_all

theorem waiting_remake (i : Item) : i.waiting ≤ i.remake.waiting := by unfold Item.remake; split <;> simp

theorem waiting_writeOff (i : Item) : i.writeOff.waiting = i.waiting := by unfold Item.writeOff; split <;> rfl

theorem waiting_deliver (i : Item) : i.deliver.waiting = i.waiting := by unfold Item.deliver; split <;> rfl

/-- What changes no order, item, class list, bin or selection. -/
theorem Keeps.of_still_frame {s t : State} {parts : List Machine.Part} (m : List (Nat × Nat)) (h : OnlyChanges parts s t)
    (hparts : ∀ p ∈ ([.orders, .items, .ticketCounter, .classLists, .bins, .selection] : List Machine.Part), p ∉ parts) :
    Keeps m s m t :=
  .of_frame m h (fun p hp => hparts p (by simp_all; tauto)) fun _ _ _ hprint =>
    (h .selection (hparts _ (by decide))) ▸ hprint

/-- R14: whether the copy of an order's item qualifies to be remade. -/
def qualifies (s : State) (slot n : Nat) : Bool :=
  match s.order? slot, s.orderTable.item? slot n with
  | some o, some i => i.mayRemake s.orderTable.remakeLimit o.state
  | _, _ => false

/-- R14: what becomes of the item of a copy that leaves the web undelivered. -/
def copyMoved (again : Bool) (i : Item) : Item := if again then i.remake else i.writeOff

/-- R14, R177: what disposing of a copy counts. -/
def disposalNoted (s : State) (again rejected : Bool) : State :=
  { s with
    scheduler := { s.scheduler with attemptCause := s.scheduler.attemptCause || again }
    price := { s.price with totals := { s.price.totals with
      printsRejected := satAdd 65535 s.price.totals.printsRejected (if rejected then 1 else 0)
      remakesMade := satAdd 65535 s.price.totals.remakesMade (if again then 1 else 0) } } }

/-- R14: a copy remade or written off, the check of its order still to come. -/
def copyDisposed (s : State) (slot n : Nat) (again rejected : Bool) : State :=
  { disposalNoted s again rejected with orderTable := s.orderTable.modifyItem slot n (copyMoved again) }

theorem disposeCopy_eq (s : State) (slot n : Nat) (rejected : Bool) : s.disposeCopy slot n rejected =
    ((copyDisposed s slot n (qualifies s slot n) rejected).accountCheck slot, qualifies s slot n) := by
  have hmoved (again : Bool) : (if again = true then Item.remake else Item.writeOff) = copyMoved again := by
    cases again <;> rfl
  unfold State.disposeCopy copyDisposed disposalNoted
  simp only [hmoved]
  rfl

theorem copyMoved_keeps (again : Bool) (i : Item) : ItemKeeps i (copyMoved again i) := by
  cases again
  · exact writeOff_keeps i
  · exact remake_keeps i

theorem onWeb_copyMoved (again : Bool) (i : Item) : (copyMoved again i).onWeb = i.onWeb - 1 := by
  cases again
  · exact onWeb_writeOff i
  · exact onWeb_remake i

theorem waiting_copyMoved (again : Bool) (i : Item) : i.waiting ≤ (copyMoved again i).waiting := by
  cases again
  · exact (waiting_writeOff i).ge
  · exact waiting_remake i

/-- R13, R14: a copy leaves the web undelivered. -/
theorem keeps_disposeCopy (m : List (Nat × Nat)) (s : State) (slot n : Nat) (rejected : Bool) :
    Keeps ((slot, n) :: m) s m (s.disposeCopy slot n rejected).1 := by
  rw [disposeCopy_eq]
  generalize qualifies s slot n = again
  have hnoted : Keeps ((slot, n) :: m) s ((slot, n) :: m) (disposalNoted s again rejected) :=
    .of_still_frame (parts := [.attemptCause, .totals]) _
      (by intro p hp; cases p <;> simp_all [Same, State.port, disposalNoted]) (by decide)
  refine (hnoted.trans (keeps_leaves m _ slot n (copyMoved_keeps again) (fun i hi => ?_) (onWeb_copyMoved again))).trans
    (keeps_accountCheck m (copyDisposed s slot n again rejected) slot)
  have := waiting_copyMoved again i
  omega

theorem keeps_disposeSegments (m : List (Nat × Nat)) (s : State) (rejected : Bool) (segments : List Segment) :
    Keeps (copies segments ++ m) s m (s.disposeSegments rejected segments).1 := by
  induction segments generalizing s with
  | nil => exact .refl m s
  | cons g rest ih =>
    unfold State.disposeSegments
    cases hkind : g.kind with
    | print slot n copy =>
      rw [show copies (g :: rest) = (slot, n) :: copies rest by simp [copies, copyOf, hkind]]
      exact (keeps_disposeCopy _ s slot n rejected).trans (ih _)
    | patch | leader | blank =>
      rw [show copies (g :: rest) = copies rest by simp [copies, copyOf, hkind]]
      exact ih s

/-! ## Bins -/

theorem keeps_releaseBins (m : List (Nat × Nat)) {o : Order} (ho : s.order? slot = some o) :
    Keeps m s m (s.releaseBins slot) := by
  have hmoves := moves_releaseBins s slot
  have hbeside : Beside slot s (s.releaseBins slot) :=
    beside_of_items (otherOrdersSame_modifyOrder s slot fun o => { o with bins := [] }) rfl
  have horder : (s.releaseBins slot).order? slot = some { o with bins := [] } :=
    (order?_modifyOrder s slot slot fun o => { o with bins := [] }).trans (by rw [if_pos rfl, ho]; rfl)
  have hitem (j : Nat) : (s.releaseBins slot).orderTable.item? slot j = s.orderTable.item? slot j :=
    item?_modifyOrder s slot (f := fun o => { o with bins := [] }) (fun _ => rfl) slot j
  have hbins : (s.releaseBins slot).sort.bins = Table.modifyAll s.sort.bins o.bins Bin.release := by
    unfold State.releaseBins State.binsOf
    rw [ho]
  have hreleased (b : Bin) : b.release.owner = none := by unfold Bin.release; split <;> rfl
  refine .of_moves hmoves (fun hp hl => ?_) (fun _ _ hc => ?_) fun _ _ _ _ hb => ?_
  · obtain ⟨-, -, -, hsound, hstands⟩ := (listsAgree_iff s).1 hl
    refine listsAgree_of_same_lists (p := { o with bins := [] }) ho horder (rising_of_pool (pool_of_moves hmoves hp)) hbeside
      (fun _ => by rw [releaseBins_scheduler]) rfl rfl (hsound slot o ho) (fun k j copy hprint => ?_) hl
    rw [releaseBins_scheduler] at hprint
    obtain ⟨p, i, hp, hplisted, hi, hwaiting⟩ := hstands k j copy hprint
    by_cases hk : k = slot
    · subst hk
      obtain rfl : p = o := Option.some.inj (hp.symm.trans ho)
      exact .inr ⟨_, i, horder, hplisted, (hitem j).trans hi, hwaiting⟩
    · exact .inl ⟨hk, hprint⟩
  · refine counted_of_beside hbeside (fun _ _ _ => rfl) (fun p j i hp hi => ?_) (fun j hin => ?_) hc
    · obtain rfl := Option.some.inj (horder.symm.trans hp)
      exact hc.1 slot o j i ho (hitem j ▸ hi)
    · obtain ⟨p, hp, hn⟩ := hc.2 slot j hin
      obtain rfl : p = o := Option.some.inj (hp.symm.trans ho)
      exact ⟨_, horder, hn⟩
  · refine binsAgree_of_beside hbeside (othersBinsSame_of_modifyAll hb ho hbins fun b => .inr (hreleased b))
      (fun k b hget howner => ?_) (fun p hp => ?_) hb
    · rw [hbins, get?_modifyAll] at hget
      split at hget
      · obtain ⟨c, -, rfl⟩ := Option.map_eq_some_iff.1 hget
        simp [hreleased] at howner
      · next hout =>
        obtain ⟨q, hq, -, hin⟩ := hb.1 k b slot hget howner
        obtain rfl : q = o := Option.some.inj (hq.symm.trans ho)
        exact absurd hin hout
    · obtain rfl := Option.some.inj (horder.symm.trans hp)
      exact ⟨Nat.zero_le _, List.nodup_nil, by simp, fun _ => rfl⟩

end

end Sys2Proof.Registry

/-! Orders that leave their class list, raster faults, deliveries and the beginning of a print, in the registry. -/

namespace Sys2Proof.Registry

open Sys2Proof.Machine Sys2Proof.Laws Sys2Proof.OrdersAndItems Sys2Proof.Magazines Sys2Proof.Sorting Sys2Proof.Till
open Sys2Proof.Steps Sys2Proof.WebMap Sys2Proof.Pool

section
variable {s t : State} {slot : Nat} {o p : Order}

/-! ## An order leaves its list -/

/-- An order goes to HELD or to WITHDRAWN: it leaves its list, a selected print of it is voided, its copies on the web stay. -/
theorem keeps_unlisted (m : List (Nat × Nat)) {g : Nat → Item → Item} (ho : s.order? slot = some o)
    (hp : t.order? slot = some p) (hmoves : Moves s t) (horders : OtherOrdersSame slot s t)
    (hitems : PoolAndGross s → ∀ k j, t.orderTable.item? k j =
      if k = slot then (s.orderTable.item? slot j).map (g j) else s.orderTable.item? k j)
    (honweb : ∀ j i, (g j i).onWeb = i.onWeb) (hlen : p.items.length = o.items.length)
    (hremoved : RemovedFromList o.cls slot s t) (hsel : SelectionKept slot s t)
    (hstate : p.state = .held ∨ p.state = .withdrawn) (hstarted : p.started = o.started) (hended : p.windowEnded = o.windowEnded)
    (hnotice : p.cancelNotice = true → o.cancelNotice = true) (hwithdrawn : p.state = .held → o.state ≠ .withdrawn)
    (hbins : PoolAndGross s → BinsAgree s → BinsAgree t) : Keeps m s m t := by
  have hbeside (hpool : PoolAndGross s) : Beside slot s t :=
    ⟨horders, fun k j hk => by rw [hitems hpool, if_neg hk]⟩
  refine .of_moves hmoves (fun hpool hl => ?_) (fun hpool _ hc => ?_) fun hpool _ _ _ hb => hbins hpool hb
  · obtain ⟨-, -, -, hsound, -⟩ := (listsAgree_iff s).1 hl
    obtain ⟨-, hstartedEnded, -, hnoticed⟩ := hsound slot o ho
    refine listsAgree_of_removed ho (rising_of_pool (pool_of_moves hmoves hpool)) (hbeside hpool) hremoved (fun q hq => ?_) hsel hl
    obtain rfl : q = p := Option.some.inj (hq.symm.trans hp)
    refine ⟨?_, fun h => ?_, by rw [hstarted, hended]; exact hstartedEnded, fun h => ?_, fun h => ?_⟩
    · rcases hstate with h | h <;> simp [Order.listed, h]
    · simp [h] at hstate
    · simp [h] at hstate
    · rcases hstate with hheld | hw
      · exact absurd (hnoticed (hnotice h)) (hwithdrawn hheld)
      · exact hw
  · refine counted_of_beside (hbeside hpool) (fun _ _ _ => rfl) (fun q n i hq hi => ?_) (fun n hin => ?_) hc
    · obtain rfl : q = p := Option.some.inj (hq.symm.trans hp)
      rw [hitems hpool, if_pos rfl] at hi
      obtain ⟨j, hj, rfl⟩ := Option.map_eq_some_iff.1 hi
      obtain ⟨hcount, hquiet, -⟩ := hc.1 slot o n j ho hj
      refine ⟨(honweb n j).trans hcount, fun h => (honweb n j).trans (hquiet ?_), fun h => ?_⟩
      · rcases h with h | h | h
        · simp [h] at hstate
        · simp [h] at hstate
        · exact .inr (.inr (hnotice h))
      · simp [h] at hstate
    · obtain ⟨q, hq, hn⟩ := hc.2 slot n hin
      obtain rfl : q = o := Option.some.inj (hq.symm.trans ho)
      exact ⟨p, hp, hlen ▸ hn⟩

/-- The bins agree where a record keeps its ticket and its bins, and no bin changes. -/
theorem binsAgree_of_order (ho : s.order? slot = some o) (hp : t.order? slot = some p) (hbeside : Beside slot s t)
    (hbins : t.sort.bins = s.sort.bins) (hticket : p.ticket = o.ticket) (hlist : p.bins = o.bins)
    (hempty : p.state = .opened ∨ p.state = .withdrawn → o.state = .opened ∨ o.state = .withdrawn) (hb : BinsAgree s) :
    BinsAgree t := by
  obtain ⟨hlen, hnodup, hnamed, hnone⟩ := hb.2 slot o ho
  refine binsAgree_of_beside hbeside (othersBinsSame_of_bins hbins) (fun n b hget howner => ?_) (fun q hq => ?_) hb
  · rw [hbins] at hget
    obtain ⟨q, hq, hq2, hin⟩ := hb.1 n b slot hget howner
    obtain rfl : q = o := Option.some.inj (hq.symm.trans ho)
    exact ⟨p, hp, by rw [hq2, hticket], hlist.symm ▸ hin⟩
  · obtain rfl : q = p := Option.some.inj (hq.symm.trans hp)
    rw [ListsBins, hlist, hbins]
    exact ⟨hlen, hnodup, hnamed, hnone ∘ hempty⟩

/-! ### HOLD (R9) -/

/-- The state once the order in a slot is held. -/
def heldAt (s : State) (slot : Nat) : State :=
  ((s.modifyOrder slot fun o => { o with state := .held }).delist slot).voidSelectionOf slot

theorem order?_heldAt (s : State) (slot k : Nat) : (heldAt s slot).order? k =
    if k = slot then (s.order? slot).map fun o => { o with state := .held, paperWait := none } else s.order? k := by
  have htable : (heldAt s slot).order? k
      = ((s.modifyOrder slot fun o => { o with state := .held }).delist slot).order? k := by
    unfold State.order? heldAt
    rw [voidSelectionOf_orderTable]
  rw [htable, order?_delist, order?_modifyOrder, if_pos rfl, order?_modifyOrder, Option.map_map]
  split <;> rfl

theorem removed_heldAt (ho : s.order? slot = some o) : RemovedFromList o.cls slot s (heldAt s slot) := by
  intro k
  unfold heldAt
  rw [classList_voidSelectionOf]
  refine (removed_delist (o := { o with state := .held }) ?_) k
  rw [order?_modifyOrder, if_pos rfl, ho]
  rfl

theorem keeps_heldAt (m : List (Nat × Nat)) (ho : s.order? slot = some o) (hstate : o.state = .ready ∨ o.state = .inPrint) :
    Keeps m s m (heldAt s slot) := by
  have horder : (heldAt s slot).order? slot = some { o with state := .held, paperWait := none } := by
    rw [order?_heldAt, if_pos rfl, ho]; rfl
  have horders : OtherOrdersSame slot s (heldAt s slot) := fun k hk => by rw [order?_heldAt, if_neg hk]
  have hitems : (heldAt s slot).orderTable.items = s.orderTable.items := by
    unfold heldAt
    rw [voidSelectionOf_orderTable, delist_orderTable_items]
    rfl
  have hmoves : Moves s (heldAt s slot) :=
    .trans (.trans (.order s slot (f := fun o => { o with state := .held }) fun _ => ⟨rfl, rfl, rfl⟩) (moves_delist _ slot))
      (.of_onlyChanges (onlyChanges_voidSelectionOf _ slot) (by decide))
  have hbeside : Beside slot s (heldAt s slot) := beside_of_items horders hitems
  refine keeps_unlisted m (g := fun _ i => i) ho horder hmoves horders (fun _ k j => ?_) (fun _ _ => rfl) rfl (removed_heldAt ho)
    (selectionKept_of_voided ?_) (.inl rfl) rfl rfl id (fun _ => ?_) fun _ hb => ?_
  · split
    · next hk =>
      subst hk
      rw [item?_congr (s := s) (by rw [horder, ho]; rfl) (fun _ _ _ _ => by rw [hitems])]
      simp
    · next hk => exact hbeside.2 k j hk
  · unfold heldAt
    rw [selection_voidSelectionOf, delist_scheduler_selection]
    have : ((s.modifyOrder slot fun o => { o with state := .held }).delist slot).scheduler.selects slot
        = s.scheduler.selects slot := by
      unfold Scheduler.selects
      rw [delist_scheduler_selection]
      rfl
    rw [this]
    rfl
  · rintro h
    simp [h] at hstate
  · refine binsAgree_of_order ho horder hbeside ?_ rfl rfl (by simp) hb
    unfold heldAt
    rw [voidSelectionOf_sort, delist_sort]
    rfl

/-! ### Withdrawal (R19, R23) -/

/-- R19, step 2: the record of an order withdrawn, before it leaves its list and its bins. -/
def withdrawnFrom (q : Requester) (partially : Bool) (o : Order) : Order :=
  { o with state := .withdrawn, requester := q, collectedPartial := o.collectedPartial || partially
           completeUnreported := false }

/-- R19, steps 1 and 2: an order withdrawn and its waiting copies written off. -/
def withdrawalBegun (s : State) (slot : Nat) (q : Requester) (partially : Bool) : State :=
  let s1 := s.modifyOrder slot (withdrawnFrom q partially)
  { s1 with orderTable := s1.orderTable.modifyItems slot Item.writeOffWaiting }

/-- R19, steps 1 to 7 but for the draining check. -/
def withdrawalDone (s : State) (slot : Nat) (q : Requester) (partially : Bool) : State :=
  (((((withdrawalBegun s slot q partially).delist slot).voidSelectionOf slot).abortBegunWorkOf slot).blankOf
    slot).releaseBins slot

theorem withdraw_eq (s : State) (slot : Nat) (q : Requester) (partially : Bool) :
    s.withdraw slot q partially = (withdrawalDone s slot q partially).accountCheck slot := rfl

theorem order?_withdrawalBegun (s : State) (slot : Nat) (q : Requester) (partially : Bool) (k : Nat) :
    (withdrawalBegun s slot q partially).order? k =
      if k = slot then (s.order? slot).map (withdrawnFrom q partially) else s.order? k :=
  order?_modifyOrder s slot k (withdrawnFrom q partially)

theorem order?_withdrawalDone (s : State) (slot : Nat) (q : Requester) (partially : Bool) (k : Nat) :
    (withdrawalDone s slot q partially).order? k =
      if k = slot then (s.order? slot).map fun o => Withdrawn o q partially false else s.order? k := by
  have hbeneath (u : State) (k : Nat) : State.order? (u.releaseBins slot) k
      = if k = slot then (u.order? slot).map fun o => { o with bins := [] } else u.order? k :=
    order?_modifyOrder u slot k fun o => { o with bins := [] }
  have hstopped (u : State) (k : Nat) :
      State.order? (((u.voidSelectionOf slot).abortBegunWorkOf slot).blankOf slot) k = u.order? k := by
    unfold State.order?
    rw [blankOf_orderTable, abortBegunWorkOf_orderTable, voidSelectionOf_orderTable]
  unfold withdrawalDone
  rw [hbeneath, hstopped, hstopped, order?_delist, order?_delist, if_pos rfl, order?_withdrawalBegun,
    order?_withdrawalBegun, if_pos rfl]
  split
  · cases s.order? slot with
    | none => rfl
    | some o => simp [Withdrawn, withdrawnFrom]
  · rfl

theorem items_withdrawalDone (q : Requester) (partially : Bool) (ho : s.order? slot = some o) :
    (withdrawalDone s slot q partially).orderTable.items = Table.modifyAll s.orderTable.items o.items Item.writeOffWaiting := by
  have horder : (s.modifyOrder slot (withdrawnFrom q partially)).order? slot = some (withdrawnFrom q partially o) := by
    rw [order?_modifyOrder, if_pos rfl, ho]; rfl
  unfold withdrawalDone
  rw [releaseBins_orderTable_items, blankOf_orderTable, abortBegunWorkOf_orderTable, voidSelectionOf_orderTable,
    delist_orderTable_items]
  unfold withdrawalBegun OrderTable.modifyItems
  dsimp only
  rw [refsOf_of_order horder]
  rfl

theorem item?_withdrawalDone (hpool : PoolAndGross s) (q : Requester) (partially : Bool) (ho : s.order? slot = some o)
    (k j : Nat) : (withdrawalDone s slot q partially).orderTable.item? k j =
      if k = slot then (s.orderTable.item? slot j).map Item.writeOffWaiting else s.orderTable.item? k j := by
  have hget (r : Nat) := congrArg (Table.get? · r) (items_withdrawalDone q partially ho)
  simp only [get?_modifyAll] at hget
  split
  · next hk =>
    subst hk
    rw [item?_eq_bind, item?_eq_bind, order?_withdrawalDone, if_pos rfl, ho]
    change ((o.items[j]?).bind _) = Option.map _ ((o.items[j]?).bind _)
    cases hr : o.items[j]? with
    | none => rfl
    | some r => simp only [Option.bind_some, hget, if_pos (List.mem_of_getElem? hr)]
  · next hk =>
    refine item?_congr (by rw [order?_withdrawalDone, if_neg hk]) (fun p hp r hr => ?_) j
    rw [hget, if_neg (not_mem_items hpool hk ho hp hr)]

theorem scheduler_withdrawalDone (s : State) (slot : Nat) (q : Requester) (partially : Bool) :
    (withdrawalDone s slot q partially).scheduler =
      (((withdrawalBegun s slot q partially).delist slot).voidSelectionOf slot).scheduler := by
  unfold withdrawalDone
  rw [releaseBins_scheduler, blankOf_scheduler, abortBegunWorkOf_scheduler]

theorem removed_withdrawalDone (q : Requester) (partially : Bool) (ho : s.order? slot = some o) :
    RemovedFromList o.cls slot s (withdrawalDone s slot q partially) := by
  intro k
  rw [scheduler_withdrawalDone, classList_voidSelectionOf]
  refine removed_delist (o := withdrawnFrom q partially o) ?_ k
  rw [order?_withdrawalBegun, if_pos rfl, ho]
  rfl

theorem selection_withdrawalDone (s : State) (slot : Nat) (q : Requester) (partially : Bool) :
    (withdrawalDone s slot q partially).scheduler.selection =
      if s.scheduler.selects slot = true then none else s.scheduler.selection := by
  rw [scheduler_withdrawalDone, selection_voidSelectionOf]
  unfold Scheduler.selects
  rw [delist_scheduler_selection]
  rfl

theorem bins_withdrawalDone (q : Requester) (partially : Bool) (ho : s.order? slot = some o) :
    (withdrawalDone s slot q partially).sort.bins = Table.modifyAll s.sort.bins o.bins Bin.release := by
  have hbins (u : State) : (u.releaseBins slot).sort.bins = Table.modifyAll u.sort.bins (u.binsOf slot) Bin.release := rfl
  have hlist (u : State) : State.binsOf (((u.voidSelectionOf slot).abortBegunWorkOf slot).blankOf slot) slot = u.binsOf slot := by
    unfold State.binsOf State.order?
    rw [blankOf_orderTable, abortBegunWorkOf_orderTable, voidSelectionOf_orderTable]
  have hown : State.binsOf ((withdrawalBegun s slot q partially).delist slot) slot = o.bins := by
    unfold State.binsOf
    rw [order?_delist, if_pos rfl, order?_withdrawalBegun, if_pos rfl, ho]
    rfl
  unfold withdrawalDone
  rw [hbins, hlist, hown, blankOf_sort, abortBegunWorkOf_sort, voidSelectionOf_sort, delist_sort]
  rfl

theorem release_owner (b : Bin) : b.release.owner = none := by unfold Bin.release; split <;> rfl

theorem moves_withdrawalDone (s : State) (slot : Nat) (q : Requester) (partially : Bool) :
    Moves s (withdrawalDone s slot q partially) := by
  unfold withdrawalDone withdrawalBegun
  dsimp only
  refine .trans (.trans (.order s slot (f := withdrawnFrom q partially) fun _ => ⟨rfl, rfl, rfl⟩) ?_) (moves_releaseBins _ slot)
  generalize s.modifyOrder slot _ = s1
  refine .trans (t := { s1 with orderTable := s1.orderTable.modifyItems slot Item.writeOffWaiting })
    (moves_items (recast_modifyAll itemKeeps_refl _ writeOffWaiting_keeps) rfl rfl) ?_
  generalize ({ s1 with orderTable := s1.orderTable.modifyItems slot Item.writeOffWaiting } : State) = s2
  exact .trans (moves_delist s2 slot) (.same (by simp) (by simp) (by simp) (by simp))

theorem keeps_withdrawalDone (m : List (Nat × Nat)) (q : Requester) (partially : Bool) (ho : s.order? slot = some o) :
    Keeps m s m (withdrawalDone s slot q partially) := by
  have horder : (withdrawalDone s slot q partially).order? slot = some (Withdrawn o q partially false) := by
    rw [order?_withdrawalDone, if_pos rfl, ho]; rfl
  have horders : OtherOrdersSame slot s (withdrawalDone s slot q partially) :=
    fun k hk => by rw [order?_withdrawalDone, if_neg hk]
  refine keeps_unlisted m (g := fun _ => Item.writeOffWaiting) ho horder (moves_withdrawalDone s slot q partially) horders
    (fun hpool => item?_withdrawalDone hpool q partially ho) (fun _ _ => rfl) rfl (removed_withdrawalDone q partially ho)
    (selectionKept_of_voided (selection_withdrawalDone s slot q partially)) (.inr rfl) rfl rfl (by simp [Withdrawn])
    (fun h => by simp [Withdrawn] at h) fun hpool hb => ?_
  refine binsAgree_of_beside ⟨horders, fun k j hk => by rw [item?_withdrawalDone hpool q partially ho, if_neg hk]⟩
    (othersBinsSame_of_modifyAll hb ho (bins_withdrawalDone q partially ho) fun b => .inr (release_owner b))
    (fun n b hget howner => ?_) (fun p hp => ?_) hb
  · rw [bins_withdrawalDone q partially ho, get?_modifyAll] at hget
    split at hget
    · obtain ⟨c, -, rfl⟩ := Option.map_eq_some_iff.1 hget
      simp [release_owner] at howner
    · next hout =>
      obtain ⟨q, hq, -, hin⟩ := hb.1 n b slot hget howner
      obtain rfl : q = o := Option.some.inj (hq.symm.trans ho)
      exact absurd hin hout
  · obtain rfl := Option.some.inj (horder.symm.trans hp)
    exact ⟨Nat.zero_le _, List.nodup_nil, by simp [Withdrawn], fun _ => rfl⟩

theorem keeps_withdraw (m : List (Nat × Nat)) (q : Requester) (partially : Bool) (ho : s.order? slot = some o) :
    Keeps m s m (s.withdraw slot q partially) :=
  (keeps_withdrawalDone m q partially ho).trans (keeps_accountCheck m _ slot)

end

end Sys2Proof.Registry

/-! Raster faults, windows, deliveries, the beginning of a print and the attempts, in the registry. -/

namespace Sys2Proof.Registry

open Sys2Proof.Machine Sys2Proof.Laws Sys2Proof.OrdersAndItems Sys2Proof.Magazines Sys2Proof.Sorting Sys2Proof.Till
open Sys2Proof.Steps Sys2Proof.WebMap Sys2Proof.Pool

section
variable {s t : State} {slot n : Nat} {o p : Order}

/-! ## Raster faults (R11) -/

/-- R11, steps 1 to 3: an item and its order struck. -/
def struckAt (s : State) (slot n : Nat) : State :=
  { s with orderTable := (s.orderTable.modifyItem slot n Item.struck).modifyOrder slot Order.struck }

/-- R11 but for the check of step 5. -/
def faultStruck (s : State) (slot n : Nat) : State :=
  match s.order? slot with
  | some o =>
    if o.state = .ready ∨ o.state = .inPrint then ((struckAt s slot n).delist slot).voidSelectionOf slot
    else struckAt s slot n
  | none => struckAt s slot n

theorem faultOrder_eq (s : State) (slot n : Nat) : s.faultOrder slot n = (faultStruck s slot n).accountCheck slot := rfl

theorem order?_struckAt (s : State) (slot n k : Nat) :
    (struckAt s slot n).order? k = if k = slot then (s.order? slot).map Order.struck else s.order? k :=
  get?_modify s.orderTable.orders slot k Order.struck

theorem item?_struckAt (hpool : PoolAndGross s) (slot n k j : Nat) : (struckAt s slot n).orderTable.item? k j =
    if k = slot ∧ j = n then (s.orderTable.item? slot n).map Item.struck else s.orderTable.item? k j := by
  have hview := item?_modifyOrder { s with orderTable := s.orderTable.modifyItem slot n Item.struck } slot (f := Order.struck)
    (fun _ => rfl) k j
  exact hview.trans (item?_modifyItem hpool slot n Item.struck k j)

theorem moves_struckAt (s : State) (slot n : Nat) : Moves s (struckAt s slot n) :=
  .recast (recast_modify orderKeeps_refl slot (f := Order.struck) fun _ => ⟨rfl, rfl, rfl⟩)
    (recast_modifyItem s.orderTable slot n struck_keeps) rfl id

/-- The items of an order of which one is struck. -/
def struckItem (n j : Nat) (i : Item) : Item := if j = n then i.struck else i

theorem struckItem_self (n : Nat) : struckItem n n = Item.struck := funext fun _ => if_pos rfl

theorem struckItem_of_ne {n j : Nat} (h : j ≠ n) : struckItem n j = id := funext fun _ => if_neg h

theorem modify_of_free {α : Type} {T : Table α} {k : Nat} (f : α → α) (h : Table.get? T k = none) : Table.modify T k f = T := by
  have hout : k ∉ T.map Prod.fst := fun hin => by simpa [h] using get?_isSome_iff.2 hin
  unfold Table.modify
  refine (List.map_congr_left fun p hp => ?_).trans (List.map_id _)
  have : p.1 ≠ k := fun heq => hout (heq ▸ List.mem_map_of_mem (f := Prod.fst) hp)
  simp [this]

theorem struckAt_of_free (ho : s.order? slot = none) : struckAt s slot n = s := by
  unfold State.order? at ho
  unfold struckAt OrderTable.modifyItem OrderTable.itemRef? OrderTable.modifyOrder
  simp only [ho, Option.bind_none, modify_of_free Order.struck ho]

theorem order?_faultStruck_of_listed (n : Nat) (ho : s.order? slot = some o) (hstate : o.state = .ready ∨ o.state = .inPrint)
    (k : Nat) : (faultStruck s slot n).order? k =
      if k = slot then some { o.struck with paperWait := none } else s.order? k := by
  have hstopped : (((struckAt s slot n).delist slot).voidSelectionOf slot).order? k = ((struckAt s slot n).delist slot).order? k := by
    unfold State.order?
    rw [voidSelectionOf_orderTable]
  unfold faultStruck
  rw [ho]
  dsimp only
  rw [if_pos hstate, hstopped, order?_delist, order?_struckAt, order?_struckAt, if_pos rfl, ho]
  split <;> rfl

theorem keeps_faultStruck (m : List (Nat × Nat)) (s : State) (slot n : Nat) : Keeps m s m (faultStruck s slot n) := by
  cases ho : s.order? slot with
  | none =>
    have : faultStruck s slot n = s := by
      unfold faultStruck
      rw [ho]
      exact struckAt_of_free ho
    rw [this]
    exact .refl m s
  | some o =>
    by_cases hstate : o.state = .ready ∨ o.state = .inPrint
    · have horder (k : Nat) := order?_faultStruck_of_listed n ho hstate k
      have heq : faultStruck s slot n = ((struckAt s slot n).delist slot).voidSelectionOf slot := by
        unfold faultStruck
        rw [ho]
        exact if_pos hstate
      have hitems : (faultStruck s slot n).orderTable.items = (struckAt s slot n).orderTable.items := by
        rw [heq, voidSelectionOf_orderTable, delist_orderTable_items]
      have hstruck : (struckAt s slot n).order? slot = some o.struck := by rw [order?_struckAt, if_pos rfl, ho]; rfl
      have hmoves : Moves s (faultStruck s slot n) := by
        rw [heq]
        exact .trans (.trans (moves_struckAt s slot n) (moves_delist _ slot))
          (.of_onlyChanges (onlyChanges_voidSelectionOf _ slot) (by decide))
      have hotherorders : OtherOrdersSame slot s (faultStruck s slot n) := fun k hk => by rw [horder, if_neg hk]
      have hview (hpool : PoolAndGross s) (k j : Nat) : (faultStruck s slot n).orderTable.item? k j =
          if k = slot then (s.orderTable.item? slot j).map (struckItem n j) else s.orderTable.item? k j := by
        have hsame : (faultStruck s slot n).orderTable.item? k j = (struckAt s slot n).orderTable.item? k j := by
          refine item?_congr ?_ (fun _ _ _ _ => by rw [hitems]) j
          rw [horder, order?_struckAt, ho]
          split <;> rfl
        rw [hsame, item?_struckAt hpool]
        by_cases hk : k = slot
        · subst hk
          by_cases hj : j = n
          · subst hj; simp [struckItem_self]
          · simp [struckItem_of_ne hj, hj]
        · simp [hk]
      refine keeps_unlisted m (g := struckItem n) (p := { o.struck with paperWait := none }) ho ((horder slot).trans (if_pos rfl))
        hmoves hotherorders hview (fun j i => ?_) rfl ?_ (selectionKept_of_voided ?_) (.inl ?_) rfl rfl id (fun _ => ?_)
        fun hpool hb => ?_
      · unfold struckItem; split <;> rfl
      · intro k
        rw [heq, classList_voidSelectionOf]
        exact removed_delist (o := o.struck) hstruck k
      · rw [heq, selection_voidSelectionOf, delist_scheduler_selection]
        have : ((struckAt s slot n).delist slot).scheduler.selects slot = s.scheduler.selects slot := by
          unfold Scheduler.selects
          rw [delist_scheduler_selection]
          rfl
        rw [this]
        rfl
      · simp [Order.struck, hstate]
      · intro h
        simp [h] at hstate
      · refine binsAgree_of_order (p := { o.struck with paperWait := none }) ho ((horder slot).trans (if_pos rfl))
          ⟨hotherorders, fun k j hk => by rw [hview hpool, if_neg hk]⟩ ?_ rfl rfl (fun h => ?_) hb
        · rw [heq, voidSelectionOf_sort, delist_sort]
          rfl
        · simp [Order.struck, hstate] at h
    · have heq : faultStruck s slot n = struckAt s slot n := by
        unfold faultStruck
        rw [ho]
        exact if_neg hstate
      have hsame : o.struck.state = o.state := by simp [Order.struck, hstate]
      have horder : (struckAt s slot n).order? slot = some o.struck := by rw [order?_struckAt, if_pos rfl, ho]; rfl
      have hunlisted : o.listed = false := by
        cases h : o.state <;> simp_all [Order.listed]
      have hbeside (hpool : PoolAndGross s) : Beside slot s (struckAt s slot n) :=
        ⟨fun k hk => by rw [order?_struckAt, if_neg hk], fun k j hk => by rw [item?_struckAt hpool, if_neg fun h => hk h.1]⟩
      rw [heq]
      refine .of_moves (moves_struckAt s slot n) (fun hpool hl => ?_) (fun hpool _ hc => ?_) fun hpool _ _ _ hb => ?_
      · obtain ⟨-, -, -, hsound, -⟩ := (listsAgree_iff s).1 hl
        obtain ⟨hopened, hstarted, hprint, hnotice⟩ := hsound slot o ho
        refine listsAgree_of_same_lists ho horder (rising_of_pool (pool_of_moves (moves_struckAt s slot n) hpool))
          (hbeside hpool) (fun _ => rfl) rfl (by unfold Order.listed; rw [hsame]; rfl)
          ⟨by rw [hsame]; exact hopened, hstarted, by rw [hsame]; exact hprint, by rw [hsame]; exact hnotice⟩
          (selectionKept_of_idle hl (fun q j i hq _ hlisted => ?_) rfl) hl
        obtain rfl : q = o := Option.some.inj (hq.symm.trans ho)
        simp [hunlisted] at hlisted
      · refine counted_of_beside (hbeside hpool) (fun _ _ _ => rfl) (fun q j i hq hi => ?_) (fun j hin => ?_) hc
        · obtain rfl : o.struck = q := Option.some.inj (horder.symm.trans hq)
          rw [item?_struckAt hpool] at hi
          rw [CopyCounted, hsame]
          split at hi
          · next h =>
            obtain ⟨i', hi', rfl⟩ := Option.map_eq_some_iff.1 hi
            obtain ⟨-, rfl⟩ := h
            obtain ⟨h1, h2, -⟩ := hc.1 slot o j i' ho hi'
            exact ⟨h1, h2, fun _ => rfl⟩
          · exact hc.1 slot o j i ho hi
        · obtain ⟨q, hq, hn⟩ := hc.2 slot j hin
          obtain rfl : q = o := Option.some.inj (hq.symm.trans ho)
          exact ⟨_, horder, hn⟩
      · exact binsAgree_of_order ho horder (hbeside hpool) rfl rfl rfl (by rw [hsame]; exact id) hb

theorem keeps_faultOrder (m : List (Nat × Nat)) (s : State) (slot n : Nat) : Keeps m s m (s.faultOrder slot n) :=
  (keeps_faultStruck m s slot n).trans (keeps_accountCheck m _ slot)

theorem selection_voidSelection (s : State) : s.voidSelection.scheduler.selection = none := by
  unfold State.voidSelection
  split
  · rfl
  · next h => simpa using h

theorem keeps_voidSelection (m : List (Nat × Nat)) (s : State) : Keeps m s m s.voidSelection := by
  refine .of_frame m (onlyChanges_voidSelection s) (by decide) fun slot n copy hprint => ?_
  exact absurd (hprint.symm.trans (selection_voidSelection s)) (by simp)

theorem onlyChanges_faultPrint (s : State) (owner : WorkOwner) :
    OnlyChanges [.selection, .attemptCause, .work, .rows, .fetch, .lineQueue, .exposure, .map] s (s.faultPrint owner) := by
  intro p hp
  cases p <;> simp_all [Same, State.port]

/-- What a raster fault does to its print changes no record (R81, R82). -/
theorem keeps_faultPrint (m : List (Nat × Nat)) (s : State) (owner : WorkOwner) : Keeps m s m (s.faultPrint owner) := by
  refine .of_frame m (onlyChanges_faultPrint s owner) (by decide) fun slot n copy hprint => ?_
  cases owner with
  | selection => exact absurd (hprint.symm.trans (selection_voidSelection s)) (by simp)
  | exposed => simpa [State.faultPrint] using hprint
  | trailing start => simpa [State.faultPrint] using hprint

theorem keeps_rasterFault (m : List (Nat × Nat)) (s : State) (f : Fetch) (cause : FaultCause) :
    Keeps m s m (s.rasterFault f cause) := by
  unfold State.rasterFault
  split
  · split
    · next w _ _ p _ =>
      refine .trans (.trans (.of_still_frame (parts := [.fetch, .lastFault]) m ?_ (by decide)) (keeps_faultPrint m _ w.owner))
        (keeps_faultOrder m _ _ _)
      intro p hp
      cases p <;> simp_all [Same, State.port, RasterFetch.abandon]
    · exact .refl m s
  · exact .refl m s

end

end Sys2Proof.Registry

/-! Windows, deliveries, the beginning of a print, attempts and new records, in the registry. -/

namespace Sys2Proof.Registry

open Sys2Proof.Machine Sys2Proof.Laws Sys2Proof.OrdersAndItems Sys2Proof.Magazines Sys2Proof.Sorting Sys2Proof.Till
open Sys2Proof.Steps Sys2Proof.WebMap Sys2Proof.Pool

section
variable {s t : State} {slot n : Nat} {o p : Order}

/-! ## An order comes to be listed (R7, R8, R10) -/

theorem order?_enlistedIf (s : State) (slot : Nat) (joins : Prop) [Decidable joins] (k : Nat) :
    (enlistedIf s slot joins).order? k = s.order? k := by
  unfold enlistedIf
  split <;> rfl

theorem appended_enlistedIf (joins : Prop) [Decidable joins] {f : Order → Order} (ho : s.order? slot = some o)
    (hcls : (f o).cls = o.cls) : AppendedToListIf joins o.cls slot s (enlistedIf (s.modifyOrder slot f) slot joins) := by
  have hmodified : (s.modifyOrder slot f).order? slot = some (f o) := by rw [order?_modifyOrder, if_pos rfl, ho]; rfl
  intro k
  unfold enlistedIf
  split
  · next h => simp [classList_enlist hmodified, hcls, h]
  · next h => simp [h]

theorem keeps_enlisted (m : List (Nat × Nat)) (joins : Prop) [Decidable joins] {f : Order → Order} (ho : s.order? slot = some o)
    (hf : ∀ o, OrderKeeps o (f o)) (hcls : (f o).cls = o.cls) (hunlisted : ListsAgree s → o.listed = false)
    (hlisted : ListsAgree s → ((f o).listed = true ↔ joins)) (hsound : ListsAgree s → OrderSound (f o))
    (hnotice : (f o).cancelNotice = o.cancelNotice) (hbins : (f o).bins = o.bins)
    (hstate : (f o).state = o.state ∨ ((f o).state = .ready ∨ (f o).state = .inPrint)) :
    Keeps m s m (enlistedIf (s.modifyOrder slot f) slot joins) := by
  have horder (k : Nat) : (enlistedIf (s.modifyOrder slot f) slot joins).order? k = (s.modifyOrder slot f).order? k :=
    order?_enlistedIf _ _ _ k
  have hslot : (enlistedIf (s.modifyOrder slot f) slot joins).order? slot = some (f o) := by
    rw [horder, order?_modifyOrder, if_pos rfl, ho]; rfl
  have hframe := onlyChanges_enlistedIf (s.modifyOrder slot f) slot joins
  have hitems : (enlistedIf (s.modifyOrder slot f) slot joins).orderTable.items = s.orderTable.items :=
    hframe .items (by decide)
  have hsel : (enlistedIf (s.modifyOrder slot f) slot joins).scheduler.selection = s.scheduler.selection :=
    hframe .selection (by decide)
  have hmoves : Moves s (enlistedIf (s.modifyOrder slot f) slot joins) := .trans (.order s slot hf) (moves_enlistedIf _ slot _)
  have hbeside : Beside slot s (enlistedIf (s.modifyOrder slot f) slot joins) :=
    beside_of_items (fun k hk => by rw [horder, order?_modifyOrder, if_neg hk]) hitems
  refine .of_moves hmoves (fun hpool hl => ?_) (fun _ _ hc => ?_) fun _ _ _ _ hb => ?_
  · refine listsAgree_of_appended ho hslot (rising_of_pool (pool_of_moves hmoves hpool)) hbeside
      (appended_enlistedIf joins ho hcls) hcls (hunlisted hl) (hlisted hl) (hsound hl)
      (selectionKept_of_idle hl (fun q j i hq _ hlisted => ?_) hsel) hl
    rw [Option.some.inj (hq.symm.trans ho), hunlisted hl] at hlisted
    exact absurd hlisted Bool.false_ne_true
  · refine counted_of_beside hbeside (fun _ _ _ => rfl) (fun q j i hq hi => ?_) (fun j hin => ?_) hc
    · obtain rfl : f o = q := Option.some.inj (hslot.symm.trans hq)
      rw [item?_congr (s := s) (by rw [hslot, ho]; exact congrArg some (hf o).2.1) (fun _ _ _ _ => by rw [hitems])] at hi
      obtain ⟨hcount, hquiet, hdone⟩ := hc.1 slot o j i ho hi
      rw [CopyCounted, hnotice]
      rcases hstate with hsame | hother
      · rw [hsame]
        exact ⟨hcount, hquiet, hdone⟩
      · refine ⟨hcount, fun h => ?_, fun h => by simp [h] at hother⟩
        rcases h with h | h | h
        · simp [h] at hother
        · simp [h] at hother
        · exact hquiet (.inr (.inr h))
    · obtain ⟨q, hq, hn⟩ := hc.2 slot j hin
      obtain rfl : q = o := Option.some.inj (hq.symm.trans ho)
      exact ⟨f q, hslot, (hf q).2.1.symm ▸ hn⟩
  · refine binsAgree_of_order ho hslot hbeside (hframe .bins (by decide)) (hf o).1 hbins (fun h => ?_) hb
    rcases hstate with hsame | hother
    · rwa [hsame] at h
    · rcases h with h | h <;> simp [h] at hother

theorem expireWindow_eq (ho : s.order? slot = some o) : s.expireWindow slot =
    enlistedIf (s.modifyOrder slot fun o => { o with windowEnded := true }) slot (o.state = .ready) := by
  unfold State.expireWindow enlistedIf
  rw [ho]

/-! ## Deliveries (R125, R141 to R144, R163) -/

theorem keeps_bin (m : List (Nat × Nat)) {k : Nat} {f : Bin → Bin} (hok : BinsOk s → BinsOk (binChanged s k f))
    (hf : BinsOk s → ∀ b, Table.get? s.sort.bins k = some b → BinStill b (f b)) : Keeps m s m (binChanged s k f) := by
  refine .of_still m id hok (.refl orderStill_refl _) (.refl itemStill_refl _) (fun _ => rfl) rfl fun hs j => ?_
  rw [show Table.get? (binChanged s k f).sort.bins j = _ from get?_modify s.sort.bins k j f]
  by_cases hj : j = k
  · subst hj
    rw [if_pos rfl]
    cases hb : Table.get? s.sort.bins j with
    | none => exact .inl ⟨rfl, rfl⟩
    | some b => exact .inr ⟨b, f b, rfl, rfl, hf hs b hb⟩
  · rw [if_neg hj]
    cases hb : Table.get? s.sort.bins j with
    | none => exact .inl ⟨rfl, rfl⟩
    | some b => exact .inr ⟨b, b, rfl, rfl, binStill_refl b⟩

theorem receive_owned {b : Bin} (h : BinState.owned b.state) : BinState.owned b.receive.state := by
  unfold Bin.receive BinState.owned
  dsimp only
  split
  · exact .inr (.inl rfl)
  · exact h

theorem freeBin?_free {sc : SortControl} {g : PrintGroup} {n : Nat} (h : sc.freeBin? g = some n) :
    ∃ b, Table.get? sc.bins n = some b ∧ b.state = .free ∧ b.group.accepts g = true := by
  have hpick := List.find?_some h
  split at hpick
  · next b hb => exact ⟨b, hb, by simpa using hpick⟩
  · cases hpick

/-- R142: the state once a bin is allocated to an order and has its first print. -/
def allocated (s : State) (slot : Nat) (o : Order) (k : Nat) : State :=
  State.modifyOrder (binChanged s k fun b => (b.allocate o.ticket slot).receive) slot fun o => { o with bins := o.bins ++ [k] }

theorem order?_allocated (s : State) (slot : Nat) (o : Order) (k j : Nat) : (allocated s slot o k).order? j =
    if j = slot then (s.order? slot).map fun o => { o with bins := o.bins ++ [k] } else s.order? j :=
  order?_modifyOrder (binChanged s k fun b => (b.allocate o.ticket slot).receive) slot j fun o => { o with bins := o.bins ++ [k] }

theorem bin_allocated (s : State) (slot : Nat) (o : Order) (k j : Nat) : Table.get? (allocated s slot o k).sort.bins j =
    if j = k then (Table.get? s.sort.bins k).map fun b => (b.allocate o.ticket slot).receive else Table.get? s.sort.bins j :=
  get?_modify s.sort.bins k j fun b => (b.allocate o.ticket slot).receive

/-- R142: a FREE bin allocated to an order that is neither OPEN nor WITHDRAWN. -/
theorem keeps_allocated (m : List (Nat × Nat)) {k : Nat} {b : Bin} (ho : s.order? slot = some o)
    (hb : Table.get? s.sort.bins k = some b) (hfree : b.state = .free) (hroom : o.bins.length < 4)
    (hstate : PoolAndGross s → Counted m s → o.state ≠ .opened ∧ o.state ≠ .withdrawn) :
    Keeps m s m (allocated s slot o k) := by
  have horders := order?_allocated s slot o k
  have hslot : (allocated s slot o k).order? slot = some { o with bins := o.bins ++ [k] } := by
    rw [horders, if_pos rfl, ho]; rfl
  have hbins (j : Nat) : Table.get? (allocated s slot o k).sort.bins j
      = if j = k then some (b.allocate o.ticket slot).receive else Table.get? s.sort.bins j := by
    rw [bin_allocated, hb]
    rfl
  have hrecast : Recast OrderQuiet s.orderTable.orders (allocated s slot o k).orderTable.orders :=
    recast_modify orderQuiet_refl slot (f := fun o => { o with bins := o.bins ++ [k] }) fun _ => orderQuiet_refl _
  have hitems : Recast ItemStill s.orderTable.items (allocated s slot o k).orderTable.items := .refl itemStill_refl _
  have hmoves : Moves s (allocated s slot o k) :=
    .recast (recast_modify orderKeeps_refl slot (f := fun o => { o with bins := o.bins ++ [k] }) fun _ => ⟨rfl, rfl, rfl⟩)
      (.refl itemKeeps_refl _) rfl fun hs => binsOk_modify hs rfl fun b _ hok => allocate_receive_ok o.ticket slot hok
  refine .of_moves hmoves (fun _ hl => listsAgree_of_quiet hrecast hitems (fun _ => rfl) rfl hl)
    (fun _ _ hc => counted_of_quiet hrecast hitems hc) fun hpool hok _ hc hagree => ?_
  have hunowned : b.owner = none := by
    obtain ⟨-, -, -, hnone, -⟩ := bin_ok hok hb
    exact (hnone hfree).2.2
  have howner : (b.allocate o.ticket slot).receive.owner = some slot := rfl
  obtain ⟨hlen, hnodup, hnamed, -⟩ := hagree.2 slot o ho
  have hout : k ∉ o.bins := fun hin => by
    obtain ⟨c, hc, hcowner, -⟩ := hnamed k hin
    obtain rfl : c = b := Option.some.inj (hc.symm.trans hb)
    simp [hunowned] at hcowner
  refine binsAgree_of_beside (s := s) (slot := slot) (beside_of_items (fun j hj => by rw [horders, if_neg hj]) rfl)
    (fun j c l hl hcowner => ?_) (fun j c hget hcowner => ?_) (fun q hq => ?_) hagree
  · rw [hbins]
    split
    · next hj =>
      subst hj
      rw [hb]
      refine iff_of_false (fun h => ?_) fun h => ?_
      · obtain rfl := Option.some.inj h
        exact hl (Option.some.inj (hcowner.symm.trans howner))
      · obtain rfl := Option.some.inj h
        simp [hunowned] at hcowner
    · rfl
  · refine ⟨_, hslot, ?_⟩
    rw [hbins] at hget
    split at hget
    · next hj =>
      obtain rfl := Option.some.inj hget
      exact ⟨rfl, by simp [hj]⟩
    · obtain ⟨q, hq, hticket, hin⟩ := hagree.1 j c slot hget hcowner
      obtain rfl : q = o := Option.some.inj (hq.symm.trans ho)
      exact ⟨hticket, by simp [hin]⟩
  · obtain rfl := Option.some.inj (hslot.symm.trans hq)
    refine ⟨by simp; omega, by simpa using hnodup.append (List.nodup_singleton k) (by simpa using hout), fun j hj => ?_, fun h => ?_⟩
    · rw [hbins]
      by_cases hjk : j = k
      · rw [if_pos hjk]
        exact ⟨_, rfl, howner, receive_owned (.inl rfl)⟩
      · rw [if_neg hjk]
        refine hnamed j ?_
        simpa [hjk] using hj
    · obtain ⟨h1, h2⟩ := hstate hpool hc
      rcases h with h | h
      · exact absurd h h1
      · exact absurd h h2

theorem keeps_placePrint (m : List (Nat × Nat)) (g : PrintGroup) (ho : s.order? slot = some o)
    (hstate : PoolAndGross s → Counted m s → o.state ≠ .opened ∧ o.state ≠ .withdrawn) :
    Keeps m s m (s.placePrint slot o g).1 := by
  unfold State.placePrint
  split
  · next k hopen =>
    obtain ⟨-, b, hb, htakes⟩ := openBin?_takes hopen
    refine keeps_bin m (fun hs => binsOk_modify hs rfl fun b' hb' hok => ?_) fun _ b' _ => ⟨rfl, fun _ => ⟨rfl, receive_owned⟩⟩
    obtain rfl : b = b' := Option.some.inj (hb.symm.trans hb')
    exact receive_ok hok htakes
  · split
    · next k hfree =>
      split at hfree
      · next hroom =>
        obtain ⟨b, hb, hbfree, -⟩ := freeBin?_free hfree
        exact keeps_allocated m ho hb hbfree hroom hstate
      · cases hfree
    · have hmoves : Moves s (s.toTray slot) := .recast (recast_modify orderKeeps_refl slot (f := fun o =>
        { o with overflow := satAdd 255 o.overflow 1, shortageUnreported := true }) fun _ => ⟨rfl, rfl, rfl⟩)
        (.refl itemKeeps_refl _) rfl id
      exact .of_still m (pool_of_moves hmoves) (binsOk_of_moves hmoves)
        (recast_modify orderStill_refl slot (f := fun o =>
          { o with overflow := satAdd 255 o.overflow 1, shortageUnreported := true }) fun _ => orderStill_refl _)
        (.refl itemStill_refl _) (fun _ => rfl) rfl fun _ => binsStill_of_bins rfl

theorem keeps_chargePrint (m : List (Nat × Nat)) (s : State) (slot n : Nat) : Keeps m s m (s.chargePrint slot n) := by
  have hmoves := moves_chargePrint s slot n
  have hframe : (s.chargePrint slot n).scheduler = s.scheduler ∧ (s.chargePrint slot n).sort = s.sort := by
    unfold State.chargePrint
    split <;> exact ⟨rfl, rfl⟩
  obtain ⟨hscheduler, hsort⟩ := hframe
  refine .of_still m (pool_of_moves hmoves) (binsOk_of_moves hmoves) ?_ ?_ (fun c => by rw [hscheduler]) (by rw [hscheduler])
    fun _ => binsStill_of_bins (by rw [hsort])
  · unfold State.chargePrint
    split
    · exact recast_modify orderStill_refl slot fun o => orderStill_refl o
    · exact .refl orderStill_refl _
  · unfold State.chargePrint OrderTable.modifyItem OrderTable.modifyOrder
    split
    · dsimp only
      split
      · exact recast_modify itemStill_refl _ fun _ => ⟨rfl, rfl⟩
      · exact .refl itemStill_refl _
    · exact .refl itemStill_refl _

/-- R125: a deliverable print delivered, with the check of its order. -/
theorem keeps_deliverPrint (m : List (Nat × Nat)) (e : SizeEntry) (ho : s.order? slot = some o) (hstate : o.state ≠ .withdrawn) :
    Keeps ((slot, n) :: m) s m (s.deliverPrint slot n o e).1 := by
  unfold State.deliverPrint
  dsimp only
  refine .trans (.trans (.trans (keeps_placePrint _ e.group ho fun hpool hc => ?_) ?_) (keeps_chargePrint m _ slot n))
    (keeps_accountCheck m _ slot)
  · obtain ⟨q, i, hq, -, -, hopened, -⟩ := hc.owner hpool (List.mem_cons_self ..)
    obtain rfl : q = o := Option.some.inj (hq.symm.trans ho)
    exact ⟨hopened, hstate⟩
  · exact keeps_leaves m _ slot n deliver_keeps (fun i hi => by rwa [waiting_deliver]) onWeb_deliver

end

end Sys2Proof.Registry

/-! The registry through strobes, cuts, attempts and every other command: O5, O6 and O9. -/

namespace Sys2Proof.Registry

open Sys2Proof.Machine Sys2Proof.Laws Sys2Proof.OrdersAndItems Sys2Proof.Magazines Sys2Proof.Sorting Sys2Proof.Till
open Sys2Proof.Steps Sys2Proof.WebMap Sys2Proof.Pool

/-! ## The copies of a map -/

/-- The kinds of the segments of a map. -/
def kinds (segs : List Segment) : List SegmentKind := segs.map fun g => g.kind

theorem copies_of_kinds {a b : List Segment} (h : kinds a = kinds b) : copies a = copies b := by
  have hform (l : List Segment) : copies l = (kinds l).filterMap fun k =>
      match k with
      | .print slot n _ => some (slot, n)
      | .patch | .leader | .blank => none := by
    rw [kinds, List.filterMap_map]
    rfl
  rw [hform, hform, h]

theorem kinds_of_outline {a b : List Segment} (h : outline a = outline b) : kinds a = kinds b := by
  have hform (l : List Segment) : kinds l = (outline l).map Prod.fst := by simp [kinds, outline, mark, Function.comp_def]
  rw [hform, hform, h]

theorem kinds_map {f : Segment → Segment} (h : ∀ g, (f g).kind = g.kind) (m : List Segment) : kinds (m.map f) = kinds m := by
  simp [kinds, h]

theorem kinds_mapLast {f : Segment → Segment} (h : ∀ g, (f g).kind = g.kind) (m : List Segment) :
    kinds (mapLast f m) = kinds m := map_mapLast f (fun g => g.kind) h m

theorem copies_openSegment (w : Web) (kind : SegmentKind) :
    copies (w.openSegment kind).map = copies w.map ++ copies [Segment.opened kind w.odometer] := by
  unfold Web.openSegment
  rw [copies_append, copies_of_kinds (kinds_mapLast (fun g => by unfold Segment.closeBlank; split <;> rfl) w.map)]

theorem copies_placePaper (w : Web) : copies w.placePaper.map = copies w.map := by
  have hblank : copies [Segment.opened .blank w.odometer] = [] := rfl
  unfold Web.placePaper
  split
  · split
    · split
      · rw [copies_openSegment, hblank, List.append_nil]
      · unfold Web.growStretch; split <;> rfl
    · exact copies_of_kinds (kinds_mapLast (f := Segment.grow) (fun g => rfl) w.map)
  · rw [copies_openSegment, hblank, List.append_nil]

theorem copies_exposeStrobe (s : State) : copies s.exposeStrobe.web.map = copies s.web.map := by
  unfold State.exposeStrobe
  split
  · exact copies_of_kinds (kinds_mapLast (f := Segment.afterLine _ _) (fun g => rfl) _)
  · exact copies_of_kinds (kinds_mapLast (f := Segment.closeLeader _) (fun g => rfl) _)

theorem kinds_flush (s : State) : kinds s.flush.web.map = kinds s.web.map :=
  kinds_mapLast (fun g => by unfold Segment.abandon; split <;> rfl) s.web.map

theorem kinds_raiseWebFault (s : State) (cause : WebFaultCause) :
    kinds (s.raiseWebFault cause).web.map = kinds s.web.map := by
  unfold State.raiseWebFault
  split
  · rfl
  · exact (kinds_map (f := fun g => { g with spoiled := true }) (fun _ => rfl) _).trans (kinds_flush s)

theorem copies_detectMissedCuts (s : State) : copies s.detectMissedCuts.web.map = copies s.web.map := by
  have hmerged := kinds_of_outline (outline_mergePassed s.web.lpath s.web.odometer s.web.map)
  refine copies_of_kinds ?_
  unfold State.detectMissedCuts
  split
  · rfl
  · dsimp only
    split
    · exact (kinds_raiseWebFault _ _).trans hmerged
    · exact hmerged

section
variable {s t : State} {slot n : Nat} {o p : Order} {m m' : List (Nat × Nat)}

/-- What keeps the registry over the copies of a map keeps it over those of a map with the same copies. -/
theorem Keeps.onto (h : Keeps m s m t) (hm : m' = m) : Keeps m s m' t := hm ▸ h

/-! ## WEB FAULT and missed-cut detection -/

theorem selection_raiseWebFault {s : State} {cause : WebFaultCause} {x : Selection}
    (h : (s.raiseWebFault cause).scheduler.selection = some x) : s.scheduler.selection = some x := by
  unfold State.raiseWebFault at h
  split at h
  · exact h
  · cases h

theorem keeps_stallSecond (m : List (Nat × Nat)) (s : State) : Keeps m s m s.stallSecond :=
  .of_frame m (onlyChanges_stallSecond s) (by decide) fun _ _ _ h => selection_raiseWebFault h

theorem keeps_detectMissedCuts (m : List (Nat × Nat)) (s : State) : Keeps m s m s.detectMissedCuts := by
  refine .of_frame m (onlyChanges_detectMissedCuts s) (by decide) fun slot n copy h => ?_
  unfold State.detectMissedCuts at h
  split at h
  · exact h
  · dsimp only at h
    split at h
    · have hsame := selection_raiseWebFault h
      exact hsame
    · exact h

/-! ## Cuts -/

theorem keeps_popSegments (m : List (Nat × Nat)) (s : State) (k : Nat) : Keeps m s m (s.popSegments k) :=
  .of_still_frame m (onlyChanges_popSegments s k) (by decide)

theorem copies_popSegments (s : State) (k : Nat) :
    copies s.web.map = copies (s.web.map.take k) ++ copies (s.popSegments k).web.map := by
  have hjoined : copies (s.popSegments k).web.map = copies (s.web.map.drop k) := by
    obtain ⟨hmap, -⟩ := popped_popSegments s k
    rw [hmap, copies_append]
    cases s.web.unlisted with
    | none => exact List.append_nil _
    | some u =>
      dsimp only
      split <;> exact List.append_nil _
  rw [hjoined, ← copies_append, List.take_append_drop]

theorem keeps_rejectPiece (m : List (Nat × Nat)) (s : State) (popped : List Segment) :
    Keeps (copies popped ++ m) s m (s.rejectPiece popped).1 := by
  refine .trans (t := s.countReject.notePatches popped) (.of_still_frame (parts := [.rejectCount, .patchUnread]) _ ?_ (by decide))
    (keeps_disposeSegments m _ true popped)
  intro p hp
  cases p <;> simp_all [Same, State.port, State.countReject, State.notePatches]

theorem map_rejectPiece (s : State) (popped : List Segment) : (s.rejectPiece popped).1.web.map = s.web.map := by
  rw [rejectPiece_web]

/-- Segments popped from the head and rejected. -/
theorem keeps_popped_rejected {k : Nat} {popped : List Segment} (hpopped : s.web.map.take k = popped) :
    Keeps (copies s.web.map) s (copies ((s.popSegments k).rejectPiece popped).1.web.map)
      ((s.popSegments k).rejectPiece popped).1 := by
  rw [map_rejectPiece, copies_popSegments s k, hpopped]
  exact (keeps_popSegments _ s k).trans (keeps_rejectPiece _ _ popped)

theorem deliverable?_spec {g : Segment} {e : SizeEntry} (h : s.deliverable? g = some (slot, n, o, e)) :
    ∃ copy, g.kind = .print slot n copy ∧ s.order? slot = some o
      ∧ (s.orderTable.item? slot n).bind s.orderTable.sizeOf? = some e ∧ g.sound = true ∧ o.state ≠ .withdrawn := by
  unfold State.deliverable? at h
  split at h
  · next k j copy hkind =>
    split at h
    · next o' e' ho he =>
      split at h
      · next hsound =>
        simp only [Option.some.injEq, Prod.mk.injEq] at h
        obtain ⟨rfl, rfl, rfl, rfl⟩ := h
        exact ⟨copy, hkind, ho, he, by simpa using hsound⟩
      · cases h
    · cases h
  · cases h

theorem keeps_matchedCut (s : State) (k : Nat) (d : Int) :
    Keeps (copies s.web.map) s (copies (s.matchedCut k d).1.web.map) (s.matchedCut k d).1 := by
  unfold State.matchedCut
  split
  · next g hpopped =>
    have hhead : s.web.map.take 1 = [g] := by
      have := congrArg (List.take 1) hpopped
      rwa [List.take_take, Nat.min_eq_left (by omega)] at this
    split
    · next slot n o e hdeliver =>
      obtain ⟨copy, hkind, ho, -, -, hstate⟩ := deliverable?_spec hdeliver
      dsimp only
      rw [copies_popSegments s 1, hhead, show copies [g] = [(slot, n)] by simp [copies, copyOf, hkind], deliverPrint_web]
      exact (keeps_popSegments _ s 1).trans (keeps_deliverPrint _ e ho hstate)
    · exact keeps_popped_rejected hhead
  · next popped _ => exact keeps_popped_rejected rfl

theorem keeps_judgeCut (s : State) : Keeps (copies s.web.map) s (copies s.judgeCut.1.web.map) s.judgeCut.1 := by
  have hearly (d : Option Int) : Keeps (copies s.web.map) s (copies (s.earlyCut d).1.web.map) (s.earlyCut d).1 := by
    refine (Keeps.of_still_frame _ (onlyChanges_earlyCut s d) (by decide)).onto (copies_of_kinds (kinds_of_outline ?_))
    exact outline_splitHead s.web.map
  unfold State.judgeCut
  split
  · dsimp only
    split
    · exact keeps_matchedCut s _ _
    · exact hearly _
  · exact hearly _

theorem keeps_faultCut (s : State) : Keeps (copies s.web.map) s (copies s.faultCut.1.web.map) s.faultCut.1 := by
  have hcounted : Keeps (copies s.web.map) s (copies s.countReject.web.map) s.countReject := by
    refine .of_still_frame (parts := [.rejectCount]) _ ?_ (by decide)
    intro p hp
    cases p <;> simp_all [Same, State.port, State.countReject]
  unfold State.faultCut
  split
  · next g rest hmap =>
    split
    · exact keeps_popped_rejected (by rw [hmap]; rfl)
    · exact hcounted
  · exact hcounted

theorem keeps_cutTaken (s : State) : Keeps (copies s.web.map) s (copies (cutTaken s).web.map) (cutTaken s) := by
  have htake : Keeps (copies s.web.map) s (copies s.takeCut.1.web.map) s.takeCut.1 := by
    unfold State.takeCut
    split
    · exact keeps_faultCut s
    · rw [← copies_detectMissedCuts s]
      exact (keeps_detectMissedCuts _ s).trans (keeps_judgeCut _)
  refine htake.trans (.of_still_frame (parts := [.cuts]) _ ?_ (by decide))
  intro p hp
  cases p <;> simp_all [Same, State.port, cutTaken]

/-! ## Clearing the map -/

theorem keeps_clearMap (s : State) : Keeps (copies s.web.map) s (copies s.clearMap.1.web.map) s.clearMap.1 := by
  have hdisposed := keeps_disposeSegments [] { s with web := { s.web with map := [], unlisted := none } } false s.web.map
  rw [List.append_nil] at hdisposed
  have hempty : s.clearMap.1.web.map = [] := by
    unfold State.clearMap
    rw [stopIfEmpty_map, disposeSegments_web]
  have hcleared : Keeps (copies s.web.map) s (copies s.web.map) { s with web := { s.web with map := [], unlisted := none } } := by
    refine .of_still_frame (parts := [.map, .unlisted]) _ ?_ (by decide)
    intro p hp
    cases p <;> simp_all [Same, State.port]
  rw [hempty]
  refine (hcleared.trans hdisposed).trans (.of_still_frame (parts := [.stall]) _ ?_ (by decide))
  intro p hp
  unfold State.clearMap Web.stopIfEmpty
  dsimp only
  split <;> cases p <;> simp_all [Same, State.port]

theorem keeps_webEmptied (s : State) : Keeps (copies s.web.map) s (copies (webEmptied s).web.map) (webEmptied s) := by
  refine (keeps_clearMap s).trans (.of_still_frame (parts := [.webFault]) _ ?_ (by decide))
  intro p hp
  cases p <;> simp_all [Same, State.port, webEmptied]

theorem keeps_warmReset (s : State) : Keeps (copies s.web.map) s (copies s.warmReset.web.map) s.warmReset := by
  have hflushed : Keeps (copies s.web.map) s (copies s.flush.web.map) s.flush := by
    rw [copies_of_kinds (kinds_flush s)]
    refine .of_frame (parts := [.fetch, .work, .rows, .selection, .attemptCause, .lineQueue, .exposure, .map]) _ ?_ (by decide)
      nofun
    intro p hp
    cases p <;> simp_all [Same, State.port]
  refine (hflushed.trans (keeps_clearMap s.flush)).trans (.of_still_frame
    (parts := [.switchRequest, .leaderPending, .active, .enables, .transport, .stall, .webFault, .unlisted, .rasterLink]) _ ?_
    (by decide))
  have hcut : ∃ l, s.flush.clearMap.1.fetch.cutOff = { s.flush.clearMap.1.fetch with link := l } := by
    unfold RasterFetch.cutOff
    split <;> exact ⟨_, rfl⟩
  obtain ⟨l, hcut⟩ := hcut
  intro p hp
  unfold State.warmReset
  dsimp only
  rw [hcut]
  cases p <;> simp_all [Same, State.port, Scheduler.warm, Web.warm]

/-! ## The beginning of a print (R12) -/

theorem keeps_beginPrint {copy : Nat} (m : List (Nat × Nat)) (hsel : s.scheduler.selection = some (.print slot n copy)) :
    Keeps m s (m ++ [(slot, n)]) s.beginSelection := by
  have hmoves := moves_beginSelection s
  have htable : s.beginSelection.orderTable = (s.orderTable.modifyItem slot n Item.expose).modifyOrder slot Order.begun := by
    unfold State.beginSelection
    rw [hsel]
  have horders (k : Nat) : s.beginSelection.order? k = if k = slot then (s.order? slot).map Order.begun else s.order? k := by
    unfold State.order?
    rw [htable]
    exact get?_modify s.orderTable.orders slot k Order.begun
  have hitems (hpool : PoolAndGross s) (k j : Nat) : s.beginSelection.orderTable.item? k j =
      if k = slot ∧ j = n then (s.orderTable.item? slot n).map Item.expose else s.orderTable.item? k j := by
    rw [htable]
    have hview := item?_modifyOrder { s with orderTable := s.orderTable.modifyItem slot n Item.expose } slot (f := Order.begun)
      (fun _ => rfl) k j
    exact hview.trans (item?_modifyItem hpool slot n Item.expose k j)
  have hnone : s.beginSelection.scheduler.selection = none := by
    unfold State.beginSelection
    rw [hsel]
  have hlists (c : OrderClass) : s.beginSelection.scheduler.classList c = s.scheduler.classList c :=
    classList_of_same (onlyChanges_beginSelection s .classLists (by decide)) c
  have hbins : s.beginSelection.sort.bins = s.sort.bins := onlyChanges_beginSelection s .bins (by decide)
  have hbeside (hpool : PoolAndGross s) : Beside slot s s.beginSelection :=
    ⟨fun k hk => by rw [horders, if_neg hk], fun k j hk => by rw [hitems hpool, if_neg fun h => hk h.1]⟩
  have hchosen (hl : ListsAgree s) : ∃ o i, s.order? slot = some o ∧ o.listed = true ∧ OrderSound o
      ∧ s.orderTable.item? slot n = some i ∧ i.waiting ≠ 0 := by
    obtain ⟨-, -, -, hsound, hstands⟩ := (listsAgree_iff s).1 hl
    obtain ⟨o, i, ho, hlisted, hi, hwaiting⟩ := hstands slot n copy hsel
    exact ⟨o, i, ho, hlisted, hsound slot o ho, hi, hwaiting⟩
  have hbegun {o : Order} (hlisted : o.listed = true) : o.begun.state = .inPrint ∧ (o.state = .ready ∨ o.state = .inPrint)
      ∧ o.windowEnded = true := by
    unfold Order.listed at hlisted
    unfold Order.begun
    cases h : o.state <;> simp_all
  refine .of_moves hmoves (fun hpool hl => ?_) (fun hpool hl hc => ?_) fun hpool _ hl _ hb => ?_
  · obtain ⟨o, i, ho, hlisted, ⟨-, -, -, hnotice⟩, -⟩ := hchosen hl
    obtain ⟨hstate, hwas, hended⟩ := hbegun hlisted
    refine listsAgree_of_same_lists (p := o.begun) ho ((horders slot).trans (by rw [if_pos rfl, ho]; rfl))
      (rising_of_pool (pool_of_moves hmoves hpool)) (hbeside hpool) hlists rfl ?_ ⟨?_, fun _ => hended, fun _ => rfl, fun h => ?_⟩
      (fun k j c h => ?_) hl
    · rw [hlisted]
      simp [Order.listed, hstate, show o.begun.windowEnded = o.windowEnded from rfl, hended]
    · simp [hstate]
    · have := hnotice h
      simp [this] at hwas
    · simp [hnone] at h
  · obtain ⟨o, i, ho, hlisted, ⟨-, -, -, hnotice⟩, hi, hwaiting⟩ := hchosen hl
    obtain ⟨hstate, hwas, -⟩ := hbegun hlisted
    obtain ⟨r, hr, -⟩ := (item?_eq_some ho).1 hi
    refine counted_of_beside (hbeside hpool) (fun k j hk => ?_) (fun q j i' hq hi' => ?_) (fun j hin => ?_) hc
    · rw [List.count_append, List.count_singleton, if_neg (by simpa using fun h => absurd h.symm hk), Nat.add_zero]
    · rw [horders, if_pos rfl, ho] at hq
      obtain rfl := Option.some.inj hq
      have hquiet : ¬ (o.begun.state = .opened ∨ o.begun.state = .complete ∨ o.begun.cancelNotice = true) := by
        rw [hstate]
        rintro (h | h | h)
        · cases h
        · cases h
        · have := hnotice h
          simp [this] at hwas
      refine ⟨?_, fun h => absurd h hquiet, fun h => absurd (.inr (.inl h)) hquiet⟩
      rw [hitems hpool] at hi'
      by_cases hj : j = n
      · subst hj
        rw [if_pos ⟨rfl, rfl⟩, hi] at hi'
        obtain rfl := Option.some.inj hi'
        rw [List.count_append, List.count_singleton_self, ← (hc.1 slot o j i ho hi).1]
        simp [Item.expose, hwaiting]
      · rw [if_neg fun h => hj h.2] at hi'
        rw [List.count_append, List.count_singleton, if_neg (by simpa using Ne.symm hj), Nat.add_zero]
        exact (hc.1 slot o j i' ho hi').1
    · refine ⟨o.begun, (horders slot).trans (by rw [if_pos rfl, ho]; rfl), ?_⟩
      rcases List.mem_append.1 hin with hin | hin
      · obtain ⟨q, hq, hn⟩ := hc.2 slot j hin
        obtain rfl : q = o := Option.some.inj (hq.symm.trans ho)
        exact hn
      · obtain rfl : j = n := by simpa using hin
        exact (List.getElem?_eq_some_iff.1 hr).1
  · obtain ⟨o, i, ho, hlisted, -⟩ := hchosen hl
    obtain ⟨hstate, -⟩ := hbegun hlisted
    exact binsAgree_of_order (p := o.begun) ho ((horders slot).trans (by rw [if_pos rfl, ho]; rfl)) (hbeside hpool) hbins rfl rfl
      (by simp [hstate]) hb

theorem keeps_beginSelection (s : State) :
    Keeps (copies s.web.map) s (copies s.beginSelection.web.map) s.beginSelection := by
  cases hsel : s.scheduler.selection with
  | none =>
    have : s.beginSelection = s := by unfold State.beginSelection; rw [hsel]
    rw [this]
    exact .refl _ s
  | some x =>
    cases x with
    | print slot n copy =>
      have hmap : copies s.beginSelection.web.map = copies s.web.map ++ [(slot, n)] := by
        unfold State.beginSelection
        rw [hsel]
        exact copies_openSegment s.web (.print slot n copy)
      rw [hmap]
      exact keeps_beginPrint _ hsel
    | patch =>
      have hmap : copies s.beginSelection.web.map = copies s.web.map := by
        unfold State.beginSelection
        rw [hsel]
        exact (copies_openSegment s.web .patch).trans (List.append_nil _)
      rw [hmap]
      refine .of_frame (parts := [.selection, .patchCadence, .lineQueue, .exposure, .work, .map, .mark]) _ ?_ (by decide) ?_
      · unfold State.beginSelection
        rw [hsel]
        intro p hp
        cases p <;> simp_all [Same, State.port, ChannelOutput.begin, Resampler.begin, Web.openSegment]
      · unfold State.beginSelection
        rw [hsel]
        nofun

/-! ## Strobes -/

theorem keeps_strobe (s : State) : Keeps (copies s.web.map) s (copies s.strobe.web.map) s.strobe := by
  have hplace (t : State) (verdict : StartVerdict) :
      Keeps (copies t.web.map) t (copies (t.placeStrobe verdict).web.map) (t.placeStrobe verdict) := by
    unfold State.placeStrobe
    split
    · exact keeps_beginSelection t
    · split
      · refine (Keeps.of_still_frame (parts := [.map, .mark, .leaderTarget, .leaderPending]) (copies t.web.map) ?_
          (by decide)).onto ((copies_openSegment t.web .leader).trans (List.append_nil _))
        intro p hp
        cases p <;> simp_all [Same, State.port, State.openLeader, Web.openSegment]
      · exact (Keeps.of_still_frame (copies t.web.map) (onlyChanges_placePaper t) (by decide)).onto (copies_placePaper t.web)
  have hvoided (t : State) (voids : Prop) [Decidable voids] (m : List (Nat × Nat)) :
      Keeps m t m (if voids then t.voidSelection else t) := by
    split
    · exact keeps_voidSelection m t
    · exact .refl m t
  have hmarked (t : State) : Keeps (copies s.web.map) t (copies s.web.map)
      { t with web := { t.web with odometer := t.web.odometer + 1, mark := false } } :=
    .of_still_frame (parts := [.odometer, .mark]) _ (by intro p hp; cases p <;> simp_all [Same, State.port]) (by decide)
  have hplaced : Keeps (copies s.web.map) s (copies (strobePlaced s).web.map) (strobePlaced s) := by
    have hdropped : Keeps (copies s.web.map) s (copies s.web.map) s.dropZeroLeader :=
      .of_still_frame (parts := [.leaderPending]) _ (by intro p hp; cases p <;> simp_all [Same, State.port]) (by decide)
    have hweb : State.web (if s.dropZeroLeader.startVerdict = .misfit then s.dropZeroLeader.voidSelection else s.dropZeroLeader)
        = s.web := by split <;> simp
    unfold strobePlaced
    dsimp only
    have hreached := (hdropped.trans (hvoided s.dropZeroLeader (s.dropZeroLeader.startVerdict = .misfit) _)).trans (hmarked _)
    refine hreached.trans ?_
    rw [← hweb]
    exact hplace _ _
  have hexposed : Keeps (copies s.web.map) s (copies (strobePlaced s).exposeStrobe.web.map) (strobePlaced s).exposeStrobe := by
    rw [copies_exposeStrobe]
    exact hplaced.trans (.of_still_frame _ (onlyChanges_exposeStrobe _) (by decide))
  have hlined : Keeps (copies s.web.map) s (copies (strobeLined s).web.map) (strobeLined s) := by
    have hsame : copies (strobeLined s).web.map = copies (strobePlaced s).exposeStrobe.web.map := by
      unfold strobeLined Web.restartStall Web.startStall
      dsimp only
      split
      · rfl
      · split <;> rfl
    rw [hsame]
    exact hexposed.trans (.of_still_frame _ (onlyChanges_rolled _ _) (by decide))
  rw [strobe_eq, copies_detectMissedCuts]
  exact hlined.trans (keeps_detectMissedCuts _ _)

end

end Sys2Proof.Registry

/-! The registry through attempts and through the requests that change single records. -/

namespace Sys2Proof.Registry

open Sys2Proof.Machine Sys2Proof.Laws Sys2Proof.OrdersAndItems Sys2Proof.Magazines Sys2Proof.Sorting Sys2Proof.Till
open Sys2Proof.Steps Sys2Proof.WebMap Sys2Proof.Pool

section
variable {s t : State} {slot n : Nat} {o p : Order}

/-- What keeps the registry by what the pool and the class lists say. -/
theorem Keeps.given {m m' : List (Nat × Nat)} (hmoves : Moves s t)
    (h : PoolAndGross s → ListsAgree s → Keeps m s m' t) : Keeps m s m' t := by
  refine .of_moves hmoves (fun hpool hl => ?_) (fun hpool hl => ?_) fun hpool hok hl => ?_
  · obtain ⟨-, -, hlists, -⟩ := h hpool hl
    exact hlists hpool hl
  · obtain ⟨-, -, -, hcounts, -⟩ := h hpool hl
    exact hcounts hpool hl
  · obtain ⟨-, -, -, -, hbins⟩ := h hpool hl
    exact hbins hpool hok hl

/-! ## Marks and flags of an order -/

/-- A change of one order record that no part of the registry sees. -/
theorem keeps_stillOrder (m : List (Nat × Nat)) (s : State) (slot : Nat) {f : Order → Order} (hf : ∀ o, OrderKeeps o (f o))
    (hstill : ∀ o, OrderStill o (f o)) : Keeps m s m (s.modifyOrder slot f) :=
  .of_still m (pool_of_moves (.order s slot hf)) (binsOk_of_moves (.order s slot hf)) (recast_modify orderStill_refl slot hstill)
    (.refl itemStill_refl _) (fun _ => rfl) rfl fun _ => binsStill_of_bins rfl

theorem keeps_markPaper (m : List (Nat × Nat)) (s : State) (slot : Nat) (need : Option PaperNeed) :
    Keeps m s m (s.markPaper slot need) :=
  keeps_stillOrder m s slot (f := fun o => { o with paperWait := need }) (fun _ => ⟨rfl, rfl, rfl⟩) orderStill_refl

theorem keeps_clearFlag (m : List (Nat × Nat)) (s : State) (slot : Nat) (c : Cause) :
    Keeps m s m (s.modifyOrder slot c.clearFlag) := by
  refine keeps_stillOrder m s slot (fun o => ?_) fun o => ?_
  · cases c <;> exact ⟨rfl, rfl, rfl⟩
  · cases c
    case cancelDone => exact ⟨⟨rfl, rfl, rfl, rfl, rfl, rfl, nofun⟩, rfl, rfl⟩
    all_goals exact orderStill_refl o

/-! ## Attempts (R33 to R41) -/

/-- R39, step 1: the first order of a list whose next print fits, behind orders of which none does. -/
theorem firstFitting_spec {m : MagazineRecord} {slots : List Nat} {i : Item} {e : SizeEntry}
    (h : s.firstFitting m slots = some (slot, n, i, e)) :
    ∃ ahead rest, slots = ahead ++ slot :: rest ∧ s.orderTable.nextPrint? slot = some (n, i, e)
      ∧ m.fits s.scheduler.endReserve i e = true ∧ s.firstFitting m ahead = none := by
  induction slots with
  | nil => cases h
  | cons k rest ih =>
    have hbehind (hrest : s.firstFitting m rest = some (slot, n, i, e)) (hk : s.firstFitting m [k] = none) :
        ∃ ahead rest', k :: rest = ahead ++ slot :: rest' ∧ s.orderTable.nextPrint? slot = some (n, i, e)
          ∧ m.fits s.scheduler.endReserve i e = true ∧ s.firstFitting m ahead = none := by
      obtain ⟨ahead, rest', rfl, hnext, hfits, hnone⟩ := ih hrest
      refine ⟨k :: ahead, rest', rfl, hnext, hfits, ?_⟩
      unfold State.firstFitting at hk ⊢
      split at hk
      · split at hk
        · cases hk
        · next hmisfit => rw [if_neg hmisfit, hnone]
      · exact hnone
    unfold State.firstFitting at h
    split at h
    · next n' i' e' hnext =>
      split at h
      · next hfits =>
        cases h
        exact ⟨[], rest, rfl, hnext, hfits, rfl⟩
      · next hmisfit => exact hbehind h (by unfold State.firstFitting; rw [hnext]; exact if_neg hmisfit)
    · next hnext => exact hbehind h (by unfold State.firstFitting; rw [hnext]; rfl)

theorem keeps_selectPrint (m : List (Nat × Nat)) {i : Item} {e : SizeEntry} {c : OrderClass}
    (hin : slot ∈ s.scheduler.classList c) (hnext : s.orderTable.nextPrint? slot = some (n, i, e)) :
    Keeps m s m (s.selectPrint slot n i e) := by
  refine (keeps_markPaper m s slot none).trans (.of_selecting (parts := [.selection, .work, .rows, .fetch, .nextTag]) m ?_
    (by decide) fun hl slot' n' copy hprint => ?_)
  · intro p hp
    cases p <;> simp_all [Same, State.port, State.selectPrint]
  · have hselected : (s.selectPrint slot n i e).scheduler.selection = some (.print slot n i.nextCopy) := by
      unfold State.selectPrint
      dsimp only
      rw [takeWork_scheduler]
    rw [hselected] at hprint
    cases hprint
    obtain ⟨-, hmem, -⟩ := (listsAgree_iff _).1 hl
    obtain ⟨p, hp, -, hlisted⟩ := (hmem c slot).1 hin
    obtain ⟨o, r, ho, hr, hi, hwaiting, -⟩ := (nextPrint?_eq_some s slot n i e).1 hnext
    refine ⟨p, i, hp, hlisted, ?_, hwaiting⟩
    exact (item?_modifyOrder s slot (f := fun o => { o with paperWait := none }) (fun _ => rfl) slot n).trans
      ((item?_of_order ho hr).trans hi)

theorem keeps_scanClasses (m : List (Nat × Nat)) (s : State) (active : Magazine) (classes : List OrderClass) :
    Keeps m s m (s.scanClasses active classes) := by
  induction classes generalizing s with
  | nil => exact .refl m s
  | cons c rest ih =>
    unfold State.scanClasses
    split
    · next slot n i e hfirst =>
      obtain ⟨ahead, behind, hlist, hnext, -, -⟩ := firstFitting_spec hfirst
      exact keeps_selectPrint m (c := c) (by simp [hlist]) hnext
    · split
      · exact ih s
      · next slot _ i e _ =>
        split
        · refine (keeps_markPaper m s slot none).trans (.of_still_frame (parts := [.switchRequest]) m ?_ (by decide))
          intro p hp
          cases p <;> simp_all [Same, State.port]
        · exact (keeps_markPaper m s slot _).trans (ih _)

theorem keeps_attempt (m : List (Nat × Nat)) (s : State) (active : Magazine) : Keeps m s m (s.attempt active) := by
  have hused : Keeps m s m { s with scheduler := { s.scheduler with attemptCause := false } } :=
    .of_still_frame (parts := [.attemptCause]) m (by intro p hp; cases p <;> simp_all [Same, State.port]) (by decide)
  unfold State.attempt
  dsimp only
  split
  · refine hused.trans (.of_frame (parts := [.selection, .work, .rows, .fetch, .nextTag]) m ?_ (by decide) ?_)
    · intro p hp
      cases p <;> simp_all [Same, State.port, State.selectPatch]
    · unfold State.selectPatch
      rw [takeWork_scheduler]
      nofun
  · exact hused.trans (keeps_scanClasses m _ active _)

/-! ## READ ATTENTION (R193) -/

theorem mem_flaggedOrders {link : Link} {c : Cause} {rest : List (Nat × Order)} (hpool : PoolAndGross s)
    (h : s.flaggedOrders link c = (slot, o) :: rest) : s.order? slot = some o ∧ c.flagOf link o = true := by
  have hin : (slot, o) ∈ s.flaggedOrders link c := by rw [h]; exact List.mem_cons_self
  obtain ⟨hin, hflag⟩ := List.mem_filter.1 hin
  exact ⟨get?_of_mem (rising_of_pool hpool) hin, hflag⟩

/-- R21, R24: a record is freed at its CANCEL DONE. -/
theorem keeps_noticeTaken (m : List (Nat × Nat)) {link : Link} {rest : List (Nat × Order)}
    (h : s.flaggedOrders link .cancelDone = (slot, o) :: rest) :
    Keeps m s m ((s.modifyOrder slot (Cause.clearFlag .cancelDone)).freeRecord slot) := by
  rw [freeRecord_modifyOrder s slot (f := Cause.clearFlag .cancelDone) fun _ => rfl]
  refine .given (.free s slot) fun hpool hl => ?_
  obtain ⟨ho, hflag⟩ := mem_flaggedOrders hpool h
  have hnotice : o.cancelNotice = true := by
    have := (Bool.and_eq_true_iff.1 hflag).1
    exact this
  obtain ⟨-, -, -, hsound, -⟩ := (listsAgree_iff s).1 hl
  obtain ⟨-, -, -, hwithdrawn⟩ := hsound slot o ho
  refine keeps_freeRecord ho (by simp [Order.listed, hwithdrawn hnotice]) (fun hc n i hi => ?_) fun hb => ?_
  · obtain ⟨-, hquiet, -⟩ := hc.1 slot o n i ho hi
    exact hquiet (.inr (.inr hnotice))
  · obtain ⟨-, -, -, hempty⟩ := hb.2 slot o ho
    exact hempty (.inr (hwithdrawn hnotice))

theorem keeps_clearCause (m : List (Nat × Nat)) (s : State) (link : Link) (c : Cause) : Keeps m s m (s.clearCause link c) := by
  cases c
  case orderFaulted | binShortage | orderComplete =>
    unfold State.clearCause
    dsimp only
    split
    · exact keeps_clearFlag m s _ _
    · exact .refl m s
  case cancelDone =>
    unfold State.clearCause
    dsimp only
    split
    · next h => exact keeps_noticeTaken m h
    · exact .refl m s
  case patchUnread =>
    exact .of_still_frame (parts := [.patchUnread]) m (by intro p hp; cases p <;> simp_all [Same, State.port, State.clearCause])
      (by decide)
  all_goals exact .refl m s

end

end Sys2Proof.Registry

/-! The registry through every other command: new orders and items, emptied bins, commits. O5, O6 and O9. -/

namespace Sys2Proof.Registry

open Sys2Proof.Machine Sys2Proof.Laws Sys2Proof.OrdersAndItems Sys2Proof.Magazines Sys2Proof.Sorting Sys2Proof.Till
open Sys2Proof.Steps Sys2Proof.WebMap Sys2Proof.Pool

section
variable {s t : State} {slot n : Nat} {o p : Order}

/-! ## Bins emptied (R151) -/

theorem keeps_ownerChanged (m : List (Nat × Nat)) (s : State) (owner : Option Nat) {f : Order → Order}
    (hf : ∀ o, OrderKeeps o (f o)) (hstill : ∀ o, OrderStill o (f o)) : Keeps m s m (ownerChanged s owner f) := by
  cases owner with
  | none => exact .refl m s
  | some slot => exact keeps_stillOrder m s slot hf hstill

theorem emptied_free {b : Bin} (h : b.state = .waiting ∨ b.state = .clearance) :
    b.emptied.owner = none ∧ b.emptied.state = .free := by
  unfold Bin.emptied
  rcases h with h | h <;> rw [h] <;> exact ⟨rfl, rfl⟩

/-- R151: a WAITING bin goes from its order's list. -/
theorem keeps_waitingCleared (m : List (Nat × Nat)) {b : Bin} (hb : Table.get? s.sort.bins n = some b)
    (hwaiting : b.state = .waiting) (howner : b.owner = some slot) : Keeps m s m (binCleared s n b) := by
  have hcleared : binCleared s n b = (binChanged s n Bin.emptied).modifyOrder slot fun o =>
      { o with bins := o.bins.filter (· != n), pickedUp := true } := by
    unfold Sorting.binCleared ownerChanged
    rw [howner, hwaiting]
    rfl
  have horder (k : Nat) : (binCleared s n b).order? k = if k = slot then (s.order? slot).map fun o =>
      { o with bins := o.bins.filter (· != n), pickedUp := true } else s.order? k := by
    rw [hcleared, order?_modifyOrder]
    rfl
  have hbins (k : Nat) : Table.get? (binCleared s n b).sort.bins k =
      if k = n then (Table.get? s.sort.bins n).map Bin.emptied else Table.get? s.sort.bins k := by
    rw [hcleared]
    exact get?_modify s.sort.bins n k Bin.emptied
  have hbeside : Beside slot s (binCleared s n b) :=
    beside_of_items (fun k hk => by rw [horder, if_neg hk]) (by rw [hcleared]; rfl)
  have hquiet : Recast OrderQuiet s.orderTable.orders (binCleared s n b).orderTable.orders := by
    rw [hcleared]
    exact recast_modify orderQuiet_refl slot (f := fun o => { o with bins := o.bins.filter (· != n), pickedUp := true })
      orderQuiet_refl
  have hitems : Recast ItemStill s.orderTable.items (binCleared s n b).orderTable.items := by
    rw [hcleared]
    exact .refl itemStill_refl _
  refine .of_moves (moves_binCleared s n b) (fun _ => listsAgree_of_quiet hquiet hitems (fun _ => by rw [hcleared]; rfl)
    (by rw [hcleared]; rfl)) (fun _ _ => counted_of_quiet hquiet hitems) fun _ _ _ _ hagree => ?_
  obtain ⟨o, ho, hticket, hlisted⟩ := hagree.1 n b slot hb howner
  obtain ⟨hlen, hnodup, hnamed, hnone⟩ := hagree.2 slot o ho
  have hslot : (binCleared s n b).order? slot = some { o with bins := o.bins.filter (· != n), pickedUp := true } := by
    rw [horder, if_pos rfl, ho]; rfl
  have hempty := (emptied_free (.inl hwaiting)).1
  refine binsAgree_of_beside hbeside (fun k c j hj hc => ?_) (fun k c hget hc => ?_) (fun q hq => ?_) hagree
  · rw [hbins]
    by_cases hk : k = n
    · subst hk
      rw [if_pos rfl, hb]
      refine iff_of_false (fun h => ?_) fun h => ?_
      · obtain rfl : b.emptied = c := Option.some.inj h
        simp [hempty] at hc
      · obtain rfl := Option.some.inj h
        exact hj (Option.some.inj (hc.symm.trans howner))
    · rw [if_neg hk]
  · rw [hbins] at hget
    by_cases hk : k = n
    · subst hk
      rw [if_pos rfl, hb] at hget
      obtain rfl : b.emptied = c := Option.some.inj hget
      simp [hempty] at hc
    · rw [if_neg hk] at hget
      obtain ⟨q, hq, hqt, hqin⟩ := hagree.1 k c slot hget hc
      obtain rfl : q = o := Option.some.inj (hq.symm.trans ho)
      exact ⟨_, hslot, hqt, List.mem_filter.2 ⟨hqin, by simpa using hk⟩⟩
  · obtain rfl := Option.some.inj (hslot.symm.trans hq)
    refine ⟨(List.length_filter_le _ _).trans hlen, hnodup.filter _, fun k hk => ?_, fun h => ?_⟩
    · obtain ⟨hin, hne⟩ := List.mem_filter.1 hk
      obtain ⟨c, hget, hrest⟩ := hnamed k hin
      exact ⟨c, by rw [hbins, if_neg (by simpa using hne)]; exact hget, hrest⟩
    · show List.filter (· != n) o.bins = []
      rw [hnone h]
      rfl

theorem keeps_binCleared (m : List (Nat × Nat)) {b : Bin} (hb : Table.get? s.sort.bins n = some b) :
    Keeps m s m (binCleared s n b) := by
  have hbin (h : BinsOk s → BinStill b b.emptied) : Keeps m s m (binChanged s n Bin.emptied) :=
    keeps_bin m (binsOk_of_moves (moves_bin s n fun _ _ => emptied_ok)) fun hok c hc => by
      obtain rfl := Option.some.inj (hb.symm.trans hc)
      exact h hok
  have hbok (hok : BinsOk s) : b.ok := hok.2 (n, b) (mem_of_get? hb)
  have hrest (hne : b.state ≠ .waiting) (h : BinsOk s → BinStill b b.emptied) : Keeps m s m (binCleared s n b) := by
    refine (hbin h).trans (keeps_ownerChanged m _ b.owner (fun o => ?_) fun o => ?_)
    · cases hstate : b.state <;> first | exact absurd hstate hne | exact ⟨rfl, rfl, rfl⟩
    · cases hstate : b.state <;> first | exact absurd hstate hne | exact orderStill_refl o
  cases hstate : b.state with
  | free =>
    refine hrest (by simp [hstate]) fun _ => ?_
    rw [show b.emptied = b by unfold Bin.emptied; rw [hstate]]
    exact binStill_refl b
  | filling | full =>
    refine hrest (by simp [hstate]) fun _ => ?_
    rw [show b.emptied = { b with state := .filling, count := 0 } by unfold Bin.emptied; rw [hstate]]
    exact ⟨rfl, fun _ => ⟨rfl, fun _ => .inl rfl⟩⟩
  | clearance =>
    refine hrest (by simp [hstate]) fun hok => ?_
    obtain ⟨-, -, -, -, hclearance, -⟩ := hbok hok
    obtain ⟨-, -, hnone⟩ := hclearance hstate
    exact ⟨(emptied_free (.inr hstate)).1.trans hnone.symm, by simp [hnone]⟩
  | waiting =>
    cases howner : b.owner with
    | some slot => exact keeps_waitingCleared m hb hstate howner
    | none =>
      have hsame : binCleared s n b = binChanged s n Bin.emptied := by
        unfold Sorting.binCleared ownerChanged
        rw [howner]
      rw [hsame]
      exact hbin fun _ => ⟨(emptied_free (.inl hstate)).1.trans howner.symm, by simp [howner]⟩

/-! ## New orders and items (R4, R6) -/

theorem keeps_opened (m : List (Nat × Nat)) (ticket : Nat) (c : OrderClass) (hnone : s.order? slot = none) :
    Keeps m s m (opened s slot ticket c) := by
  have horder (k : Nat) := order?_opened s slot ticket c k
  have hslot : (opened s slot ticket c).order? slot = some (Order.opened ticket c) := by rw [horder, if_pos rfl]
  have hbeside : Beside slot s (opened s slot ticket c) := beside_of_items (fun k hk => by rw [horder, if_neg hk]) rfl
  have hunowned (hb : BinsAgree s) (k : Nat) (b : Bin) (hget : Table.get? s.sort.bins k = some b) : b.owner ≠ some slot := by
    intro howner
    obtain ⟨q, hq, -⟩ := hb.1 k b slot hget howner
    simp [hnone] at hq
  have hfresh (hl : ListsAgree s) (d : OrderClass) : slot ∉ s.scheduler.classList d := by
    obtain ⟨-, hmem, -⟩ := (listsAgree_iff s).1 hl
    rw [hmem]
    rintro ⟨q, hq, -⟩
    simp [hnone] at hq
  refine ⟨pool_opened ticket c hnone, id, fun hp hl => ?_, fun _ _ hc => ?_, fun _ _ _ _ hb => ?_⟩
  · obtain ⟨hnodup, hmem, -, -, hstands⟩ := (listsAgree_iff s).1 hl
    refine listsAgree_of_beside (rising_of_pool (pool_opened ticket c hnone hp)) hbeside (fun _ _ _ => .rfl) hnodup
      (fun d => iff_of_false (hfresh hl d) ?_) (fun q hq => ?_) (fun k j copy hprint => .inl ⟨?_, hprint⟩) hl
    · rintro ⟨q, hq, -, hlisted⟩
      obtain rfl := Option.some.inj (hslot.symm.trans hq)
      simp [Order.listed, Order.opened] at hlisted
    · obtain rfl := Option.some.inj (hslot.symm.trans hq)
      simp [OrderSound, Order.opened]
    · rintro rfl
      obtain ⟨q, i, hq, -⟩ := hstands k j copy hprint
      simp [hnone] at hq
  · refine counted_of_beside hbeside (fun _ _ _ => rfl) (fun q j i hq hi => ?_) (fun j hin => ?_) hc
    · rw [item?_eq_bind, hslot] at hi
      simp [Order.opened] at hi
    · obtain ⟨q, hq, -⟩ := hc.2 slot j hin
      simp [hnone] at hq
  · refine binsAgree_of_beside hbeside (othersBinsSame_of_bins rfl) (fun k b hget howner => ?_) (fun q hq => ?_) hb
    · exact absurd howner (hunowned hb k b hget)
    · obtain rfl := Option.some.inj (hslot.symm.trans hq)
      simp [ListsBins, Order.opened]

theorem item?_itemAdded (hpool : PoolAndGross s) {r : Nat} (cls : OrderClass) (i : Item) (ho : s.order? slot = some o)
    (hfree : Table.get? s.orderTable.items r = none) (k j : Nat) : (itemAdded s slot cls r i).orderTable.item? k j =
      if k = slot ∧ j = o.items.length then some i else s.orderTable.item? k j := by
  have hpooled {k' r' : Nat} {q : Order} (hq : s.order? k' = some q) (hr : r' ∈ q.items) : r' ≠ r := by
    rintro rfl
    obtain ⟨-, -, -, hkeys, -⟩ := (poolAndGross_iff s).1 hpool
    have := (hkeys r').2 ⟨k', q, hq, hr⟩
    simp [hfree] at this
  rw [item?_eq_bind, item?_eq_bind, order?_itemAdded]
  simp only [item_itemAdded]
  by_cases hk : k = slot
  · subst hk
    rw [if_pos rfl, ho]
    simp only [Option.map_some, Option.bind_some]
    rcases lt_trichotomy j o.items.length with hj | hj | hj
    · rw [List.getElem?_append_left hj, if_neg (by omega), List.getElem?_eq_getElem hj]
      simp only [Option.bind_some]
      rw [if_neg (hpooled ho (List.getElem_mem hj))]
    · subst hj
      simp
    · rw [List.getElem?_eq_none (by simp; omega), if_neg (by omega), List.getElem?_eq_none hj.le]
      rfl
  · rw [if_neg hk, if_neg fun h => hk h.1]
    cases hq : s.order? k with
    | none => rfl
    | some q =>
      simp only [Option.bind_some]
      cases hr : q.items[j]? with
      | none => rfl
      | some r' => simp only [Option.bind_some]; rw [if_neg (hpooled hq (List.mem_of_getElem? hr))]

theorem keeps_itemAdded (m : List (Nat × Nat)) {r : Nat} {i : Item} (ho : s.order? slot = some o)
    (hstate : o.state = .opened ∨ o.state = .ready) (hlen : o.items.length < 24)
    (hfree : Table.lowestFree s.orderTable.items 512 = some r) (hi : i.charged = 0) (honweb : i.onWeb = 0) :
    Keeps m s m (itemAdded s slot o.cls r i) := by
  obtain ⟨-, hnone, -⟩ := lowestFree_spec hfree
  have horder (k : Nat) := order?_itemAdded s slot o.cls r i k
  have hitem (hp : PoolAndGross s) := item?_itemAdded hp o.cls i ho hnone
  have hslot : (itemAdded s slot o.cls r i).order? slot = some { o with items := o.items ++ [r] } := by
    rw [horder, if_pos rfl, ho]; rfl
  have hbeside (hp : PoolAndGross s) : Beside slot s (itemAdded s slot o.cls r i) :=
    ⟨fun k hk => by rw [horder, if_neg hk], fun k j hk => by rw [hitem hp, if_neg fun h => hk h.1]⟩
  have hpool := pool_itemAdded o.cls ho hlen hfree hi
  have hold (hp : PoolAndGross s) {k j : Nat} {i' : Item} (h : s.orderTable.item? k j = some i') :
      (itemAdded s slot o.cls r i).orderTable.item? k j = some i' := by
    rw [hitem hp, if_neg, h]
    rintro ⟨rfl, rfl⟩
    rw [item?_eq_bind, ho] at h
    simp at h
  refine ⟨hpool, id, fun hp hl => ?_, fun hp _ hc => ?_, fun hp _ _ _ hb => ?_⟩
  · obtain ⟨-, -, -, hsound, hstands⟩ := (listsAgree_iff s).1 hl
    refine listsAgree_of_same_lists (p := { o with items := o.items ++ [r] }) ho hslot (rising_of_pool (hpool hp)) (hbeside hp)
      (fun c => by cases c <;> rfl) rfl rfl (hsound slot o ho) (fun k j copy hprint => ?_) hl
    obtain ⟨q, i', hq, hlisted, hi', hwaiting⟩ := hstands k j copy hprint
    by_cases hk : k = slot
    · subst hk
      obtain rfl : q = o := Option.some.inj (hq.symm.trans ho)
      exact .inr ⟨_, i', hslot, hlisted, hold hp hi', hwaiting⟩
    · exact .inl ⟨hk, hprint⟩
  · refine counted_of_beside (hbeside hp) (fun _ _ _ => rfl) (fun q j i' hq hi' => ?_) (fun j hin => ?_) hc
    · obtain rfl := Option.some.inj (hslot.symm.trans hq)
      rw [hitem hp] at hi'
      split at hi'
      · next hj =>
        obtain rfl := Option.some.inj hi'
        refine ⟨honweb.trans (Eq.symm (List.count_eq_zero.2 fun hin => ?_)), fun _ => honweb, fun h => ?_⟩
        · obtain ⟨q, hq', hlt⟩ := hc.2 slot j hin
          obtain rfl : q = o := Option.some.inj (hq'.symm.trans ho)
          omega
        · rcases hstate with hs | hs <;> exact absurd (hs.symm.trans h) (by simp)
      · exact hc.1 slot o j i' ho hi'
    · obtain ⟨q, hq, hlt⟩ := hc.2 slot j hin
      obtain rfl : q = o := Option.some.inj (hq.symm.trans ho)
      exact ⟨_, hslot, by simp; omega⟩
  · exact binsAgree_of_order (p := { o with items := o.items ++ [r] }) ho hslot (hbeside hp) rfl rfl rfl id hb

/-! ## AMEND COMMIT (R168) -/

theorem keeps_committed (m : List (Nat × Nat)) (a : Amendment) (ho : s.order? slot = some o) :
    Keeps m s m (committed s slot a) := by
  have hitems : Recast ItemStill s.orderTable.items (committed s slot a).orderTable.items :=
    recast_modifyAll itemStill_refl (s.orderTable.waivedRefs slot a.waive) (f := Item.waive) itemStill_refl
  exact .of_still m (pool_committed a ho) id (recast_modify orderStill_refl slot
    (f := amended a (s.orderTable.refundOf slot a.waive)) orderStill_refl) hitems (fun _ => rfl) rfl
    fun _ => binsStill_of_bins rfl

/-! ## Every command -/

theorem keeps_scheduled (m : List (Nat × Nat)) {sch : Scheduler} {parts : List Machine.Part} (voids : Prop) [Decidable voids]
    (h : OnlyChanges parts s { s with scheduler := sch })
    (hparts : ∀ p ∈ ([.orders, .items, .ticketCounter, .classLists, .bins, .selection] : List Machine.Part), p ∉ parts) :
    Keeps m s m (rescheduled s sch voids) := by
  unfold rescheduled
  split
  · exact (Keeps.of_still_frame m h hparts).trans (keeps_voidSelection m _)
  · exact .of_still_frame m h hparts

theorem map_rescheduled (sch : Scheduler) (voids : Prop) [Decidable voids] : (rescheduled s sch voids).web = s.web := by
  unfold rescheduled
  split <;> simp

theorem keeps_submitted (m : List (Nat × Nat)) (ms : Nat) (ho : s.order? slot = some o) (hopened : o.state = .opened) :
    Keeps m s m (enlistedIf (s.modifyOrder slot (submitted s.timeBase ms)) slot (ms = 0)) := by
  have hsound (hl : ListsAgree s) : OrderSound o := by
    obtain ⟨-, -, -, h, -⟩ := (listsAgree_iff s).1 hl
    exact h slot o ho
  refine keeps_enlisted m (ms = 0) ho (fun _ => ⟨rfl, rfl, rfl⟩) rfl (fun _ => by simp [Order.listed, hopened])
    (fun hl => ?_) (fun hl => ?_) rfl rfl (.inr (.inl rfl))
  · obtain ⟨hrunning, -⟩ := hsound hl
    obtain ⟨hended, -⟩ := hrunning hopened
    simp [Order.listed, submitted, hended]
  · obtain ⟨hrunning, hstarted, -, hnotice⟩ := hsound hl
    obtain ⟨hended, -⟩ := hrunning hopened
    refine ⟨nofun, fun h => ?_, nofun, fun h => ?_⟩
    · exact absurd (hstarted h) (by simp [hended])
    · exact absurd (hnotice h) (by simp [hopened])

theorem keeps_released (m : List (Nat × Nat)) (ho : s.order? slot = some o) (hheld : o.state = .held) :
    Keeps m s m (enlistedIf (s.modifyOrder slot (released o.started)) slot (o.windowEnded = true)) := by
  have hsound (hl : ListsAgree s) : OrderSound o := by
    obtain ⟨-, -, -, h, -⟩ := (listsAgree_iff s).1 hl
    exact h slot o ho
  refine keeps_enlisted m (o.windowEnded = true) ho (fun _ => ⟨rfl, rfl, rfl⟩) rfl (fun _ => by simp [Order.listed, hheld])
    (fun hl => ?_) (fun hl => ?_) rfl rfl (.inr ?_)
  · obtain ⟨-, hstarted, -⟩ := hsound hl
    cases h : o.started
    · simp [Order.listed, released]
    · simp [Order.listed, released, hstarted h]
  · obtain ⟨-, hstarted, -, hnotice⟩ := hsound hl
    refine ⟨?_, hstarted, ?_, fun h => absurd (hnotice h) (by simp [hheld])⟩
    · cases h : o.started <;> simp [released]
    · cases h : o.started <;> simp [released, h]
  · cases h : o.started <;> simp [released]

theorem keeps_windowExpired (m : List (Nat × Nat)) (ho : s.order? slot = some o) (hnew : o.eligibleAt ≠ none)
    (hrunning : o.windowEnded = false) : Keeps m s m (s.expireWindow slot) := by
  have hsound (hl : ListsAgree s) : OrderSound o := by
    obtain ⟨-, -, -, h, -⟩ := (listsAgree_iff s).1 hl
    exact h slot o ho
  have hunstarted (hl : ListsAgree s) : o.state ≠ .inPrint := by
    obtain ⟨-, hstarted, hprinting, -⟩ := hsound hl
    intro h
    simp [hrunning] at hstarted
    exact absurd (hprinting h) (by simp [hstarted])
  rw [expireWindow_eq ho]
  refine keeps_enlisted m (o.state = .ready) ho (f := fun o => { o with windowEnded := true }) (fun _ => ⟨rfl, rfl, rfl⟩) rfl
    (fun hl => ?_) (fun hl => ?_) (fun hl => ?_) rfl rfl (.inl rfl)
  · have := hunstarted hl
    cases h : o.state <;> simp_all [Order.listed]
  · have := hunstarted hl
    cases h : o.state <;> simp_all [Order.listed]
  · obtain ⟨hopened, -, hprinting, hnotice⟩ := hsound hl
    refine ⟨fun h => ?_, fun _ => rfl, hprinting, hnotice⟩
    obtain ⟨-, hnone⟩ := hopened h
    exact absurd hnone hnew

theorem keeps_collected (m : List (Nat × Nat)) (ho : s.order? slot = some o) (hcomplete : o.state = .complete) :
    Keeps m s m ((s.releaseBins slot).freeRecord slot) := by
  have horder : (s.releaseBins slot).order? slot = some { o with bins := [] } :=
    (order?_modifyOrder s slot slot fun o => { o with bins := [] }).trans (by rw [if_pos rfl, ho]; rfl)
  refine (keeps_releaseBins m ho).trans (keeps_freeRecord horder (by simp [Order.listed, hcomplete]) (fun hc n i hi => ?_)
    fun _ => rfl)
  obtain ⟨-, hquiet, -⟩ := hc.1 slot _ n i horder hi
  exact hquiet (.inr (.inl hcomplete))

/-- OPEN orders have no copy on the web and no bin. -/
theorem keeps_freed (m : List (Nat × Nat)) (ho : s.order? slot = some o) (hopened : o.state = .opened) :
    Keeps m s m (s.freeRecord slot) := by
  refine keeps_freeRecord ho (by simp [Order.listed, hopened]) (fun hc n i hi => ?_) fun hb => ?_
  · obtain ⟨-, hquiet, -⟩ := hc.1 slot o n i ho hi
    exact hquiet (.inl hopened)
  · obtain ⟨-, -, -, hempty⟩ := hb.2 slot o ho
    exact hempty (.inl hopened)

theorem keeps_uncollectedTimeSet (m : List (Nat × Nat)) (s : State) (minutes : Nat) :
    Keeps m s m (uncollectedTimeSet s minutes) := by
  have hmoves := moves_uncollectedTimeSet s minutes
  refine .of_still m (pool_of_moves hmoves) (binsOk_of_moves hmoves) (.refl orderStill_refl _) (.refl itemStill_refl _)
    (fun _ => rfl) rfl fun _ k => ?_
  have hrecast : Recast BinStill s.sort.bins (uncollectedTimeSet s minutes).sort.bins := by
    by_cases hzero : minutes = 0
    · subst hzero
      exact ⟨fun _ b => { b with timer := none }, rfl, fun _ _ => ⟨rfl, fun _ => ⟨rfl, id⟩⟩⟩
    · have hbins : (uncollectedTimeSet s minutes).sort.bins = s.sort.bins := by simp [uncollectedTimeSet, hzero]
      rw [hbins]
      exact .refl binStill_refl _
  exact hrecast.get? k

theorem keeps_repriced (m : List (Nat × Nat)) (s : State) (p : PriceUnit) : Keeps m s m (repriced s p) :=
  .of_still_frame (parts := priceParts) m (onlyChanges_repriced fun _ h h' => absurd h h') (by decide)

/-- The state after power-on meets the invariants, whatever was before. -/
theorem keeps_reset (m : List (Nat × Nat)) (pending : List Instr) (freeCount : Nat) :
    Keeps m s (copies State.reset.web.map) { State.reset with pending := pending, freeCount := freeCount } := by
  obtain ⟨-, hlists, -, -, -, -, -, -, -, -, hbins, hcounted⟩ := Resets.resetMeetsInvariants
  exact ⟨fun _ => poolAndGross_reset, fun _ => binsOk_reset, fun _ _ => hlists, fun _ _ _ => (copiesCounted_iff _).1 hcounted,
    fun _ _ _ _ _ => hbins⟩

theorem kind_toPreReset (g : Segment) : g.toPreReset.kind = g.kind := by
  unfold Segment.toPreReset
  split <;> rfl

theorem kinds_stallSecond (s : State) : kinds s.stallSecond.web.map = kinds s.web.map := kinds_raiseWebFault _ _

/-- The parts of the state that are Raster Fetch's. -/
def fetchParts : List Machine.Part := [.fetch, .nextTag, .lastFault, .frameSent, .rasterLink]

theorem onlyChanges_fetch (s : State) (fetch : RasterFetch) : OnlyChanges fetchParts s { s with fetch := fetch } := by
  intro p hp
  cases p <;> simp_all [Same, State.port, fetchParts]

/-- The parts of the state that are the Channel Control's. -/
def channelParts : List Machine.Part := [.lineQueue, .exposure, .enables, .repeatTolerance, .heads]

theorem onlyChanges_channel (s : State) (channel : ChannelOutput) :
    OnlyChanges channelParts s { s with channel := channel } := by
  intro p hp
  cases p <;> simp_all [Same, State.port, channelParts]

theorem onlyChanges_patchRead (s : State) (g : Segment) (behind : List Segment) (e : PerChannel Int) :
    OnlyChanges [.offsets, .densityFault, .lastReading, .map] s (patchRead s g behind e) := by
  intro p hp
  cases p <;> simp_all [Same, State.port, Steps.patchRead, Density.take]

theorem onlyChanges_orderTable (s : State) (w : Windows) (n : Nat) : OnlyChanges [.windows, .remakeLimit] s
    { s with orderTable := { s.orderTable with windows := w, remakeLimit := n } } := by
  intro p hp
  cases p <;> simp_all [Same, State.port]

theorem onlyChanges_webSet (s : State) (lpath leaderLength endReserve stallTime : Nat) :
    OnlyChanges [.lpath, .stallTime, .paperSettings, .magazines] s (webSet s lpath leaderLength endReserve stallTime) := by
  intro p hp
  cases p <;> simp_all [Same, State.port, Steps.webSet]

theorem onlyChanges_densitySet (s : State) (k : Nat) (targets : PerChannel Nat) (a q tolerance : Nat)
    (gains : PerChannel Nat) :
    OnlyChanges [.densitySettings, .repeatTolerance, .gains] s (densitySet s k targets a q tolerance gains) := by
  intro p hp
  cases p <;> simp_all [Same, State.port, Steps.densitySet]

theorem onlyChanges_clock (s : State) (now : Word32) (n : Nat) : OnlyChanges [.timeBase, .freeCount] s
    { s with timeBase := now, freeCount := n } := by
  intro p hp
  cases p <;> simp_all [Same, State.port]

/-- The parts of the state that are the link ports'. -/
def linkParts : List Machine.Part :=
  [.port .order, .port .engine, .port .till, .mask .order, .mask .engine, .mask .till]

theorem onlyChanges_links (s : State) (links : LinkInterfaces) : OnlyChanges linkParts s { s with links := links } := by
  intro p hp
  cases p <;> simp_all [Same, linkParts]
  case port link => cases link <;> simp at hp
  case mask link => cases link <;> simp at hp

theorem keeps_of_change {u : State} (h : Change s u) : Keeps (copies s.web.map) s (copies u.web.map) u := by
  have hframe {u : State} {parts : List Machine.Part} (h : OnlyChanges parts s u)
      (hkinds : kinds u.web.map = kinds s.web.map) (hparts : ∀ p ∈ ([.orders, .items, .ticketCounter, .classLists, .bins,
        .selection] : List Machine.Part), p ∉ parts) : Keeps (copies s.web.map) s (copies u.web.map) u :=
    (Keeps.of_still_frame _ h hparts).onto (copies_of_kinds hkinds)
  cases h
  case nothing => exact .refl _ s
  case powerOn => exact keeps_reset _ _ _
  case warmReset => exact keeps_warmReset s
  case opened c hfree => exact keeps_opened _ _ c (lowestFree_spec hfree).2.1
  case itemAdded ho hstate hlen hfree => exact keeps_itemAdded _ ho hstate hlen hfree rfl rfl
  case submitted ms ho hopened _ =>
    rw [show (enlistedIf (s.modifyOrder _ (submitted s.timeBase ms)) _ (ms = 0)).web = s.web by unfold enlistedIf; split <;> rfl]
    exact keeps_submitted _ ms ho hopened
  case held ho hstate =>
    rw [show (((s.modifyOrder _ fun o => { o with state := .held }).delist _).voidSelectionOf _).web = s.web by simp]
    exact keeps_heldAt _ ho hstate
  case released slot o ho hheld =>
    rw [show (enlistedIf (s.modifyOrder slot (released o.started)) slot (o.windowEnded = true)).web = s.web by
      unfold enlistedIf; split <;> rfl]
    exact keeps_released _ ho hheld
  case freed ho hopened =>
    rw [freeRecord_web]
    exact keeps_freed _ ho hopened
  case withdrawn p requester partially ho _ _ _ =>
    rw [show ((repriced s p).withdraw _ requester partially).web = s.web by rw [withdraw_web]; rfl]
    exact (keeps_repriced _ s p).trans (keeps_withdraw _ requester partially ho)
  case collected p ho hcomplete =>
    rw [show (((repriced s p).releaseBins _).freeRecord _).web = s.web by rw [freeRecord_web, releaseBins_web]; rfl]
    exact (keeps_repriced _ s p).trans (keeps_collected (s := repriced s p) _ ho hcomplete)
  case rollLoaded =>
    rw [map_rescheduled]
    exact keeps_scheduled _ _ (onlyChanges_rollLoaded s _ _) (by decide)
  case rollUnloaded m =>
    rw [map_rescheduled]
    exact keeps_scheduled _ _ (onlyChanges_rollUnloaded s m) (by decide)
  case magazineTaken m _ _ =>
    rw [map_rescheduled]
    exact keeps_scheduled _ _ (onlyChanges_magazineTaken s m) (by decide)
  case transportStop => exact hframe (onlyChanges_transportStop s) (kinds_of_outline (outline_markExposedSuspect s)) (by decide)
  case stallFirst => exact hframe (onlyChanges_stallFirst s) (kinds_of_outline (outline_markExposedSuspect s)) (by decide)
  case stallSecond => exact (keeps_stallSecond _ s).onto (copies_of_kinds (kinds_stallSecond s))
  case cut => exact keeps_cutTaken s
  case patchRead =>
    exact hframe (onlyChanges_patchRead s _ _ _) (kinds_of_outline (outline_readOldestPatch _ _)) (by decide)
  case headFault c => exact hframe (onlyChanges_headFaulted s c) (kinds_of_outline (outline_markExposedSuspect s)) (by decide)
  case binCleared n b hb =>
    exact keeps_binCleared _ hb
  case webCleared => exact keeps_webEmptied s
  case densityReset =>
    have hcleared := hframe (onlyChanges_densityCleared s) (kinds_map (f := Segment.toPreReset) kind_toPreReset s.web.map)
      (by decide)
    rw [show (densityCleared s).voidSelection.web = (densityCleared s).web by simp]
    exact hcleared.trans (keeps_voidSelection _ _)
  case binSet g capacity hb hfree =>
    refine keeps_bin _ (binsOk_of_moves (moves_bin s _ fun b hb' hok => binSet_ok g ?_ ?_ ?_ hok)) fun _ b _ =>
      ⟨rfl, fun _ => ⟨rfl, id⟩⟩
    · unfold clampNat; omega
    · unfold clampNat; omega
    · rwa [← Option.some.inj (hb.symm.trans hb')]
  case uncollectedTime minutes _ => exact keeps_uncollectedTimeSet _ s minutes
  case repriced p => exact keeps_repriced _ s p
  case committed a ho => exact keeps_committed _ a ho
  case attention link c =>
    rw [clearCause_web]
    exact keeps_clearCause _ s link c
  case strobe => exact keeps_strobe s
  case windowExpired ho he hrunning =>
    rw [expireWindow_web]
    exact keeps_windowExpired _ ho (by simp [he]) hrunning
  case rasterFault fetch f cause =>
    have hfetch := hframe (onlyChanges_fetch s fetch) rfl (by decide)
    exact (hfetch.trans (keeps_rasterFault _ _ f cause)).onto
      (copies_of_kinds (kinds_of_outline (outline_rasterFault { s with fetch := fetch } f cause)))
  case binExpired hb hwaiting =>
    refine keeps_bin _ (binsOk_of_moves (moves_bin s _ fun b hb' hok => expire_ok ?_ hok)) fun _ b _ =>
      ⟨rfl, fun _ => ⟨rfl, id⟩⟩
    rwa [← Option.some.inj (hb.symm.trans hb')]
  case attempt active _ _ =>
    rw [attempt_web]
    exact keeps_attempt _ s active
  case rowPlaced fetch row =>
    have hfetch := hframe (onlyChanges_fetch s fetch) rfl (by decide)
    rw [placeRow_web]
    exact hfetch.trans (.of_still_frame _ (onlyChanges_placeRow _ row) (by decide))
  case lineProduced w codes _ =>
    have hqueued := hframe (u := { s with channel := s.channel.accept w codes }) (parts := channelParts)
      (onlyChanges_channel s _) rfl (by decide)
    rw [advanceWork_web]
    exact hqueued.trans (.of_still_frame _ (onlyChanges_advanceWork _ w) (by decide))
  case transportRun =>
    refine hframe (onlyChanges_transportRun s) (congrArg kinds ?_) (by decide)
    unfold State.transportRun Web.startStall
    dsimp only
    split <;> rfl
  case sizeWritten index e => exact hframe (onlyChanges_sizeWritten s index e) rfl (by decide)
  case trayCleared => exact hframe (onlyChanges_trayCleared s) rfl (by decide)
  case fetched fetch => exact hframe (onlyChanges_fetch s fetch) rfl (by decide)
  case rasterTick => exact hframe (u := s.rasterTick) (onlyChanges_trans (onlyChanges_fetch s s.rasterTick.fetch)
      (onlyChanges_clock _ s.timeBase (s.freeCount + 1))) rfl (by decide)
  case headReady c =>
    exact hframe (parts := channelParts) (onlyChanges_channel s { s.channel with enabled := s.channel.enabled.set c true }) rfl (by decide)
  case masked link entries mask _ _ =>
    exact hframe (u := s.setMask link mask) (parts := linkParts) (onlyChanges_links s _) rfl (by decide)
  case windows w _ _ _ =>
    exact hframe (onlyChanges_orderTable s w s.orderTable.remakeLimit) rfl (by decide)
  case remakeLimit n _ =>
    exact hframe (onlyChanges_orderTable s s.orderTable.windows n) rfl (by decide)
  case webSet =>
    exact hframe (onlyChanges_webSet s _ _ _ _) rfl (by decide)
  case densitySet =>
    exact hframe (onlyChanges_densitySet s _ _ _ _ _ _) rfl (by decide)
  case freeValues n =>
    exact hframe (onlyChanges_clock s s.timeBase n) rfl (by decide)
  case tick =>
    exact hframe (onlyChanges_clock s (s.timeBase + 1) s.freeCount) rfl (by decide)

end

/-- Settles O6. -/
theorem everyStepKeepsClassLists : Obligations.EveryStepKeepsClassLists := by
  intro s t hs hstep
  have hkept := step_keeps (P := fun s => ListsAgree s ∧ PoolAndGross s) (fun _ _ _ _ h => h) (fun s u hs hu => ?_) hs hstep
  · exact hkept.1
  · obtain ⟨hpool, -, hlists, -⟩ := keeps_of_change hu
    exact ⟨hlists hs.2 hs.1, hpool hs.2⟩

/-- Settles O5: the account of every item is kept by each change of an item record, and the copies of the map are counted
through every change of the map. -/
theorem everyStepKeepsCopyAccounts : Obligations.EveryStepKeepsCopyAccounts := by
  refine ⟨fun _ _ => step_keeps (P := AccountsHold) (fun _ _ _ _ h => h) fun _ _ hs hu => accountsHold_of_change hu hs,
    fun s t hs hstep => ?_⟩
  have hkept := step_keeps (P := fun s => CopiesCounted s ∧ ListsAgree s ∧ PoolAndGross s) (fun _ _ _ _ h => h)
    (fun s u hs hu => ?_) hs hstep
  · exact hkept.1
  · obtain ⟨hcounted, hl, hp⟩ := hs
    obtain ⟨hpool, -, hlists, hcounts, -⟩ := keeps_of_change hu
    exact ⟨(copiesCounted_iff u).2 (hcounts hp hl ((copiesCounted_iff s).1 hcounted)), hlists hp hl, hpool hp⟩

/-- Settles O9. -/
theorem everyStepKeepsBins : Obligations.EveryStepKeepsBins := by
  refine ⟨fun _ _ => step_keeps (P := BinsOk) (fun _ _ _ _ h => h) fun _ _ hs hu => binsOk_of_change hu hs,
    fun s t hs hstep => ?_⟩
  have hkept := step_keeps (P := fun s => BinsAgree s ∧ BinsOk s ∧ ListsAgree s ∧ PoolAndGross s ∧ CopiesCounted s)
    (fun _ _ _ _ h => h) (fun s u hs hu => ?_) hs hstep
  · exact hkept.1
  · obtain ⟨hagree, hok, hl, hp, hcounted⟩ := hs
    have hcounted := (copiesCounted_iff s).1 hcounted
    obtain ⟨hpool, hoks, hlists, hcounts, hbins⟩ := keeps_of_change hu
    exact ⟨hbins hp hok hl hcounted hagree, hoks hok, hlists hp hl, hpool hp, (copiesCounted_iff u).2 (hcounts hp hl hcounted)⟩

end Sys2Proof.Registry

/-! Settings, heads, the transport, the stall monitor, timers and the density reset: O34, O46, O47, O25 and O53. -/

namespace Sys2Proof.Controls

open Sys2Proof.Machine Sys2Proof.Laws Sys2Proof.OrdersAndItems Sys2Proof.Magazines Sys2Proof.Sorting Sys2Proof.Till
open Sys2Proof.Steps Sys2Proof.WebMap Sys2Proof.Registry Sys2Proof.Pool Sys2Proof.Resets

/-! ## What noting the causes of an attempt leaves unchanged -/

/-- What a command left unchanged is unchanged once the causes of an attempt are noted, but for the cause itself where a
condition of R35 has changed. -/
theorem onlyChanges_noted {parts : List Machine.Part} {s t : State} (h : OnlyChanges parts s t)
    (hc : Machine.Part.attemptCause ∈ parts ∨ (t.startConditions = s.startConditions ∧ t.patchDue = s.patchDue
      ∧ t.scheduler.endReserve = s.scheduler.endReserve)) : OnlyChanges parts s (s.noteCauses t) := by
  intro p hpart
  have hsame := h p hpart
  cases p
  case attemptCause =>
    rcases hc with hc | ⟨hstart, hdue, hreserve⟩
    · exact absurd hc hpart
    · show _ = _
      rw [attemptCause_noteCauses, hstart, hdue, hreserve]
      simpa [Same] using hsame
  all_goals exact hsame

theorem classList_noteCauses (s t : State) (c : OrderClass) :
    (s.noteCauses t).scheduler.classList c = t.scheduler.classList c := by cases c <;> rfl

/-! ## Settings (R28, R29, R49, R53, R71, R91, R108, R119, R149) -/

/-- A request that took its fields answers CLAMPED where one of them was clamped. -/
theorem status_taken {clamped : Bool} {within : Prop} [Decidable within] (h : clamped = true ↔ ¬ within) (fields : List Byte) :
    (Reply.taken clamped fields).status = if within then .ok else .clamped := by
  unfold Reply.taken
  by_cases hw : within
  · rw [if_pos hw, if_neg fun hc => h.1 hc hw]
  · rw [if_neg hw, if_pos (h.2 hw)]

theorem clampNat_ne_iff {lo hi n : Nat} (h : lo ≤ hi) : (clampNat lo hi n != n) = true ↔ ¬ (lo ≤ n ∧ n ≤ hi) := by
  rw [bne_iff_ne, ne_eq, clampNat_eq_self_iff h]

theorem min_ne_iff {hi n : Nat} : (min hi n != n) = true ↔ ¬ n ≤ hi := by
  rw [bne_iff_ne]
  omega

theorem onlyChanges_windows (s : State) (w : Windows) :
    OnlyChanges [.windows] s { s with orderTable := { s.orderTable with windows := w } } := by
  intro p hp
  cases p <;> simp_all [Same, State.port]

theorem onlyChanges_remakeLimit (s : State) (n : Nat) :
    OnlyChanges [.remakeLimit] s { s with orderTable := { s.orderTable with remakeLimit := n } } := by
  intro p hp
  cases p <;> simp_all [Same, State.port]

theorem onlyChanges_uncollectedTimeSet (s : State) (minutes : Nat) :
    OnlyChanges [.bins, .uncollectedTime] s (uncollectedTimeSet s minutes) := by
  intro p hp
  cases p <;> simp_all [Same, State.port, uncollectedTimeSet]

/-- R149: the bins after SET UNCOLLECTED TIME. -/
theorem bin_uncollectedTimeSet (s : State) (minutes : Nat) {n : Nat} {b : Bin} (hb : Table.get? s.sort.bins n = some b) :
    Table.get? (uncollectedTimeSet s minutes).sort.bins n = some (if minutes = 0 then { b with timer := none } else b) := by
  have hrecast : Recast (fun b c => c = if minutes = 0 then { b with timer := none } else b) s.sort.bins
      (uncollectedTimeSet s minutes).sort.bins := by
    by_cases hzero : minutes = 0
    · subst hzero
      exact ⟨fun _ b => { b with timer := none }, rfl, fun _ _ => rfl⟩
    · have hbins : (uncollectedTimeSet s minutes).sort.bins = s.sort.bins := by simp [uncollectedTimeSet, hzero]
      rw [hbins]
      exact .refl (fun b => (if_neg hzero).symm) _
  rcases hrecast.get? n with ⟨hnone, -⟩ | ⟨c, d, hc, hd, hset⟩
  · simp [hb] at hnone
  · obtain rfl : b = c := Option.some.inj (hb.symm.trans hc)
    rw [hd, hset]

/-- Settles O34. -/
theorem settingsAreClampedAndStored : Obligations.SettingsAreClampedAndStored := by
  refine ⟨fun s e m b htaking => ?_, fun s n htaking => ?_, fun s m htaking => ?_, fun s p d e t htaking => ?_,
    fun s k t0 t1 t2 a q r g0 g1 g2 htaking => ?_⟩
  · obtain ⟨hexec, hreplied⟩ := answered_of_served (c := .setWindows .order e m b) rfl htaking rfl rfl rfl
    rw [status_taken (within := e.toNat ≤ 255 ∧ m.toNat ≤ 255 ∧ b.toNat ≤ 255) (by simp; omega)] at hreplied
    exact ⟨_, hexec, rfl, hreplied,
      onlyChanges_answered (onlyChanges_mono (onlyChanges_windows s _) (by decide)) (by decide) (.inr ⟨rfl, rfl, rfl⟩)⟩
  · obtain ⟨hexec, hreplied⟩ := answered_of_served (c := .setRemakeLimit .order n) rfl htaking rfl rfl rfl
    rw [status_taken (within := n.toNat ≤ 3) (by simp)] at hreplied
    exact ⟨_, hexec, rfl, hreplied,
      onlyChanges_answered (onlyChanges_mono (onlyChanges_remakeLimit s _) (by decide)) (by decide) (.inr ⟨rfl, rfl, rfl⟩)⟩
  · obtain ⟨hexec, hreplied⟩ := answered_of_served (c := .setUncollectedTime .till m) rfl htaking rfl rfl rfl
    rw [status_taken (within := m.toNat ≤ 1440) (by simp)] at hreplied
    have hzero : min 1440 m.toNat = 0 ↔ m.toNat = 0 := by omega
    exact ⟨_, hexec, rfl, hreplied, fun n b hb => (bin_uncollectedTimeSet s (min 1440 m.toNat) hb).trans (by simp only [hzero]),
      onlyChanges_answered (onlyChanges_mono (onlyChanges_uncollectedTimeSet s _) (by decide)) (by decide)
        (.inr ⟨rfl, rfl, rfl⟩)⟩
  · obtain ⟨hexec, hreplied⟩ := answered_of_served (c := .setWeb .engine p d e t)
      (t := webSet s (clampNat 1000 250000 p.toNat) (min 5000 d.toNat) e.toNat (clampNat 100 10000 t.toNat)) rfl htaking rfl rfl rfl
    rw [status_taken (within := 1000 ≤ p.toNat ∧ p.toNat ≤ 250000 ∧ d.toNat ≤ 5000 ∧ 100 ≤ t.toNat ∧ t.toNat ≤ 10000)
      ?_] at hreplied
    · refine ⟨_, hexec, rfl, rfl, rfl, rfl, fun m => by cases m <;> rfl, hreplied,
        onlyChanges_answered (onlyChanges_mono (onlyChanges_webSet s _ _ _ _) (by decide)) (by decide) (.inl (by decide))⟩
    · simp only [Bool.or_eq_true, clampNat_ne_iff (show 1000 ≤ 250000 by decide), clampNat_ne_iff (show 100 ≤ 10000 by decide),
        min_ne_iff]
      omega
  · obtain ⟨hexec, hreplied⟩ := answered_of_served (c := .setDensity .engine k t0 t1 t2 a q r g0 g1 g2) rfl htaking rfl rfl rfl
    rw [status_taken (within := k.toNat ≤ 255 ∧ t0.toNat ≤ 1023 ∧ t1.toNat ≤ 1023 ∧ t2.toNat ≤ 1023 ∧ a.toNat ≤ 15
                ∧ 1 ≤ q.toNat ∧ q.toNat ≤ 255 ∧ r.toNat ≤ 15 ∧ 256 ≤ g0.toNat ∧ g0.toNat ≤ 767 ∧ 256 ≤ g1.toNat
                ∧ g1.toNat ≤ 767 ∧ 256 ≤ g2.toNat ∧ g2.toNat ≤ 767) ?_] at hreplied
    · refine ⟨_, hexec, rfl, rfl, rfl, rfl, rfl, rfl, hreplied,
        onlyChanges_answered (onlyChanges_mono (onlyChanges_densitySet s _ _ _ _ _ _) (by decide)) (by decide) (.inl (by decide))⟩
    · simp only [Bool.or_eq_true, clampNat_ne_iff (show 1 ≤ 255 by decide), clampNat_ne_iff (show 256 ≤ 767 by decide),
        min_ne_iff]
      omega

/-! ## Heads and the transport (R89, R90, R118, R120) -/

theorem exposedMarkedSuspect_of_map {s t : State} (h : t.web.map = s.markExposedSuspect.web.map) :
    ExposedMarkedSuspect s t := by
  unfold State.markExposedSuspect at h
  refine ⟨fun hidle => ?_, fun ahead g hexposing hmap => ?_⟩
  · rw [h, hidle]
    rfl
  · rw [h, hexposing]
    dsimp only
    rw [if_pos rfl, hmap]
    simp [mapLast]

theorem get_set {α : Type} (p : PerChannel α) (c k : Fin 3) (x : α) : (p.set c x).get k = if k = c then x else p.get k := by
  fin_cases c <;> fin_cases k <;> rfl

theorem channel?_eq_none {b : Byte} (h : b.toNat > 2) : channel? b = none := by
  unfold channel?
  rw [if_neg, if_neg, if_neg] <;> rintro rfl <;> exact absurd h (by decide)

theorem channel?_eq_some {b : Byte} {c : Fin 3} (h : b.toNat = c.val) : channel? b = some c := by
  obtain rfl : b = BitVec.ofNat 8 c.val := BitVec.eq_of_toNat_eq (by rw [h, BitVec.toNat_ofNat]; omega)
  fin_cases c <;> rfl

theorem onlyChanges_headReady (s : State) (c : Fin 3) : OnlyChanges [.enables] s
    { s with channel := { s.channel with enabled := s.channel.enabled.set c true } } := by
  intro p hp
  cases p <;> simp_all [Same, State.port]

/-- R120, R128: RUN starts the monitor on a map that is not empty. -/
theorem stall_transportRun (s : State) :
    (s.web.stage = .off → s.web.map ≠ [] →
        s.transportRun.web.stage = .first (later s.timeBase s.web.stallTime) ∧ s.transportRun.web.stall = false)
      ∧ (s.web.stage ≠ .off ∨ s.web.map = [] → Same s s.transportRun .stall) := by
  unfold State.transportRun Web.startStall
  refine ⟨fun hoff hmap => ?_, fun h => ?_⟩
  · rw [if_pos ⟨hoff, hmap⟩]
    exact ⟨rfl, rfl⟩
  · rw [if_neg (by tauto)]
    exact ⟨rfl, rfl⟩

/-- Settles O46. -/
theorem headsAndTransport : Obligations.HeadsAndTransport := by
  refine ⟨fun s channel htaking => ⟨fun hbad => ?_, fun c hc => ?_⟩, fun s channel htaking => ⟨fun hbad => ?_, fun c hc => ?_⟩,
    fun s value htaking => ⟨fun hrun hstop => ?_, fun hrun => ?_, fun hstop => ?_⟩⟩
  · exact refusedWith_of_refuse rfl htaking rfl rfl (by rw [serveHeadFault, channel?_eq_none hbad])
  · obtain ⟨hexec, hreplied⟩ := answered_of_served (t := headFaulted s c) (r := .taken false [])
      (c := .headFault .engine channel) rfl htaking rfl rfl (by rw [serveHeadFault, channel?_eq_some hc]; rfl)
    exact ⟨_, hexec, fun k => get_set _ c k false, exposedMarkedSuspect_of_map rfl, hreplied,
      onlyChanges_answered (onlyChanges_mono (onlyChanges_headFaulted s c) (by decide)) (by decide) (.inl (by decide))⟩
  · exact refusedWith_of_refuse rfl htaking rfl rfl (by rw [serveHeadReady, channel?_eq_none hbad])
  · obtain ⟨hexec, hreplied⟩ := answered_of_served
      (t := { s with channel := { s.channel with enabled := s.channel.enabled.set c true } }) (r := .taken false [])
      (c := .headReady .engine channel) rfl htaking rfl rfl (by rw [serveHeadReady, channel?_eq_some hc])
    exact ⟨_, hexec, fun k => get_set _ c k true, hreplied,
      onlyChanges_answered (onlyChanges_mono (onlyChanges_headReady s c) (by decide)) (by decide) (.inl (by decide))⟩
  · exact refusedWith_of_refuse rfl htaking rfl rfl (by rw [serveTransport, Transport.ofByte?, if_neg hrun, if_neg hstop])
  · subst hrun
    obtain ⟨hexec, hreplied⟩ := answered_of_served (t := s.transportRun) (r := .taken false []) (c := .transport .engine 1#8)
      rfl htaking rfl rfl rfl
    obtain ⟨hstarts, hkeeps⟩ := stall_transportRun s
    exact ⟨_, hexec, rfl, hstarts, hkeeps, hreplied,
      onlyChanges_answered (onlyChanges_mono (onlyChanges_transportRun s) (by decide)) (by decide) (.inl (by decide))⟩
  · subst hstop
    obtain ⟨hexec, hreplied⟩ := answered_of_served (t := s.transportStop) (r := .taken false []) (c := .transport .engine 2#8)
      rfl htaking rfl rfl rfl
    exact ⟨_, hexec, rfl, rfl, rfl, exposedMarkedSuspect_of_map rfl, hreplied,
      onlyChanges_answered (onlyChanges_mono (onlyChanges_transportStop s) (by decide)) (by decide) (.inl (by decide))⟩

/-! ## The stall monitor (R129, R130) -/

theorem reached_iff (now t : Word32) : reached now t = true ↔ 0 ≤ signedDiff now t := decide_eq_true_iff

theorem stall_stallSecond (s : State) : s.stallSecond.web.stage = .expired ∧ s.stallSecond.web.stall = s.web.stall := by
  unfold State.stallSecond State.raiseWebFault
  dsimp only
  split <;> exact ⟨rfl, rfl⟩

theorem stallSecond_of_fault {s : State} (h : s.web.fault.isSome = true) : OnlyChanges [.stall] s s.stallSecond := by
  unfold State.stallSecond State.raiseWebFault
  rw [if_pos h]
  intro p hp
  cases p <;> simp_all [Same, State.port]

/-- R131: WEB FAULT flushes and spoils. -/
theorem raiseWebFault_flushes {s : State} (cause : WebFaultCause) (h : s.web.fault = none) :
    (s.raiseWebFault cause).web.fault = some cause
      ∧ (s.raiseWebFault cause).web.map =
          (mapLast (fun g => if g.kind = .blank then g else { g with closed := true }) s.web.map).map
            (fun g => { g with spoiled := true })
      ∧ WorkEnded (s.raiseWebFault cause) ∧ (s.raiseWebFault cause).scheduler.selection = none
      ∧ (s.raiseWebFault cause).channel.queue = [] ∧ (s.raiseWebFault cause).channel.exposure = none
      ∧ (s.raiseWebFault cause).scheduler.leaderPending = false := by
  unfold State.raiseWebFault
  rw [h]
  exact ⟨rfl, rfl, ⟨rfl, rfl, rfl, rfl, rfl⟩, rfl, rfl, rfl, rfl⟩

/-- Settles O47. -/
theorem stallStagesExpire : Obligations.StallStagesExpire := by
  intro s e
  refine ⟨fun hstage htime => ?_, fun hstage htime => ?_, fun hearly => ⟨fun hstage => ?_, fun hstage => ?_⟩⟩
  · refine ⟨s.noteCauses s.stallFirst, ?_, rfl, rfl, exposedMarkedSuspect_of_map rfl,
      onlyChanges_noted (onlyChanges_mono (onlyChanges_stallFirst s) (by decide)) (.inl (by decide))⟩
    show execStallFirstExpiry s = _
    unfold execStallFirstExpiry
    rw [hstage]
    dsimp only
    rw [if_pos ((reached_iff _ _).2 htime)]
  · obtain ⟨hexpired, hstall⟩ := stall_stallSecond s
    refine ⟨s.noteCauses s.stallSecond, ?_, hexpired, hstall, fun hfault => ?_, fun hfault => ?_,
      onlyChanges_noted (onlyChanges_mono (onlyChanges_stallSecond s) (by decide)) (.inl (by decide))⟩
    · show execStallSecondExpiry s = _
      unfold execStallSecondExpiry
      rw [hstage]
      dsimp only
      rw [if_pos ((reached_iff _ _).2 htime)]
    · exact onlyChanges_noted (onlyChanges_mono (stallSecond_of_fault hfault) (by decide)) (.inl (by decide))
    · exact raiseWebFault_flushes .stall hfault
  · show execStallFirstExpiry s = _
    unfold execStallFirstExpiry
    rw [hstage]
    dsimp only
    rw [if_neg fun h => by rw [reached_iff] at h; omega]
  · show execStallSecondExpiry s = _
    unfold execStallSecondExpiry
    rw [hstage]
    dsimp only
    rw [if_neg fun h => by rw [reached_iff] at h; omega]

/-! ## Timers and the time base (R8, R77, R148, R198, R205) -/

theorem unreadableHeader_iff (code : Byte) (count : Word16) : unreadableHeader code count = true ↔ CannotBeRead code count := by
  unfold unreadableHeader CannotBeRead
  simp

/-- R205: where nothing is to be sent, the reply frame read leaves the link idle and nothing else changed. -/
theorem served_of_nothingToSend {s : State} (h : NothingToSend s) :
    s.served = { s with fetch := { s.fetch with link := { phase := .idle, ready := false } } } := by
  unfold State.served RasterFetch.served
  rcases h with h | ⟨h, hwait⟩
  · rw [h]
  · rw [h]
    have hnone : s.fetch.waiting? = none := (waiting?_eq_none_iff s.fetch).2 hwait
    simp [RasterFetch.sendWaiting, hnone]

/-- Settles O25. -/
theorem timersExpireAndTimeAdvances : Obligations.TimersExpireAndTimeAdvances := by
  refine ⟨fun s slot o e ho he => ⟨fun hrunning htime => ?_, fun hnot => ?_⟩,
    fun s k b e hb hwaiting he => ⟨fun htime => ?_, fun hearly => ?_⟩, fun s => ?_,
    fun s code count => ⟨fun hbad hidle => ?_, fun hgood => ?_⟩⟩
  · refine ⟨s.noteCauses (s.expireWindow slot), ?_, ?_, fun c => ?_, fun k hk => ?_, ?_⟩
    · show execWindowExpiry slot s = _
      unfold execWindowExpiry
      rw [ho]
      dsimp only
      rw [he]
      dsimp only
      rw [hrunning, (reached_iff _ _).2 htime]
      rfl
    · show (s.expireWindow slot).order? slot = _
      rw [expireWindow_eq ho, order?_enlistedIf, order?_modifyOrder, if_pos rfl, ho]
      rfl
    · rw [classList_noteCauses, expireWindow_eq ho]
      exact appended_enlistedIf (o.state = .ready) (f := fun o => { o with windowEnded := true }) ho rfl c
    · show (s.expireWindow slot).order? k = _
      rw [expireWindow_eq ho, order?_enlistedIf, order?_modifyOrder, if_neg hk]
    · refine onlyChanges_noted ?_ (.inl (by decide))
      exact onlyChanges_mono (onlyChanges_expireWindow s slot) (by decide)
  · show execWindowExpiry slot s = _
    unfold execWindowExpiry
    rw [ho]
    dsimp only
    rw [he]
    dsimp only
    rw [if_neg]
    intro h
    simp only [Bool.and_eq_true, reached_iff, Bool.not_eq_true'] at h
    obtain ⟨htime, hrunning⟩ := h
    rcases hnot with hended | hearly
    · simp [hrunning] at hended
    · omega
  · refine ⟨s.noteCauses (binChanged s (k.val + 1) Bin.expire), ?_, bin_binChanged hb Bin.expire,
      otherBinsSame_binChanged s (k.val + 1) Bin.expire, onlyChanges_noted (onlyChanges_binChanged s _ _) (.inr ⟨rfl, rfl, rfl⟩)⟩
    show execUncollectedExpiry k s = _
    unfold execUncollectedExpiry
    rw [hb]
    dsimp only
    rw [he]
    dsimp only
    rw [if_pos (by simp [(reached_iff _ _).2 htime, hwaiting])]
    rfl
  · show execUncollectedExpiry k s = _
    unfold execUncollectedExpiry
    rw [hb]
    dsimp only
    rw [he]
    dsimp only
    rw [if_neg]
    intro h
    simp only [Bool.and_eq_true, reached_iff] at h
    omega
  · refine ⟨_, rfl, rfl, ?_⟩
    intro p hp
    cases p <;> simp_all [Same, State.port]
  · refine ⟨s.noteCauses s.served, ?_, ?_, onlyChanges_noted ?_ (.inr ?_)⟩
    · show execRasterFrameUnreadable code count s = _
      unfold execRasterFrameUnreadable
      rw [if_pos ((unreadableHeader_iff _ _).2 hbad)]
    · unfold LinkReleased
      rw [noteCauses_fetch, served_of_nothingToSend hidle]
    · rw [served_of_nothingToSend hidle]
      intro p hp
      cases p <;> simp_all [Same, State.port]
    · rw [served_of_nothingToSend hidle]
      exact ⟨rfl, rfl, rfl⟩
  · show execRasterFrameUnreadable code count s = _
    unfold execRasterFrameUnreadable
    rw [if_neg fun h => hgood ((unreadableHeader_iff _ _).1 h)]

/-! ## DENSITY RESET (R103) -/

/-- The parts a voided standing selection is about (R43). -/
def selectionParts : List Machine.Part := [.selection, .lineQueue, .work, .rows, .fetch]

/-- What becomes of a standing selection is told by the selection, its lines, its work and its fetch alone. -/
theorem voidedIf_of_same {parts parts' : List Machine.Part} {voids : Prop} [Decidable voids] {s s' t t' : State}
    (hs : OnlyChanges parts s s') (ht : OnlyChanges parts' t t') (hparts : ∀ p ∈ selectionParts, p ∉ parts)
    (hparts' : ∀ p ∈ selectionParts, p ∉ parts') (h : VoidedIf voids s' t) : VoidedIf voids s t' := by
  simp only [selectionParts, List.forall_mem_cons] at hparts hparts'
  obtain ⟨h1, h2, h3, h4, h5, -⟩ := hparts
  obtain ⟨h1', h2', h3', h4', h5', -⟩ := hparts'
  have hsel : s'.scheduler.selection = s.scheduler.selection := hs _ h1
  have hqueue : s'.channel.queue = s.channel.queue := hs _ h2
  have hwork : s'.resampler.work = s.resampler.work := hs _ h3
  obtain ⟨hrowA, hrowB⟩ : Same s s' .rows := hs _ h4
  obtain ⟨hflight, htimer⟩ : Same s s' .fetch := hs _ h5
  have hsel' : t'.scheduler.selection = t.scheduler.selection := ht _ h1'
  have hqueue' : t'.channel.queue = t.channel.queue := ht _ h2'
  have hwork' : t'.resampler.work = t.resampler.work := ht _ h3'
  obtain ⟨hrowA', hrowB'⟩ : Same t t' .rows := ht _ h4'
  obtain ⟨hflight', htimer'⟩ : Same t t' .fetch := ht _ h5'
  simpa only [VoidedIf, WorkEnded, WorkSame, Same, Resampler.worksForSelection, hsel, hqueue, hwork, hrowA, hrowB, hflight,
    htimer, hsel', hqueue', hwork', hrowA', hrowB', hflight', htimer'] using h

theorem voidedIf_voidSelection (s : State) : VoidedIf True s s.voidSelection := by
  unfold VoidedIf State.voidSelection
  by_cases hstands : s.scheduler.selection.isSome = true
  · rw [if_pos ⟨trivial, hstands⟩, if_pos hstands]
    refine ⟨rfl, rfl, ?_⟩
    split
    · next hworks => simp [WorkEnded, hworks, Resampler.idle, RasterFetch.abandon]
    · next hworks => simp [WorkSame, Same, hworks]
  · rw [if_neg fun h => hstands h.2, if_neg hstands]
    exact ⟨rfl, rfl, rfl, ⟨rfl, rfl⟩, rfl, rfl⟩

/-- Settles O53. -/
theorem densityResetStartsAfresh : Obligations.DensityResetStartsAfresh := by
  intro s htaking
  obtain ⟨hexec, hreplied⟩ := answered_of_served (t := (densityCleared s).voidSelection) (r := .taken false [])
    (c := .densityReset .engine) rfl htaking rfl rfl rfl
  have hcleared : ∀ c, (densityCleared s).density.offsets.get c = 0 := fun c => by fin_cases c <;> rfl
  have hframe := onlyChanges_trans (onlyChanges_densityCleared s) (onlyChanges_voidSelection (densityCleared s))
  refine ⟨_, hexec, ?_, ?_, ?_, ?_, ?_, ?_, ?_, ?_, hreplied, ?_⟩
  · simpa using hcleared
  · rw [answered_density, voidSelection_density]; rfl
  · rw [answered_density, voidSelection_density]; rfl
  · rw [answered_web, voidSelection_web]; rfl
  · rw [answered_scheduler_resetPatch, voidSelection_scheduler_resetPatch]; rfl
  · rw [answered_scheduler_switchPatch, voidSelection_scheduler_switchPatch]; rfl
  · rw [answered_scheduler_patchCounter, voidSelection_scheduler_patchCounter]; rfl
  · exact voidedIf_of_same (onlyChanges_densityCleared s) (onlyChanges_answer s _ .engine (.taken false [])) (by decide)
      (by decide) (voidedIf_voidSelection _)
  · exact onlyChanges_answered (onlyChanges_mono hframe (by decide)) (by decide) (.inl (by decide))

end Sys2Proof.Controls

/-! Orders held, withdrawn and collected: O26, O29, O30 and O31. -/

namespace Sys2Proof.Withdrawals

open Sys2Proof.Machine Sys2Proof.Laws Sys2Proof.OrdersAndItems Sys2Proof.Magazines Sys2Proof.Sorting Sys2Proof.Till
open Sys2Proof.Steps Sys2Proof.WebMap Sys2Proof.Registry Sys2Proof.Pool Sys2Proof.Controls

section
variable {s t : State} {slot : Nat} {o : Order}

/-! ## HOLD (R9, R43) -/

theorem voidedIf_voidSelectionOf (s : State) (slot : Nat) :
    VoidedIf (s.scheduler.selects slot = true) s (s.voidSelectionOf slot) := by
  unfold State.voidSelectionOf
  split
  · next h =>
    have hvoided := voidedIf_voidSelection s
    unfold VoidedIf at hvoided ⊢
    simpa only [h, true_and] using hvoided
  · next h => exact (if_neg fun hv => h hv.1).mpr ⟨rfl, rfl, rfl, ⟨rfl, rfl⟩, rfl, rfl⟩

theorem onlyChanges_listLeft (s : State) (slot : Nat) (f : Order → Order) :
    OnlyChanges [.orders, .classLists, .attemptCause] s ((s.modifyOrder slot f).delist slot) := by
  intro p hp
  cases p <;> simp_all [Same, State.port]

/-- Settles O26. -/
theorem holdLeavesListAndVoids : Obligations.HoldLeavesListAndVoids := by
  intro s ticket slot o htaking hnames
  have ho := order?_of_names hnames
  refine ⟨fun hready hprint => ?_, fun hstate => ?_⟩
  · refine refusedWith_of_refuse rfl htaking rfl rfl ?_
    rw [serveHold, withOrder_of_names hnames, if_pos ⟨hready, hprint⟩]
  · obtain ⟨hexec, hreplied⟩ := answered_of_served (t := heldAt s slot) (r := .taken false [4]) (c := .hold .order ticket) rfl
      htaking rfl rfl (by
        rw [serveHold, withOrder_of_names hnames, if_neg (by tauto)]
        rfl)
    have hleft := onlyChanges_listLeft s slot fun o => { o with state := .held }
    refine ⟨_, hexec, ?_, fun c => ?_, ?_, hreplied, fun k hk => ?_, ?_⟩
    · rw [order?_answered, order?_heldAt, if_pos rfl, ho]
      rfl
    · rw [classList_answered]
      exact removed_heldAt ho c
    · have hsame : s.scheduler.selects slot =
          ((s.modifyOrder slot fun o => { o with state := .held }).delist slot).scheduler.selects slot := by
        unfold Scheduler.selects
        rw [delist_scheduler_selection]
        rfl
      simp only [hsame]
      exact voidedIf_of_same hleft (onlyChanges_answer s _ .order (.taken false [4])) (by decide) (by decide)
        (voidedIf_voidSelectionOf _ slot)
    · rw [order?_answered, order?_heldAt, if_neg hk]
    · exact onlyChanges_answered (onlyChanges_mono (onlyChanges_trans hleft (onlyChanges_voidSelectionOf _ slot)) (by decide))
        (by decide) (.inl (by decide))

/-! ## What a withdrawal does to the exposure of its order (R19, R43, R68, R85, R88) -/

theorem queue_voidSelectionOf (s : State) (slot : Nat) : (s.voidSelectionOf slot).channel.queue =
    s.channel.queue.filter fun l => !(s.scheduler.selects slot && l.owner == .selection) := by
  unfold State.voidSelectionOf
  split
  · next h =>
    have hstands : s.scheduler.selection.isSome = true := by
      unfold Scheduler.selects at h
      split at h
      · next hsel => rw [hsel]; rfl
      · cases h
    unfold State.voidSelection
    rw [if_pos hstands, h]
    rfl
  · next h => simp [h]

theorem work_voidSelectionOf (s : State) (slot : Nat) :
    if s.scheduler.selects slot = true ∧ s.resampler.worksForSelection = true then WorkEnded (s.voidSelectionOf slot)
    else WorkSame s (s.voidSelectionOf slot) := by
  have hsame : WorkSame s s := ⟨rfl, ⟨rfl, rfl⟩, rfl, rfl⟩
  unfold State.voidSelectionOf
  by_cases hsel : s.scheduler.selects slot = true
  · rw [if_pos hsel]
    have hvoided := voidedIf_voidSelection s
    unfold VoidedIf at hvoided
    have hstands : s.scheduler.selection.isSome = true := by
      unfold Scheduler.selects at hsel
      split at hsel
      · next hprint => rw [hprint]; rfl
      · cases hsel
    rw [if_pos ⟨trivial, hstands⟩] at hvoided
    obtain ⟨-, -, hwork⟩ := hvoided
    simpa only [hsel, true_and] using hwork
  · rw [if_neg hsel, if_neg fun h => hsel h.1]
    exact hsame

/-- A work of an order's print that has begun exposure. -/
def BegunWork (s : State) (slot : Nat) : Prop :=
  ∃ w, s.resampler.work = some w ∧ w.owner ≠ .selection ∧ w.slot? = some slot

theorem work_abortBegunWorkOf (s : State) (slot : Nat) :
    (BegunWork s slot → WorkEnded (s.abortBegunWorkOf slot))
      ∧ (¬ BegunWork s slot → s.abortBegunWorkOf slot = s) := by
  unfold State.abortBegunWorkOf BegunWork
  split
  · next w hw =>
    split
    · next h => exact ⟨fun _ => ⟨rfl, rfl, rfl, rfl, rfl⟩, fun hnot => absurd ⟨w, hw, h⟩ hnot⟩
    · next h =>
      refine ⟨fun ⟨v, hv, hbegun⟩ => absurd ?_ h, fun _ => rfl⟩
      obtain rfl : w = v := Option.some.inj (hw.symm.trans hv)
      exact hbegun
  · next hw => exact ⟨fun ⟨v, hv, _⟩ => by simp [hw] at hv, fun _ => rfl⟩

theorem queue_blankOf (s : State) (slot : Nat) : (s.blankOf slot).channel.queue =
    s.channel.queue.filter fun l => !(s.exposing && s.web.exposedSlot? == some slot && l.owner == .exposed) := by
  unfold State.blankOf
  dsimp only
  split
  · next h => simp [h, ChannelOutput.blank, ChannelOutput.drop, bne]
  · next h => simp [h]

theorem exposure_blankOf (s : State) (slot : Nat) : (s.blankOf slot).channel.exposure =
    if s.web.exposedSlot? = some slot then s.channel.exposure.map (fun e => { e with blanked := true })
    else s.channel.exposure := by
  unfold State.blankOf State.exposing
  dsimp only
  cases he : s.channel.exposure <;> by_cases hslot : s.web.exposedSlot? = some slot <;>
    simp [he, hslot, ChannelOutput.blank, ChannelOutput.drop]

/-- The selection, the work and the lines of an order stopped. -/
def exposureStopped (s : State) (slot : Nat) : State :=
  ((s.voidSelectionOf slot).abortBegunWorkOf slot).blankOf slot

theorem withdrawalStops_exposureStopped (s : State) (slot : Nat) :
    WithdrawalStopsExposure slot s (exposureStopped s slot) := by
  have hchannel : ((s.voidSelectionOf slot).abortBegunWorkOf slot).channel = (s.voidSelectionOf slot).channel := by simp
  have hexposing : ((s.voidSelectionOf slot).abortBegunWorkOf slot).exposing = s.exposing := by
    unfold State.exposing
    rw [hchannel]
    simp
  have hweb : ((s.voidSelectionOf slot).abortBegunWorkOf slot).web = s.web := by simp
  refine ⟨?_, ?_, ?_, ?_⟩
  · unfold exposureStopped
    rw [blankOf_scheduler, abortBegunWorkOf_scheduler, selection_voidSelectionOf]
  · have hblank (u : State) : WorkSame u (u.blankOf slot) := ⟨rfl, ⟨rfl, rfl⟩, rfl, rfl⟩
    have hvoid := work_voidSelectionOf s slot
    obtain ⟨haborts, hkeeps⟩ := work_abortBegunWorkOf (s.voidSelectionOf slot) slot
    by_cases hsel : s.scheduler.selects slot = true ∧ s.resampler.worksForSelection = true
    · rw [if_pos hsel] at hvoid
      rw [if_pos (.inl hsel)]
      have hnone : ¬ BegunWork (s.voidSelectionOf slot) slot := fun ⟨w, hw, _⟩ => by
        obtain ⟨hidle, -⟩ := hvoid
        simp [hidle] at hw
      unfold exposureStopped
      rw [hkeeps hnone]
      exact hvoid
    · rw [if_neg hsel] at hvoid
      have hsame : BegunWork (s.voidSelectionOf slot) slot ↔ BegunWork s slot := by
        obtain ⟨hwork, -⟩ := hvoid
        unfold BegunWork
        rw [show (s.voidSelectionOf slot).resampler.work = s.resampler.work from hwork]
      by_cases hbegun : BegunWork s slot
      · rw [if_pos (.inr hbegun)]
        exact haborts (hsame.2 hbegun)
      · rw [if_neg (by rintro (h | h); exacts [hsel h, hbegun h])]
        unfold exposureStopped
        rw [hkeeps fun h => hbegun (hsame.1 h)]
        exact hvoid
  · unfold exposureStopped
    rw [queue_blankOf, hexposing, hweb, hchannel, queue_voidSelectionOf, List.filter_filter]
    refine List.filter_congr fun l _ => Bool.and_comm _ _
  · unfold exposureStopped
    rw [exposure_blankOf, hweb, hchannel]
    simp

/-! ## Withdrawals (R19, R21, R23) -/

theorem withdrawalStops_of_same {parts parts' : List Machine.Part} {s' t' : State} (hs : OnlyChanges parts s s')
    (ht : OnlyChanges parts' t t') (hparts : ∀ p ∈ Machine.Part.map :: .exposure :: selectionParts, p ∉ parts)
    (hparts' : ∀ p ∈ Machine.Part.exposure :: selectionParts, p ∉ parts') (h : WithdrawalStopsExposure slot s' t) :
    WithdrawalStopsExposure slot s t' := by
  simp only [selectionParts, List.forall_mem_cons] at hparts hparts'
  obtain ⟨hm, he, h1, h2, h3, h4, h5, -⟩ := hparts
  obtain ⟨he', h1', h2', h3', h4', h5', -⟩ := hparts'
  have hmap : s'.web.map = s.web.map := hs _ hm
  have hexposure : s'.channel.exposure = s.channel.exposure := hs _ he
  have hsel : s'.scheduler.selection = s.scheduler.selection := hs _ h1
  have hqueue : s'.channel.queue = s.channel.queue := hs _ h2
  have hwork : s'.resampler.work = s.resampler.work := hs _ h3
  obtain ⟨hrowA, hrowB⟩ : Same s s' .rows := hs _ h4
  obtain ⟨hflight, htimer⟩ : Same s s' .fetch := hs _ h5
  have hexposure' : t'.channel.exposure = t.channel.exposure := ht _ he'
  have hsel' : t'.scheduler.selection = t.scheduler.selection := ht _ h1'
  have hqueue' : t'.channel.queue = t.channel.queue := ht _ h2'
  have hwork' : t'.resampler.work = t.resampler.work := ht _ h3'
  obtain ⟨hrowA', hrowB'⟩ : Same t t' .rows := ht _ h4'
  obtain ⟨hflight', htimer'⟩ : Same t t' .fetch := ht _ h5'
  have hselects : s'.scheduler.selects slot = s.scheduler.selects slot := by unfold Scheduler.selects; rw [hsel]
  have hworks : s'.resampler.worksForSelection = s.resampler.worksForSelection := by
    unfold Resampler.worksForSelection; rw [hwork]
  have hexposing : s'.exposing = s.exposing := by unfold State.exposing; rw [hexposure]
  have hexposed : s'.web.exposedSlot? = s.web.exposedSlot? := by unfold Web.exposedSlot?; rw [hmap]
  have hbegun : BegunWork s' slot ↔ BegunWork s slot := by unfold BegunWork; rw [hwork]
  have hended : WorkEnded t → WorkEnded t' := by
    simp only [WorkEnded, hwork', hrowA', hrowB', hflight', htimer']
    exact id
  have hkept : WorkSame s' t → WorkSame s t' := by
    simp only [WorkSame, Same, hwork, hrowA, hrowB, hflight, htimer, hwork', hrowA', hrowB', hflight', htimer']
    exact id
  obtain ⟨hselection, hworked, hlines, hblanked⟩ := h
  refine ⟨by rw [hsel', hselection, hselects, hsel], ?_, by rw [hqueue', hlines, hselects, hexposing, hexposed, hqueue],
    by rw [hexposure', hblanked, hexposed, hexposure]⟩
  split at hworked
  · next hcase =>
    rw [hselects, hworks] at hcase
    exact (if_pos (hcase.imp_right hbegun.1)).mpr (hended hworked)
  · next hcase =>
    rw [hselects, hworks] at hcase
    exact (if_neg fun h => hcase (h.imp_right hbegun.2)).mpr (hkept hworked)

theorem withdrawalStops_withdrawalDone (s : State) (slot : Nat) (q : Requester) (partially : Bool) :
    WithdrawalStopsExposure slot s (withdrawalDone s slot q partially) := by
  refine withdrawalStops_of_same (parts := [.orders, .items, .classLists, .attemptCause]) (parts' := [.orders, .bins])
    (s' := (withdrawalBegun s slot q partially).delist slot) ?_ (onlyChanges_releaseBins _ slot) (by decide) (by decide)
    (withdrawalStops_exposureStopped _ slot)
  intro p hp
  cases p <;> simp_all [Same, State.port, withdrawalBegun, OrderTable.modifyItems]

theorem binsReleased_of_modifyAll {bins : List Nat} (h : t.sort.bins = Table.modifyAll s.sort.bins bins Bin.release) :
    BinsReleased bins s t := by
  refine ⟨fun n hn b hb => ?_, fun n hn => ?_⟩
  · rw [h, get?_modifyAll, if_pos hn, hb]
    rfl
  · rw [h, get?_modifyAll, if_neg hn]

theorem waitingWrittenOff_withdrawalDone (q : Requester) (partially : Bool) (ho : s.order? slot = some o) :
    WaitingWrittenOff o s (withdrawalDone s slot q partially) := by
  refine ⟨fun r hr i hi => ?_, fun r hr => ?_⟩
  · rw [items_withdrawalDone q partially ho, get?_modifyAll, if_pos hr, hi]
    rfl
  · rw [items_withdrawalDone q partially ho, get?_modifyAll, if_neg hr]

/-- R21: a withdrawn order is drained where none of its copies was on the web. -/
theorem drained_withdrawalDone (q : Requester) (partially : Bool) (ho : s.order? slot = some o) :
    (withdrawalDone s slot q partially).orderTable.drained slot = (s.orderTable.itemsOf slot).all fun i => i.onWeb == 0 := by
  have horder : Table.get? (withdrawalDone s slot q partially).orderTable.orders slot = some (Withdrawn o q partially false) :=
    (order?_withdrawalDone s slot q partially slot).trans (by rw [if_pos rfl, ho]; rfl)
  have hwas : Table.get? s.orderTable.orders slot = some o := ho
  have hitems : (withdrawalDone s slot q partially).orderTable.itemsOf slot =
      (s.orderTable.itemsOf slot).map Item.writeOffWaiting := by
    unfold OrderTable.itemsOf
    rw [horder, hwas]
    dsimp only
    rw [List.map_filterMap, items_withdrawalDone q partially ho]
    refine List.filterMap_congr fun r hr => ?_
    rw [get?_modifyAll]
    exact if_pos hr
  unfold OrderTable.drained
  rw [hitems, List.all_map]
  rfl

/-- R21, R24: what the draining check does to a withdrawn order. -/
theorem withdraw_of_order (q : Requester) (partially : Bool) (ho : s.order? slot = some o) :
    s.withdraw slot q partially =
      if (s.orderTable.itemsOf slot).all (fun i => i.onWeb == 0) = true then
        (withdrawalDone s slot q partially).drainOrder slot (Withdrawn o q partially false)
      else withdrawalDone s slot q partially := by
  have horder : (withdrawalDone s slot q partially).order? slot = some (Withdrawn o q partially false) := by
    rw [order?_withdrawalDone, if_pos rfl, ho]
    rfl
  rw [withdraw_eq, accountCheck_of_order horder]
  rw [if_neg (by simp [completes, Withdrawn])]
  simp only [drains, drained_withdrawalDone q partially ho]
  simp [Withdrawn]

/-- R21: the notice is raised where CANCEL finds nothing on the web. -/
theorem withdraw_of_requester {q : Requester} (hq : q ≠ .nobody) (ho : s.order? slot = some o) :
    s.withdraw slot q false =
      if (s.orderTable.itemsOf slot).all (fun i => i.onWeb == 0) = true then
        (withdrawalDone s slot q false).modifyOrder slot fun o => { o with cancelNotice := true }
      else withdrawalDone s slot q false := by
  rw [withdraw_of_order q false ho]
  unfold State.drainOrder
  rw [if_pos (show (Withdrawn o q false false).requester ≠ .nobody from hq)]

/-- The draining check of CANCEL touches the order record alone. -/
theorem onlyChanges_drained_of_requester {q : Requester} (hq : q ≠ .nobody) (ho : s.order? slot = some o) :
    OnlyChanges [.orders] (withdrawalDone s slot q false) (s.withdraw slot q false) := by
  rw [withdraw_of_requester hq ho]
  split
  · exact onlyChanges_modifyOrder _ slot _
  · exact onlyChanges_refl _ _

/-- R21, R24: the record is freed where COLLECT PARTIAL finds nothing on the web. -/
theorem withdraw_of_collection (ho : s.order? slot = some o) :
    s.withdraw slot .nobody true =
      if (s.orderTable.itemsOf slot).all (fun i => i.onWeb == 0) = true then
        (withdrawalDone s slot .nobody true).freeRecord slot
      else withdrawalDone s slot .nobody true := by
  rw [withdraw_of_order .nobody true ho]
  unfold State.drainOrder
  rw [if_neg (show ¬ (Withdrawn o .nobody true false).requester ≠ .nobody from fun h => h rfl),
    if_pos (show (Withdrawn o .nobody true false).collectedPartial = true from Bool.or_true _)]

/-- The draining check of COLLECT PARTIAL touches the records of the order and its items alone. -/
theorem onlyChanges_drained_of_collection (ho : s.order? slot = some o) :
    OnlyChanges [.orders, .items] (withdrawalDone s slot .nobody true) (s.withdraw slot .nobody true) := by
  rw [withdraw_of_collection ho]
  split
  · exact onlyChanges_freeRecord _ slot
  · exact onlyChanges_mono (onlyChanges_refl [] _) (by decide)

/-- What a withdrawal does beside the records, told after the draining check and the answer. -/
theorem withdrawn_answered {parts : List Machine.Part} {q : Requester} {partially : Bool} {u : State} {link : Link}
    (ho : s.order? slot = some o) (hparts : ∀ p ∈ parts, p ∈ ([.orders, .items] : List Machine.Part))
    (h : OnlyChanges parts (withdrawalDone s slot q partially) u) (r : Reply) (s₀ : State) :
    RemovedFromList o.cls slot s (s₀.answered link (u, r)) ∧ WithdrawalStopsExposure slot s (s₀.answered link (u, r))
      ∧ BinsReleased o.bins s (s₀.answered link (u, r)) := by
  have hout {p : Machine.Part} (hp : p ∉ ([.orders, .items] : List Machine.Part)) : p ∉ parts := fun hin => hp (hparts p hin)
  refine ⟨fun c => ?_, ?_, binsReleased_of_modifyAll ?_⟩
  · rw [classList_answered, classList_of_same (h .classLists (hout (by decide)))]
    exact removed_withdrawalDone q partially ho c
  · have hanswered := onlyChanges_trans (onlyChanges_mono h hparts) (onlyChanges_answer s₀ u link r)
    exact withdrawalStops_of_same (parts := []) (onlyChanges_refl [] s) hanswered (by decide)
      (by cases link <;> decide) (withdrawalStops_withdrawalDone s slot q partially)
  · rw [answered_sort, show u.sort.bins = _ from h .bins (hout (by decide))]
    exact bins_withdrawalDone q partially ho

theorem order?_withdraw_of_requester {q : Requester} (hq : q ≠ .nobody) (ho : s.order? slot = some o) (k : Nat) :
    (s.withdraw slot q false).order? k = if k = slot then some (Withdrawn o q false
      ((s.orderTable.itemsOf slot).all fun i => i.onWeb == 0)) else s.order? k := by
  rw [withdraw_of_requester hq ho]
  split
  · next hall =>
    rw [order?_modifyOrder, order?_withdrawalDone, order?_withdrawalDone, if_pos rfl, ho, hall]
    split
    · simp [Withdrawn]
    · rfl
  · next hall =>
    rw [order?_withdrawalDone, ho, Bool.eq_false_iff.2 hall]
    rfl

end

theorem onlyChanges_dropAmendmentOf (s : State) (slot : Nat) :
    OnlyChanges [.amendment] s (repriced s (s.price.dropAmendmentOf slot)) := by
  intro p hp
  cases p <;> simp_all [Same, State.port, repriced, PriceUnit.dropAmendmentOf]

/-- Settles O29. -/
theorem cancelWithdraws : Obligations.CancelWithdraws := by
  intro s link ticket slot o hlink htaking hnames
  have ho := order?_of_names hnames
  have hbelongs : RequestCode.cancel.belongs link = true := by rcases hlink with rfl | rfl <;> rfl
  refine ⟨fun hstate => ?_, fun hstate => ?_⟩
  · refine refusedWith_of_refuse rfl htaking hbelongs rfl ?_
    rw [serveCancel, withOrder_of_names hnames, hstate]
  · have hq : requesterOf link = if link = .order then .orderLink else .tillLink := by rcases hlink with rfl | rfl <;> rfl
    have hsomebody : (if link = .order then Requester.orderLink else .tillLink) ≠ .nobody := by split <;> simp
    have hserve : serveCancel link ticket s =
        ((repriced s (s.price.dropAmendmentOf slot)).withdraw slot (requesterOf link) false, .taken false [2]) := by
      rw [serveCancel, withOrder_of_names hnames]
      rcases hstate with h | h | h | h <;> rw [h] <;> rfl
    obtain ⟨hexec, hreplied⟩ := answered_of_served (c := .cancel link ticket) rfl htaking hbelongs rfl hserve
    rw [hq] at hexec hreplied
    have hview := order?_withdraw_of_requester (s := repriced s (s.price.dropAmendmentOf slot)) hsomebody ho
    have hdrained := onlyChanges_drained_of_requester (s := repriced s (s.price.dropAmendmentOf slot)) hsomebody ho
    obtain ⟨hremoved, hstops, hreleased⟩ := withdrawn_answered (s := repriced s (s.price.dropAmendmentOf slot)) (link := link)
      ho (by decide) hdrained (.taken false [2]) s
    have hitems : (State.withdraw (repriced s (s.price.dropAmendmentOf slot)) slot
        (if link = .order then .orderLink else .tillLink) false).orderTable.items = _ := hdrained .items (by decide)
    refine ⟨_, hexec, ?_, ?_, hremoved, hstops, hreleased, ?_, hreplied, fun k hk => ?_, ?_⟩
    · exact (hview slot).trans (if_pos rfl)
    · have hwritten := waitingWrittenOff_withdrawalDone (s := repriced s (s.price.dropAmendmentOf slot))
        (if link = .order then .orderLink else .tillLink) false ho
      simp only [WaitingWrittenOff, OtherItemsSame, answered_orderTable, hitems]
      exact hwritten
    · rw [answered_price, withdraw_price]
      rfl
    · exact (hview k).trans (if_neg hk)
    · refine onlyChanges_answered (onlyChanges_mono (onlyChanges_trans (onlyChanges_dropAmendmentOf s slot)
        (onlyChanges_withdraw _ slot _ _)) (by simp)) (by simp) (.inl (by simp))

/-! ## Collections (R22, R23, R174, R175) -/

section
variable {s t : State} {slot : Nat} {o : Order}

theorem recordFreed_of_same {u : State} {p : Order} (hlist : p.items = o.items) (horders : OtherOrdersSame slot s u)
    (hitems : OtherItemsSame o.items s u) (h : RecordFreed slot p u t) : RecordFreed slot o s t := by
  obtain ⟨hnone, hothers, hfreed, hrest⟩ := h
  rw [hlist] at hfreed hrest
  exact ⟨hnone, fun k hk => (hothers k hk).trans (horders k hk), hfreed, fun r hr => (hrest r hr).trans (hitems r hr)⟩

/-- R22: what the collection of a COMPLETE order does to its record and its bins. -/
theorem collectWhole_frees (ho : s.order? slot = some o) (totals : PriceUnit) :
    RecordFreed slot o s (((repriced s totals).releaseBins slot).freeRecord slot)
      ∧ BinsReleased o.bins s (((repriced s totals).releaseBins slot).freeRecord slot) := by
  have horder : ((repriced s totals).releaseBins slot).order? slot = some { o with bins := [] } :=
    (order?_modifyOrder (repriced s totals) slot slot fun o => { o with bins := [] }).trans (by
      rw [if_pos rfl, show (repriced s totals).order? slot = some o from ho]; rfl)
  refine ⟨recordFreed_of_same (p := { o with bins := [] }) rfl (otherOrdersSame_modifyOrder (repriced s totals) slot fun o => { o with bins := [] })
    (fun _ _ => rfl) (recordFreed_freeRecord horder), binsReleased_of_modifyAll ?_⟩
  rw [freeRecord_sort]
  unfold State.releaseBins State.binsOf
  rw [show (repriced s totals).order? slot = some o from ho]
  rfl

theorem onlyChanges_totals (s : State) (totals : Totals) :
    OnlyChanges [.totals] s (repriced s { s.price with totals := totals }) := by
  intro p hp
  cases p <;> simp_all [Same, State.port, repriced]

theorem onlyChanges_collectWhole (s : State) (slot : Nat) (totals : Totals) : OnlyChanges [.orders, .items, .bins, .totals] s
    (((repriced s { s.price with totals := totals }).releaseBins slot).freeRecord slot) :=
  onlyChanges_mono (onlyChanges_trans (onlyChanges_trans (onlyChanges_totals s totals) (onlyChanges_releaseBins _ slot))
    (onlyChanges_freeRecord _ slot)) (by decide)

/-- The answer of a collection that frees the record at once. -/
theorem collected_answered (ho : s.order? slot = some o) (r : Reply) :
    let t := s.answered .till (((repriced s { s.price with totals := s.price.totals.collect o.final false }).releaseBins
      slot).freeRecord slot, r)
    RecordFreed slot o s t ∧ BinsReleased o.bins s t
      ∧ t.price.totals = { s.price.totals with
          ordersCollected := min 65535 (s.price.totals.ordersCollected + 1)
          takings := if o.final = 0 then s.price.totals.takings else min 999999999 (s.price.totals.takings + o.final) }
      ∧ OnlyChanges [.orders, .items, .bins, .totals, .port .till] s t := by
  obtain ⟨hfreed, hreleased⟩ := collectWhole_frees ho { s.price with totals := s.price.totals.collect o.final false }
  refine ⟨hfreed, hreleased, ?_, onlyChanges_answered (onlyChanges_mono (onlyChanges_collectWhole s slot _) (by decide))
    (by decide) (.inr ⟨?_, ?_, ?_⟩)⟩
  · rw [answered_price, freeRecord_price, releaseBins_price]
    rfl
  · simp [State.startConditions]
    rfl
  · simp [State.patchDue]
    rfl
  · simp
    rfl

end

/-- Settles O30. -/
theorem collectTakesTheFinalAndFrees : Obligations.CollectTakesTheFinalAndFrees := by
  intro s ticket slot o hnames
  have ho := order?_of_names hnames
  refine ⟨fun htaking => ⟨fun hstate => ?_, fun hstate hamends => ?_, fun hstate hamends => ?_⟩,
    fun htaking => ⟨fun hstate hamends => ?_, fun hstate hamends => ?_⟩⟩
  · refine refusedWith_of_refuse rfl htaking rfl rfl ?_
    rw [serveCollect, withOrder_of_names hnames, if_pos hstate]
  · refine refusedWith_of_refuse rfl htaking rfl rfl ?_
    rw [serveCollect, withOrder_of_names hnames, if_neg (not_not_intro hstate), if_pos hamends]
  · obtain ⟨hexec, hreplied⟩ := answered_of_served (c := .collect .till ticket) (r := .taken false (n32 o.final))
      (t := ((repriced s { s.price with totals := s.price.totals.collect o.final false }).releaseBins slot).freeRecord slot)
      rfl htaking rfl rfl (by
        rw [serveCollect, withOrder_of_names hnames, if_neg (not_not_intro hstate), if_neg (by simp [hamends])]
        rfl)
    obtain ⟨hfreed, hreleased, htotals, hframe⟩ := collected_answered ho (.taken false (n32 o.final))
    exact ⟨_, hexec, hfreed, hreleased, htotals, hreplied, hframe⟩
  · refine refusedWith_of_refuse rfl htaking rfl rfl ?_
    rw [serveCollectPartial, withOrder_of_names hnames, if_neg (by simp [hstate]), if_pos hamends]
  · obtain ⟨hexec, hreplied⟩ := answered_of_served (c := .collectPartial .till ticket) (r := .taken false (n32 o.final ++ [1]))
      (t := ((repriced s { s.price with totals := s.price.totals.collect o.final false }).releaseBins slot).freeRecord slot)
      rfl htaking rfl rfl (by
        rw [serveCollectPartial, withOrder_of_names hnames, if_neg (by simp [hstate]), if_neg (by simp [hamends]), if_pos hstate]
        rfl)
    obtain ⟨hfreed, hreleased, htotals, hframe⟩ := collected_answered ho (.taken false (n32 o.final ++ [1]))
    exact ⟨_, hexec, hfreed, hreleased, htotals, hreplied, hframe⟩

/-- Settles O31. -/
theorem collectPartialWithdraws : Obligations.CollectPartialWithdraws := by
  intro s ticket slot o htaking hnames
  have ho := order?_of_names hnames
  refine ⟨fun hstate => ?_, fun hstate hamends => ?_, fun hstate hamends => ?_⟩
  · refine refusedWith_of_refuse rfl htaking rfl rfl ?_
    rw [serveCollectPartial, withOrder_of_names hnames, if_pos hstate]
  · refine refusedWith_of_refuse rfl htaking rfl rfl ?_
    rw [serveCollectPartial, withOrder_of_names hnames, if_neg, if_pos hamends]
    rcases hstate with h | h | h <;> simp [h]
  · obtain ⟨u, hu⟩ : ∃ u, u = repriced s { s.price with totals := s.price.totals.collect o.final true } := ⟨_, rfl⟩
    have hou : u.order? slot = some o := by rw [hu]; exact ho
    have hserve : serveCollectPartial ticket s = (u.withdraw slot .nobody true,
        .taken false (n32 o.final ++ [outcomeByte ((u.withdraw slot .nobody true).order? slot).isNone])) := by
      rw [serveCollectPartial, withOrder_of_names hnames, if_neg, if_neg (by simp [hamends]), if_neg, hu]
      · rfl
      · rcases hstate with h | h | h <;> simp [h]
      · rcases hstate with h | h | h <;> simp [h]
    obtain ⟨hexec, hreplied⟩ := answered_of_served (c := .collectPartial .till ticket) rfl htaking rfl rfl hserve
    obtain ⟨hremoved, hstops, hreleased⟩ := withdrawn_answered (link := .till) hou (by decide)
      (onlyChanges_drained_of_collection hou)
      (.taken false (n32 o.final ++ [outcomeByte ((u.withdraw slot .nobody true).order? slot).isNone])) s
    have hsame : OnlyChanges [.totals] s u := by rw [hu]; exact onlyChanges_totals s _
    have hdone (k : Nat) : (withdrawalDone u slot .nobody true).order? k =
        if k = slot then some (Withdrawn o .nobody true false) else s.order? k := by
      rw [order?_withdrawalDone, hou, hu]
      rfl
    have hwritten := waitingWrittenOff_withdrawalDone .nobody true hou
    have hitems : (u.orderTable.itemsOf slot) = s.orderTable.itemsOf slot := by rw [hu]; rfl
    have hcollected := withdraw_of_collection hou
    rw [hitems] at hcollected
    refine ⟨_, hexec, ?_, ?_, ?_, ?_, ?_, ?_⟩
    · rw [answered_price, withdraw_price, hu]
      rfl
    · rw [hu] at hremoved ⊢
      exact hremoved
    · exact withdrawalStops_of_same hsame (onlyChanges_refl [] _) (by decide) (by decide) hstops
    · rw [hu] at hreleased ⊢
      exact hreleased
    · split at hcollected
      · next hall =>
        rw [if_pos hall]
        have hgone : (u.withdraw slot .nobody true).order? slot = none := by
          rw [hcollected, order?_freeRecord, if_pos rfl]
        rw [hgone] at hreplied ⊢
        refine ⟨?_, hreplied⟩
        have hfreed := recordFreed_freeRecord ((hdone slot).trans (if_pos rfl))
        rw [hcollected]
        refine recordFreed_of_same (p := Withdrawn o .nobody true false) rfl (fun k hk => (hdone k).trans (if_neg hk))
          (fun r hr => ?_) hfreed
        obtain ⟨-, hothers⟩ := hwritten
        rw [hothers r hr, hu]
        rfl
      · next hall =>
        rw [if_neg hall]
        have hstays : (u.withdraw slot .nobody true).order? slot = some (Withdrawn o .nobody true false) := by
          rw [hcollected, hdone, if_pos rfl]
        rw [hstays] at hreplied ⊢
        refine ⟨by rw [order?_answered]; exact hstays, ?_, fun k hk => ?_, hreplied⟩
        · simp only [WaitingWrittenOff, OtherItemsSame, answered_orderTable, hcollected]
          rw [hu] at hwritten ⊢
          exact hwritten
        · rw [order?_answered, hcollected, hdone, if_neg hk]
    · exact onlyChanges_answered (onlyChanges_mono (onlyChanges_trans hsame (onlyChanges_withdraw _ slot _ _)) (by decide))
        (by decide) (.inl (by decide))

end Sys2Proof.Withdrawals

/-! Amendments staged and items added: O56 and O23. -/

namespace Sys2Proof.Requests

open Sys2Proof.Machine Sys2Proof.Laws Sys2Proof.OrdersAndItems Sys2Proof.Magazines Sys2Proof.Sorting Sys2Proof.Till
open Sys2Proof.Steps Sys2Proof.WebMap Sys2Proof.Registry Sys2Proof.Pool Sys2Proof.Controls

/-! ## The amendment (R165, R166, R167, R169) -/

section
variable {s : State} {ticket : Word16} {slot : Nat} {o : Order} {a : Amendment}

/-- The state once another amendment, or none, is open. -/
def amendmentSet (s : State) (x : Option Amendment) : State := repriced s { s.price with amendment := x }

theorem onlyChanges_amendmentSet (s : State) (x : Option Amendment) : OnlyChanges [.amendment] s (amendmentSet s x) := by
  intro p hp
  cases p <;> simp_all [Same, State.port, amendmentSet, repriced]

theorem onlyChanges_amended_answered (s : State) (x : Option Amendment) (r : Reply) :
    OnlyChanges [.amendment, .port .till] s (s.answered .till (amendmentSet s x, r)) :=
  onlyChanges_answered (onlyChanges_mono (onlyChanges_amendmentSet s x) (by decide)) (by decide) (.inr ⟨rfl, rfl, rfl⟩)

/-- R167: an edit of the amendment, in the terms of the statement. -/
def EditsTo (a : Amendment) (o : Order) (kind : Byte) (value : Word32) (b : Amendment) : Prop :=
  (kind = 1#8 ∧ b = { a with discount := min 100 value.toNat })
    ∨ (kind = 2#8 ∧ b = { a with adjustment := max (-999999) (min 999999 value.toInt) })
    ∨ (kind = 3#8 ∧ value.toNat < o.items.length ∧ b = { a with waive := a.waive ||| (1#24 <<< value.toNat) })
    ∨ (kind = 4#8 ∧ value.toNat < o.items.length ∧ b = { a with waive := a.waive &&& ~~~(1#24 <<< value.toNat) })

/-- R167: a value is clamped in a discount above 100 and in an adjustment beyond 999,999. -/
def EditClamps (kind : Byte) (value : Word32) : Prop :=
  (kind = 1#8 ∧ value.toNat > 100) ∨ (kind = 2#8 ∧ (value.toInt < -999999 ∨ value.toInt > 999999))

theorem edit_eq_none {kind : Byte} {value : Word32}
    (h : kind.toNat = 0 ∨ kind.toNat > 4 ∨ (kind.toNat ≥ 3 ∧ o.items.length ≤ value.toNat)) : a.edit o kind value = none := by
  have hne {n : Nat} {b : Byte} (hb : b.toNat = n) (hk : kind.toNat ≠ n) : kind ≠ b := fun he => hk (he ▸ hb)
  unfold Amendment.edit
  rw [if_neg (hne (n := 1) rfl (by omega)), if_neg (hne (n := 2) rfl (by omega)), if_neg, if_neg]
  · rintro ⟨rfl, hvalue⟩
    rcases h with h | h | ⟨-, h⟩
    · exact absurd h (by decide)
    · exact absurd h (by decide)
    · omega
  · rintro ⟨rfl, hvalue⟩
    rcases h with h | h | ⟨-, h⟩
    · exact absurd h (by decide)
    · exact absurd h (by decide)
    · omega

theorem edit_eq_some {kind : Byte} {value : Word32} {b : Amendment} (h : EditsTo a o kind value b) :
    ∃ clamped, a.edit o kind value = some (b, clamped) ∧ (clamped = true ↔ EditClamps kind value) := by
  unfold EditClamps Amendment.edit
  rcases h with ⟨rfl, rfl⟩ | ⟨rfl, rfl⟩ | ⟨rfl, hvalue, rfl⟩ | ⟨rfl, hvalue, rfl⟩
  · exact ⟨_, rfl, by simp⟩
  · refine ⟨decide (value.toInt < -999999 ∨ value.toInt > 999999), ?_, by simp⟩
    simp [clampInt]
  · refine ⟨false, ?_, by simp⟩
    simp [hvalue, waiveBit]
  · refine ⟨false, ?_, by simp⟩
    simp [hvalue, waiveBit]

end

/-- Settles O56. -/
theorem amendmentIsStaged : Obligations.AmendmentIsStaged := by
  intro s ticket slot o hnames
  have ho := order?_of_names hnames
  refine ⟨fun htaking => ⟨fun hopen => ?_, fun hnone hstate => ?_, fun hnone hopened hwithdrawn => ?_⟩,
    fun kind value htaking => ⟨fun hother => ?_, fun a ha hslot => ⟨fun hbad => ?_, fun b hedit => ?_⟩⟩,
    fun htaking => ⟨fun hother => ?_, fun a ha hslot => ?_⟩⟩
  · refine refusedWith_of_refuse rfl htaking rfl rfl ?_
    rw [serveAmendOpen, withOrder_of_names hnames, if_pos hopen]
  · refine refusedWith_of_refuse rfl htaking rfl rfl ?_
    rw [serveAmendOpen, withOrder_of_names hnames, hnone, if_neg (by simp), if_pos hstate]
  · obtain ⟨hexec, hreplied⟩ := answered_of_served (c := .amendOpen .till ticket)
      (t := amendmentSet s (some { ticket := o.ticket, slot := slot, discount := o.discount, adjustment := o.adjustment
                                   waive := 0 }))
      (r := .taken false (n8 o.discount ++ i32 o.adjustment ++ n32 o.gross ++ n32 o.final ++ n8 o.items.length))
      rfl htaking rfl rfl (by
        rw [serveAmendOpen, withOrder_of_names hnames, hnone, if_neg (by simp), if_neg (by tauto)]
        rfl)
    exact ⟨_, hexec, rfl, hreplied, onlyChanges_amended_answered s _ _⟩
  · exact refusedWith_of_refuse rfl htaking rfl rfl (withAmendment_wrongState hnames hother)
  · refine refusedWith_of_refuse rfl htaking rfl rfl ?_
    rw [serveAmendSet, withAmendment_of_amended hnames ha hslot, edit_eq_none hbad]
  · obtain ⟨clamped, hb, hclamped⟩ := edit_eq_some hedit
    obtain ⟨hexec, hreplied⟩ := answered_of_served (c := .amendSet .till ticket kind value) (t := amendmentSet s (some b))
      (r := .taken clamped (n8 b.discount ++ i32 b.adjustment ++ waiveBytes b.waive ++ n32 (s.previewFinal slot o b)))
      rfl htaking rfl rfl (by
        rw [serveAmendSet, withAmendment_of_amended hnames ha hslot, hb]
        rfl)
    have hpreview : s.previewFinal slot o b = finalOf (o.gross - waivedSum s o b.waive) b.discount b.adjustment := by
      unfold State.previewFinal
      rw [refundOf_eq ho]
    rw [hpreview] at hexec hreplied
    refine ⟨_, hexec, rfl, ?_, onlyChanges_amended_answered s _ _⟩
    have hstatus : (Reply.taken clamped (n8 b.discount ++ i32 b.adjustment ++ waiveBytes b.waive
        ++ n32 (finalOf (o.gross - waivedSum s o b.waive) b.discount b.adjustment))).status = if (kind = 1#8 ∧ value.toNat > 100)
          ∨ (kind = 2#8 ∧ (value.toInt < -999999 ∨ value.toInt > 999999)) then .clamped else .ok := by
      unfold Reply.taken
      simp only [hclamped, EditClamps]
    rw [hstatus] at hreplied
    exact hreplied
  · exact refusedWith_of_refuse rfl htaking rfl rfl (withAmendment_wrongState hnames hother)
  · obtain ⟨hexec, hreplied⟩ := answered_of_served (c := .amendDrop .till ticket) (t := amendmentSet s none)
      (r := .taken false (n32 o.gross ++ n32 o.final)) rfl htaking rfl rfl (by
        rw [serveAmendDrop, withAmendment_of_amended hnames ha hslot]
        rfl)
    exact ⟨_, hexec, rfl, hreplied, onlyChanges_amended_answered s _ _⟩

/-! ## ADD ITEM (R5, R6) -/

section
variable {T : OrderTable} {ws hs : Word16} {sizeIndex surface mode copies : Byte}

theorem mode_ofByte?_eq_none (h : mode ∉ [1#8, 2#8]) : Mode.ofByte? mode = none := by
  unfold Mode.ofByte?
  simp_all

theorem mode_ofByte?_eq_some {m : Mode} (h : (mode, m) ∈ [(1#8, Mode.fill), (2#8, .fit)]) : Mode.ofByte? mode = some m := by
  simp only [List.mem_cons, List.not_mem_nil, or_false, Prod.mk.injEq] at h
  rcases h with ⟨rfl, rfl⟩ | ⟨rfl, rfl⟩ <;> rfl

/-- R5, test 3. -/
theorem addItemMalformed_of_bad (h : sizeIndex.toNat > 15
      ∨ (∀ e, Table.get? T.sizes sizeIndex.toNat = some e → e.enabled = false)
      ∨ ws.toNat = 0 ∨ ws.toNat > 16384 ∨ hs.toNat = 0 ∨ hs.toNat > 16384
      ∨ surface ∉ [1#8, 2#8, 3#8] ∨ mode ∉ [1#8, 2#8] ∨ copies.toNat = 0) :
    addItemMalformed T ws hs sizeIndex surface mode copies = true := by
  unfold addItemMalformed
  rcases h with h | h | h | h | h | h | h | h | h
  · simp [h]
  · cases he : Table.get? T.sizes sizeIndex.toNat with
    | none => simp
    | some e => simp [h e he]
  · simp [h]
  · simp [h]
  · simp [h]
  · simp [h]
  · simp [surface_ofByte?_eq_none h]
  · simp [mode_ofByte?_eq_none h]
  · obtain rfl : copies = 0 := BitVec.eq_of_toNat_eq h
    simp

theorem addItemMalformed_of_good {e : SizeEntry} {u : Surface} {m : Mode} (hindex : sizeIndex.toNat ≤ 15)
    (he : Table.get? T.sizes sizeIndex.toNat = some e) (henabled : e.enabled = true) (hws : 1 ≤ ws.toNat)
    (hws' : ws.toNat ≤ 16384) (hhs : 1 ≤ hs.toNat) (hhs' : hs.toNat ≤ 16384) (hu : Surface.ofByte? surface = some u)
    (hm : Mode.ofByte? mode = some m) (hcopies : copies.toNat ≠ 0) :
    addItemMalformed T ws hs sizeIndex surface mode copies = false := by
  have hsome : copies ≠ 0 := fun h => hcopies (by rw [h]; rfl)
  unfold addItemMalformed
  simp only [he, henabled, hu, hm, Bool.or_eq_false_iff, decide_eq_false_iff_not, beq_eq_false_iff_ne]
  refine ⟨⟨⟨⟨⟨⟨⟨⟨?_, rfl⟩, ?_⟩, ?_⟩, ?_⟩, ?_⟩, rfl⟩, rfl⟩, hsome⟩ <;> omega

end

theorem onlyChanges_itemAdded (s : State) (slot : Nat) (cls : OrderClass) (r : Nat) (i : Item) :
    OnlyChanges [.orders, .items, .attemptCause] s (itemAdded s slot cls r i) := by
  intro p hp
  cases p <;> simp_all [Same, State.port, itemAdded]

/-- Settles O23. -/
theorem addItemTestsAndAppends : Obligations.AddItemTestsAndAppends := by
  intro s ticket handle ws hs sizeIndex surface mode copies slot o htaking hnames
  have ho := order?_of_names hnames
  refine ⟨fun hopened hready => ?_, fun hstate hbad => ?_,
    fun e u m hstate hindex he henabled hws hws' hhs hhs' hsurface hmode hcopies => ?_⟩
  · refine refusedWith_of_refuse rfl htaking rfl rfl ?_
    rw [serveAddItem, withOrder_of_names hnames, if_pos ⟨hopened, hready⟩]
  · refine refusedWith_of_refuse rfl htaking rfl rfl ?_
    rw [serveAddItem, withOrder_of_names hnames, if_neg (by tauto), if_pos (addItemMalformed_of_bad hbad)]
  · have hu : Surface.ofByte? surface = some u := surface_ofByte?_eq_some hsurface
    have hm := mode_ofByte?_eq_some hmode
    have hgood := addItemMalformed_of_good hindex he henabled hws hws' hhs hhs' hu hm hcopies
    have hserve : serveAddItem ticket handle ws hs sizeIndex surface mode copies s =
        match Table.lowestFree s.orderTable.items 512 with
        | some r =>
          if o.items.length ≥ 24 then refuse s .full
          else (itemAdded s slot o.cls r (Item.fresh handle ws hs sizeIndex u m copies),
            .taken (decide (copies.toNat > 99)) (n8 o.items.length))
        | none => refuse s .full := by
      rw [serveAddItem, withOrder_of_names hnames, if_neg (by tauto), if_neg (by simp [hgood]), hu, hm]
      cases Table.lowestFree s.orderTable.items 512 <;> rfl
    refine ⟨fun hfull => ?_, fun r hlen hr hfree hbelow => ?_⟩
    · refine refusedWith_of_refuse rfl htaking rfl rfl ?_
      rw [hserve]
      rcases hfull with hlen | hnone
      · cases Table.lowestFree s.orderTable.items 512 with
        | none => rfl
        | some r => exact if_pos hlen
      · rw [lowestFree_eq_none hnone]
    · have hlowest := lowestFree_eq_some hr hfree hbelow
      obtain ⟨hexec, hreplied⟩ := answered_of_served
        (c := .addItem .order ticket handle ws hs sizeIndex surface mode copies)
        (t := itemAdded s slot o.cls r (Item.fresh handle ws hs sizeIndex u m copies))
        (r := .taken (decide (copies.toNat > 99)) (n8 o.items.length)) rfl htaking rfl rfl (by
          rw [hserve, hlowest]
          exact if_neg (by omega))
      rw [status_taken (within := ¬ copies.toNat > 99) (by simp)] at hreplied
      refine ⟨_, hexec, ?_, ?_, by rwa [ite_not] at hreplied, fun k hk => ?_, fun k hk => ?_, ?_⟩
      · rw [answered_orderTable, item_itemAdded, if_pos rfl]
        rfl
      · rw [order?_answered, order?_itemAdded, if_pos rfl, ho]
        rfl
      · rw [answered_orderTable, item_itemAdded, if_neg (by simpa using hk)]
      · rw [order?_answered, order?_itemAdded, if_neg hk]
      · exact onlyChanges_answered (onlyChanges_mono (onlyChanges_itemAdded s slot o.cls r _) (by decide)) (by decide)
          (.inl (by decide))

end Sys2Proof.Requests

/-! Attention: O20 and O19. -/

namespace Sys2Proof.Attention

open Sys2Proof.Machine Sys2Proof.Laws Sys2Proof.OrdersAndItems Sys2Proof.Magazines Sys2Proof.Sorting Sys2Proof.Till
open Sys2Proof.Steps Sys2Proof.WebMap Sys2Proof.Registry Sys2Proof.Pool Sys2Proof.Controls

/-! ## Flags in a byte -/

theorem flagSum_shifted (flags : List (Nat × Bool)) :
    flagSum (flags.map fun f => (f.1 + 1, f.2)) = 2 * flagSum flags := by
  unfold flagSum
  rw [List.map_map, ← List.sum_map_mul_left]
  refine congrArg List.sum (List.map_congr_left fun f _ => ?_)
  simp only [Function.comp]
  split
  · exact pow_succ' 2 f.1
  · rfl

/-- R199: packed flags are the sum of the powers of two of those set. -/
theorem packFlags_eq (flags : List Bool) {width : Nat} (h : flags.length ≤ width) :
    packFlags flags = flagSum ((List.range width).map fun k => (k, flags[k]?.getD false)) := by
  induction flags generalizing width with
  | nil => simp [packFlags, flagSum, Function.comp_def]
  | cons b rest ih =>
    obtain ⟨w, rfl⟩ : ∃ w, width = w + 1 := ⟨width - 1, by simp at h; omega⟩
    rw [List.range_succ_eq_map, List.map_cons, List.map_map, packFlags, ih (width := w) (by simpa using h), ← flagSum_shifted,
      List.map_map]
    simp [flagSum, Function.comp_def]

/-! ## The causes of a link with their masks (R189, R193, R195) -/

section
variable {s t : State} {link : Link} {c : Cause}

theorem causesOf_eq (link : Link) : causesOf link = priorities link := by cases link <;> rfl

/-- R189: a link keeps one mask entry for each of its causes. -/
def Masked (s : State) (link : Link) : Prop := (s.links.unit link).mask.length = (priorities link).length

theorem masked_of_portsOk (h : PortsOk s) (link : Link) : Masked s link := by
  obtain ⟨-, hmask⟩ := h link
  rw [causesOf_eq] at hmask
  exact hmask

theorem entries_length (hmask : Masked s link) : (s.entries link).length = (priorities link).length := by
  unfold Masked at hmask
  simp [State.entries, causesOf_eq, hmask]

theorem entries_get (hmask : Masked s link) {k : Nat} (hk : k < (priorities link).length) :
    ∃ masked, (s.links.unit link).mask[k]? = some masked
      ∧ (s.entries link)[k]? = some (k + 1, (priorities link)[k], masked) := by
  unfold Masked at hmask
  refine ⟨(s.links.unit link).mask[k], List.getElem?_eq_getElem (by omega), ?_⟩
  rw [List.getElem?_eq_getElem (by rw [entries_length hmask]; exact hk)]
  simp [State.entries, causesOf_eq]

/-- R193: an entry counts where its cause is pending and unmasked. -/
def counts (s : State) (link : Link) (e : Nat × Cause × Bool) : Bool := !e.2.2 && s.isPending link e.2.1

theorem counts_entry (ht : TicketsOk s) (hb : BinsOk s) (hmask : Masked s link) {k : Nat} {e : Nat × Cause × Bool}
    (he : (s.entries link)[k]? = some e) : counts s link e = pendingAt s link k := by
  have hk : k < (priorities link).length := by
    rw [← entries_length hmask]
    exact (List.getElem?_eq_some_iff.1 he).1
  obtain ⟨masked, hmasked, hentry⟩ := entries_get hmask hk
  obtain rfl := Option.some.inj (hentry.symm.trans he)
  unfold counts pendingAt State.isPending
  rw [List.getElem?_eq_getElem hk, hmasked, subjects_eq ht hb (List.getElem_mem hk)]
  cases masked
  · simp [Nat.pos_iff_ne_zero]
  · rfl

theorem pendingAt_of_length_le {k : Nat} (hk : (priorities link).length ≤ k) : pendingAt s link k = false := by
  unfold pendingAt
  rw [List.getElem?_eq_none hk]

theorem pendingFlags_get (ht : TicketsOk s) (hb : BinsOk s) (hmask : Masked s link) (k : Nat) :
    (s.pendingFlags link)[k]?.getD false = pendingAt s link k := by
  unfold State.pendingFlags
  rw [List.getElem?_map]
  cases he : (s.entries link)[k]? with
  | none =>
    rw [List.getElem?_eq_none_iff, entries_length hmask] at he
    exact (pendingAt_of_length_le he).symm
  | some e => exact counts_entry ht hb hmask he

theorem length_priorities_le (link : Link) : (priorities link).length ≤ 7 := by cases link <;> decide

theorem packed_pendingFlags (ht : TicketsOk s) (hb : BinsOk s) (hmask : Masked s link) :
    n8 (packFlags (s.pendingFlags link)) = pendingByte s link := by
  have hlen : (s.pendingFlags link).length ≤ 7 := by
    unfold State.pendingFlags
    rw [List.length_map, entries_length hmask]
    exact length_priorities_le link
  unfold pendingByte
  rw [packFlags_eq _ hlen]
  simp only [pendingFlags_get ht hb hmask]

theorem packed_mask {mask : List Bool} (hmask : mask.length = (priorities link).length) :
    n8 (maskFlags mask) = maskByte mask := by
  unfold maskFlags maskByte
  rw [packFlags_eq _ (hmask.trans_le (length_priorities_le link))]

/-- R195: the attention line is asserted while an unmasked cause is pending. -/
theorem attentionLine_eq (ht : TicketsOk s) (hb : BinsOk s) (hmask : Masked s link) :
    s.attentionLine link = attentionAsserted s link := by
  unfold State.attentionLine attentionAsserted
  rw [Bool.eq_iff_iff, List.any_eq_true, List.any_eq_true]
  constructor
  · rintro ⟨b, hin, hb'⟩
    obtain ⟨k, hk⟩ := List.getElem?_of_mem hin
    have hpending := pendingFlags_get ht hb hmask k
    rw [hk] at hpending
    have : pendingAt s link k = true := hpending.symm.trans hb'
    exact ⟨k, List.mem_range.2 (pendingAt_lt this), this⟩
  · rintro ⟨k, -, hpending⟩
    rw [← pendingFlags_get ht hb hmask k] at hpending
    cases hk : (s.pendingFlags link)[k]? with
    | none => simp [hk] at hpending
    | some b =>
      rw [hk] at hpending
      exact ⟨b, List.mem_of_getElem? hk, hpending⟩

/-! ## SET MASK (R196) -/

theorem maskEntry?_eq (b : Byte) : maskEntry? b = if b = 0#8 then some false else if b = 1#8 then some true else none := rfl

theorem maskEntries?_eq_none {entries : List Byte} (h : ∃ e ∈ entries, e ≠ 0#8 ∧ e ≠ 1#8) : maskEntries? entries = none := by
  induction entries with
  | nil => simp at h
  | cons b rest ih =>
    obtain ⟨e, hin, hne⟩ := h
    unfold maskEntries?
    rcases List.mem_cons.1 hin with rfl | hin
    · rw [maskEntry?_eq, if_neg hne.1, if_neg hne.2]
    · rw [ih ⟨e, hin, hne⟩]
      cases maskEntry? b <;> rfl

theorem maskEntries?_eq_some {entries : List Byte} (h : ∀ e ∈ entries, e = 0#8 ∨ e = 1#8) :
    maskEntries? entries = some (entries.map fun e => e == 1#8) := by
  induction entries with
  | nil => rfl
  | cons b rest ih =>
    have hrest := ih fun e he => h e (List.mem_cons_of_mem b he)
    unfold maskEntries?
    rw [hrest]
    rcases h b List.mem_cons_self with rfl | rfl <;> rfl

theorem fieldLength_setMask (link : Link) : RequestCode.setMask.fieldLength link = (priorities link).length := by
  cases link <;> rfl

theorem belongs_setMask (link : Link) : RequestCode.setMask.belongs link = true := by cases link <;> rfl

theorem mask_setMask (s : State) (link : Link) (mask : List Bool) : ((s.setMask link mask).links.unit link).mask = mask := by
  unfold State.setMask
  rw [unit_setUnit_same]

theorem onlyChanges_setMask (s : State) (link : Link) (mask : List Bool) : OnlyChanges [.mask link] s (s.setMask link mask) := by
  intro p hp
  cases p
  case port l =>
    show _ = _
    by_cases hl : l = link
    · subst hl; simp [State.port, State.setMask]
    · simp [State.port, State.setMask, unit_setUnit_of_ne hl]
  case mask l =>
    have hl : l ≠ link := fun h => hp (h ▸ List.mem_singleton_self _)
    show _ = _
    unfold State.setMask
    rw [unit_setUnit_of_ne hl]
  all_goals simp [Same]

theorem pendingSubjects_answered (s t : State) (link l : Link) (r : Reply) (c : Cause) :
    pendingSubjects (s.answered link (t, r)) l c = pendingSubjects t l c := by cases c <;> rfl

theorem pendingAt_answered (s t : State) (link l : Link) (r : Reply) :
    pendingAt (s.answered link (t, r)) l = pendingAt t l := by
  funext k
  unfold pendingAt
  simp only [mask_answered, pendingSubjects_answered]

end

/-- Settles O20. -/
theorem setMaskReplacesTheLinksMask : Obligations.SetMaskReplacesTheLinksMask := by
  refine ⟨fun s link entries ht hb htaking hlen => ⟨fun hbad => ?_, fun hgood => ?_⟩,
    fun s link ht hb hp => attentionLine_eq ht hb (masked_of_portsOk hp link)⟩
  · refine refusedWith_of_refuse rfl htaking (belongs_setMask link) (hlen.trans (fieldLength_setMask link).symm) ?_
    rw [serveSetMask, maskEntries?_eq_none hbad]
  · obtain ⟨mask, hmask⟩ : ∃ mask, mask = entries.map fun e => e == 1#8 := ⟨_, rfl⟩
    have hlength : mask.length = (priorities link).length := by rw [hmask, List.length_map, hlen]
    have hmasked : Masked (s.setMask link mask) link := by
      unfold Masked
      rw [mask_setMask, hlength]
    obtain ⟨hexec, hreplied⟩ := answered_of_served (c := .setMask link entries) (t := s.setMask link mask)
      (r := .taken false (n8 (maskFlags mask) ++ flagByte ((s.setMask link mask).attentionLine link))) rfl htaking
      (belongs_setMask link) (hlen.trans (fieldLength_setMask link).symm) (by
        rw [serveSetMask, maskEntries?_eq_some hgood, hmask])
    rw [packed_mask hlength, attentionLine_eq (s := s.setMask link mask) ht hb hmasked] at hexec hreplied
    rw [← hmask]
    refine ⟨_, hexec, ?_, fun c => by cases c <;> rfl, ?_, ?_⟩
    · rw [mask_answered, mask_setMask]
    · have hasserted : attentionAsserted (s.answered link (s.setMask link mask,
          .taken false (maskByte mask ++ flagByte (attentionAsserted (s.setMask link mask) link)))) link
          = attentionAsserted (s.setMask link mask) link := by
        simp only [attentionAsserted, pendingAt_answered]
      rw [hasserted]
      exact hreplied
    · exact onlyChanges_answered (onlyChanges_mono (onlyChanges_setMask s link mask) (by simp)) (by simp)
        (.inr ⟨rfl, rfl, rfl⟩)

/-! ## READ ATTENTION (R193, R203) -/

section
variable {s t : State} {link : Link} {c : Cause} {slot : Nat} {o : Order}

theorem topCause_eq_none (ht : TicketsOk s) (hb : BinsOk s) (hmask : Masked s link) (h : ∀ k, pendingAt s link k = false) :
    s.topCause link = none := by
  unfold State.topCause
  rw [Option.map_eq_none_iff, List.find?_eq_none]
  intro e he
  obtain ⟨k, hk⟩ := List.getElem?_of_mem he
  have := counts_entry ht hb hmask hk
  unfold counts at this
  rw [this, h k]
  exact Bool.false_ne_true

theorem topCause_eq_some (ht : TicketsOk s) (hb : BinsOk s) (hmask : Masked s link) {place : Nat}
    (hc : (priorities link)[place]? = some c) (hpending : pendingAt s link place = true)
    (hfirst : ∀ k, k < place → pendingAt s link k = false) : s.topCause link = some (place + 1, c) := by
  obtain ⟨hplace, hget⟩ := List.getElem?_eq_some_iff.1 hc
  obtain ⟨masked, -, hentry⟩ := entries_get hmask hplace
  rw [hget] at hentry
  obtain ⟨hlt, hat⟩ := List.getElem?_eq_some_iff.1 hentry
  have hfound : (s.entries link).find? (counts s link) = some (place + 1, c, masked) := by
    rw [List.find?_eq_some_iff_getElem]
    refine ⟨(counts_entry ht hb hmask hentry).trans hpending, place, hlt, hat, fun j hj => ?_⟩
    have := counts_entry ht hb hmask (List.getElem?_eq_getElem (hj.trans hlt))
    rw [this, hfirst j hj]
    rfl
  unfold State.topCause
  rw [show (s.entries link).find? (fun e => !e.2.2 && s.isPending link e.2.1) = _ from hfound]
  rfl

/-- The causes that are flags of an order. -/
def PerOrder (c : Cause) : Prop := c = .orderFaulted ∨ c = .cancelDone ∨ c = .binShortage ∨ c = .orderComplete

/-- R189: the flagged orders stand by slot. -/
theorem flaggedOrders_head (ht : TicketsOk s) (hper : PerOrder c) (hc : c ∈ priorities link) {rest : List (Nat × Order)}
    (h : s.flaggedOrders link c = (slot, o) :: rest) : FirstFlagged s link c slot o := by
  obtain ⟨hrising, -⟩ := ht
  have hflag (p : Order) := flagOf_eq c link p hper hc
  have hin : (slot, o) ∈ s.flaggedOrders link c := by rw [h]; exact List.mem_cons_self
  obtain ⟨hin, hset⟩ := List.mem_filter.1 hin
  refine ⟨get?_of_mem hrising hin, (hflag o).symm.trans hset, fun k hk p hp => ?_⟩
  rw [← hflag p]
  by_contra hne
  have hlisted : (k, p) ∈ s.flaggedOrders link c := List.mem_filter.2 ⟨mem_of_get? hp, by simpa using hne⟩
  have hordered : (s.flaggedOrders link c).Pairwise fun a b => a.1 < b.1 :=
    (List.pairwise_map.1 hrising).filter _
  rw [h] at hlisted hordered
  rcases List.mem_cons.1 hlisted with heq | hrest
  · obtain ⟨rfl, -⟩ := Prod.mk.inj heq
    omega
  · have := List.rel_of_pairwise_cons hordered hrest
    simp only at this
    omega

theorem firstFlagged_unique {k : Nat} {p : Order} (h : FirstFlagged s link c slot o) (h' : FirstFlagged s link c k p) :
    k = slot ∧ p = o := by
  obtain ⟨ho, hset, hbelow⟩ := h
  obtain ⟨hp, hset', hbelow'⟩ := h'
  rcases lt_trichotomy k slot with hlt | rfl | hlt
  · simp [hbelow k hlt p hp] at hset'
  · exact ⟨rfl, Option.some.inj (hp.symm.trans ho)⟩
  · simp [hbelow' slot hlt o ho] at hset

theorem subjects_of_pendingAt (ht : TicketsOk s) (hb : BinsOk s) {place : Nat} (hc : (priorities link)[place]? = some c)
    (hpending : pendingAt s link place = true) : 0 < s.subjects link c := by
  rw [subjects_eq ht hb (List.mem_of_getElem? hc)]
  unfold pendingAt at hpending
  rw [hc] at hpending
  split at hpending
  · next h _ =>
    obtain rfl := Option.some.inj h
    exact Nat.pos_of_ne_zero (by simpa using hpending)
  · cases hpending

/-- A cause of orders that is pending has a first order. -/
theorem exists_flagged (hper : PerOrder c) (h : 0 < s.subjects link c) :
    ∃ slot o rest, s.flaggedOrders link c = (slot, o) :: rest := by
  have hlen : 0 < (s.flaggedOrders link c).length := by
    rcases hper with rfl | rfl | rfl | rfl <;> exact h
  obtain ⟨⟨slot, o⟩, rest, heq⟩ := List.exists_cons_of_length_pos hlen
  exact ⟨slot, o, rest, heq⟩

/-- R40, R203: the first order in need of paper. -/
theorem paperNeeded_eq_some {need : PaperNeed} (h : s.paperNeeded? = some need) :
    ∃ ahead slot rest o, s.scheduler.express ++ s.scheduler.standard ++ s.scheduler.bulk = ahead ++ slot :: rest
      ∧ (∀ k ∈ ahead, ∀ p, s.order? k = some p → p.paperWait = none) ∧ s.order? slot = some o ∧ o.paperWait = some need := by
  obtain ⟨ahead, slot, rest, hlist, hfound, hnone⟩ := List.findSome?_eq_some_iff.1 h
  obtain ⟨o, ho, hneed⟩ := Option.bind_eq_some_iff.1 hfound
  refine ⟨ahead, slot, rest, o, hlist, fun k hk p hp => ?_, ho, hneed⟩
  have := hnone k hk
  rw [hp] at this
  exact this

/-- R148, R203: the first uncollected bin. -/
theorem uncollectedBins_head (hb : BinsOk s) {n : Nat} {b : Bin} {rest : List (Nat × Bin)}
    (h : s.uncollectedBins = (n, b) :: rest) : Table.get? s.sort.bins n = some b ∧ b.uncollected = true
      ∧ ∀ k, k < n → ∀ a, Table.get? s.sort.bins k = some a → a.uncollected = false := by
  have hrising : (s.sort.bins.map Prod.fst).Pairwise (· < ·) := by
    obtain ⟨hkeys, -⟩ := hb
    rw [hkeys]
    decide
  have hin : (n, b) ∈ s.uncollectedBins := by rw [h]; exact List.mem_cons_self
  obtain ⟨hin, hset⟩ := List.mem_filter.1 hin
  refine ⟨get?_of_mem hrising hin, hset, fun k hk a ha => ?_⟩
  by_contra hne
  have hlisted : (k, a) ∈ s.uncollectedBins := List.mem_filter.2 ⟨mem_of_get? ha, by simpa using hne⟩
  have hordered : s.uncollectedBins.Pairwise fun a b => a.1 < b.1 := (List.pairwise_map.1 hrising).filter _
  rw [h] at hlisted hordered
  rcases List.mem_cons.1 hlisted with heq | hrest
  · obtain ⟨rfl, -⟩ := Prod.mk.inj heq
    omega
  · have := List.rel_of_pairwise_cons hordered hrest
    simp only at this
    omega

/-- R203: the subject a pending cause answers is its first one. -/
theorem isSubject_sixBytes (ht : TicketsOk s) (hb : BinsOk s) (hc : c ∈ priorities link) (h : 0 < s.subjects link c) :
    IsSubject s link c (sixBytes (s.subjectFields link c)) := by
  have hordered (hper : PerOrder c) := exists_flagged hper h
  cases c with
  | orderFaulted | cancelDone | orderComplete =>
    obtain ⟨slot, o, rest, heq⟩ := hordered (by simp [PerOrder])
    refine ⟨slot, o, flaggedOrders_head ht (by simp [PerOrder]) hc heq, ?_⟩
    unfold State.subjectFields
    dsimp only
    rw [heq]
    rfl
  | binShortage =>
    obtain ⟨slot, o, rest, heq⟩ := hordered (by simp [PerOrder])
    refine ⟨slot, o, flaggedOrders_head ht (by simp [PerOrder]) hc heq, ?_⟩
    unfold State.subjectFields
    dsimp only
    rw [heq]
    rfl
  | tableLow => rfl
  | webFault =>
    unfold State.subjects at h
    dsimp only at h
    unfold IsSubject State.subjectFields
    cases hfault : s.web.fault with
    | none => simp [hfault] at h
    | some cause => exact ⟨cause, rfl, by cases cause <;> rfl⟩
  | switchRequested =>
    unfold State.subjects at h
    dsimp only at h
    unfold IsSubject State.subjectFields
    cases hreq : s.scheduler.switchRequested with
    | none => simp [hreq] at h
    | some m => exact ⟨m, rfl, by cases m <;> rfl⟩
  | paperNeeded =>
    unfold State.subjects at h
    dsimp only at h
    cases hneed : s.paperNeeded? with
    | none => simp [hneed] at h
    | some need =>
      obtain ⟨ahead, slot, rest, o, hlist, hahead, ho, hwait⟩ := paperNeeded_eq_some hneed
      refine ⟨ahead, slot, rest, o, need, hlist, hahead, ho, hwait, ?_⟩
      unfold State.subjectFields
      dsimp only
      rw [hneed]
      rfl
  | magazineLow =>
    have hlow : s.lowMagazines = (if s.scheduler.magA.low = true then [.a] else [])
        ++ if s.scheduler.magB.low = true then [.b] else [] := by
      unfold State.lowMagazines
      rw [List.filter_cons, List.filter_cons]
      unfold Scheduler.magazine
      dsimp only
      split <;> split <;> rfl
    unfold State.subjects at h
    dsimp only at h
    unfold IsSubject State.subjectFields
    dsimp only
    rw [hlow] at h ⊢
    by_cases ha : s.scheduler.magA.low = true
    · rw [if_pos ha, if_pos ha]
      rfl
    · rw [if_neg ha] at h ⊢
      by_cases hb' : s.scheduler.magB.low = true
      · rw [if_pos hb', if_neg ha]
        rfl
      · simp [hb'] at h
  | uncollected =>
    obtain ⟨⟨n, b⟩, rest, heq⟩ := List.exists_cons_of_length_pos (l := s.uncollectedBins) h
    obtain ⟨hget, hset, hbelow⟩ := uncollectedBins_head hb heq
    refine ⟨n, b, hget, hset, hbelow, ?_⟩
    unfold State.subjectFields
    dsimp only
    rw [heq]
    rfl
  | densityFault | stall | patchUnread => rfl

/-- The conditions of R34 and R36 do not see what READ ATTENTION clears. -/
theorem conditions_clearCause (s : State) (link : Link) (c : Cause) :
    (s.clearCause link c).startConditions = s.startConditions ∧ (s.clearCause link c).patchDue = s.patchDue
      ∧ (s.clearCause link c).scheduler.endReserve = s.scheduler.endReserve := by
  unfold State.clearCause
  cases c
  case orderFaulted | binShortage | orderComplete | cancelDone => dsimp only; split <;> exact ⟨rfl, rfl, rfl⟩
  all_goals exact ⟨rfl, rfl, rfl⟩

theorem mask_clearCause (s : State) (link l : Link) (c : Cause) :
    ((s.clearCause link c).links.unit l).mask = (s.links.unit l).mask := by rw [clearCause_links]

theorem attentionBytes_eq (ht : TicketsOk s) (hb : BinsOk s) (hmask : Masked s link) :
    s.attentionBytes link = pendingByte s link ++ maskByte (s.links.unit link).mask := by
  unfold State.attentionBytes
  rw [packed_pendingFlags ht hb hmask, packed_mask hmask]

theorem pendingByte_of_none (h : ∀ k, pendingAt s link k = false) : pendingByte s link = [0] := by
  unfold pendingByte
  simp only [h]
  rfl

/-- What READ ATTENTION changes, for the cause it returns. -/
theorem effects_clearCause (ht : TicketsOk s) (hc : c ∈ priorities link) :
    (c = .patchUnread → (s.clearCause link c).density.patchUnread = false ∧ OnlyChanges [.patchUnread] s (s.clearCause link c))
      ∧ (∀ slot o, c = .orderFaulted ∨ c = .binShortage ∨ c = .orderComplete → FirstFlagged s link c slot o →
          s.clearCause link c = s.modifyOrder slot c.clearFlag)
      ∧ (∀ slot o, c = .cancelDone → FirstFlagged s link c slot o →
          s.clearCause link c = s.freeRecord slot)
      ∧ (c ≠ .patchUnread → c ≠ .orderFaulted → c ≠ .binShortage → c ≠ .orderComplete → c ≠ .cancelDone →
          s.clearCause link c = s) := by
  have hhead (hper : PerOrder c) {slot : Nat} {o : Order} (hfirst : FirstFlagged s link c slot o) :
      ∃ rest, s.flaggedOrders link c = (slot, o) :: rest := by
    obtain ⟨ho, hset, -⟩ := id hfirst
    have hin : (slot, o) ∈ s.flaggedOrders link c :=
      List.mem_filter.2 ⟨mem_of_get? ho, (flagOf_eq c link o hper hc).trans hset⟩
    obtain ⟨⟨k, p⟩, rest, heq⟩ := List.exists_cons_of_length_pos (List.length_pos_of_mem hin)
    obtain ⟨rfl, rfl⟩ := firstFlagged_unique hfirst (flaggedOrders_head ht hper hc heq)
    exact ⟨rest, heq⟩
  refine ⟨?_, fun slot o hflag hfirst => ?_, fun slot o hdone hfirst => ?_, fun h1 h2 h3 h4 h5 => ?_⟩
  · rintro rfl
    refine ⟨rfl, ?_⟩
    intro p hp
    cases p <;> simp_all [Same, State.port, State.clearCause]
  · obtain ⟨rest, heq⟩ := hhead (by unfold PerOrder; tauto) hfirst
    unfold State.clearCause
    rcases hflag with rfl | rfl | rfl <;> dsimp only <;> rw [heq]
  · obtain ⟨rest, heq⟩ := hhead (by unfold PerOrder; tauto) hfirst
    subst hdone
    unfold State.clearCause
    dsimp only
    rw [heq]
    exact freeRecord_modifyOrder s slot (f := Cause.clearFlag .cancelDone) fun _ => rfl
  · cases c <;> first | rfl | contradiction

end

/-- Settles O19. -/
theorem readAttentionReturnsAndClears : Obligations.ReadAttentionReturnsAndClears := by
  intro s link ht hb hp htaking
  have hmask := masked_of_portsOk hp link
  refine ⟨fun hnone => ?_, fun place c hc hpending hfirst => ?_⟩
  · obtain ⟨hexec, hreplied⟩ := answered_of_served (c := .readAttention link) (t := s)
      (r := .taken false (n8 0 ++ List.replicate 6 0 ++ n8 0 ++ s.attentionBytes link)) rfl htaking (by cases link <;> rfl)
      (by cases link <;> rfl) (by rw [serveReadAttention, topCause_eq_none ht hb hmask hnone])
    rw [attentionBytes_eq ht hb hmask, pendingByte_of_none hnone] at hexec hreplied
    exact ⟨_, hexec, onlyChanges_answered (onlyChanges_mono (onlyChanges_refl [] s) (by simp)) (by simp) (.inr ⟨rfl, rfl, rfl⟩),
      hreplied⟩
  · have hin := List.mem_of_getElem? hc
    have hsubject := isSubject_sixBytes ht hb hin (subjects_of_pendingAt ht hb hc hpending)
    have ht' := ticketsOk_of_change (.attention link c) ht
    have hb' := binsOk_of_change (.attention link c) hb
    have hmask' : Masked (s.clearCause link c) link := by
      unfold Masked
      rw [mask_clearCause]
      exact hmask
    obtain ⟨hexec, hreplied⟩ := answered_of_served (c := .readAttention link) (t := s.clearCause link c)
      (r := .taken false (n8 (place + 1) ++ sixBytes (s.subjectFields link c) ++ n8 ((s.clearCause link c).subjects link c)
        ++ (s.clearCause link c).attentionBytes link)) rfl htaking (by cases link <;> rfl)
      (by cases link <;> rfl) (by rw [serveReadAttention, topCause_eq_some ht hb hmask hc hpending hfirst])
    rw [attentionBytes_eq ht' hb' hmask', subjects_eq ht' hb' hin, mask_clearCause] at hexec hreplied
    obtain ⟨hpatch, hflag, hdone, hstill⟩ := effects_clearCause ht hin
    have hframe {parts : List Machine.Part} (h : OnlyChanges parts s (s.clearCause link c)) (r : Reply) :
        OnlyChanges (parts ++ [.port link]) s (s.answered link (s.clearCause link c, r)) :=
      onlyChanges_answered (onlyChanges_mono h (by simp)) (by simp) (.inr (conditions_clearCause s link c))
    refine ⟨_, _, hexec, hsubject, ?_, fun hunread => ?_, fun slot o hper hfirst => ?_, fun slot o hcancel hfirst => ?_,
      fun h1 h2 h3 h4 h5 => ?_⟩
    · simp only [pendingSubjects_answered, pendingByte, pendingAt_answered, List.append_assoc] at hreplied ⊢
      exact hreplied
    · obtain ⟨hcleared, honly⟩ := hpatch hunread
      exact ⟨hcleared, hframe honly _⟩
    · have hmodified := hflag slot o hper hfirst
      obtain ⟨ho, -⟩ := id hfirst
      refine ⟨?_, fun k hk => ?_, hframe (by rw [hmodified]; exact onlyChanges_modifyOrder s slot _) _⟩
      · rw [order?_answered, hmodified, order?_modifyOrder, if_pos rfl, ho]
        rcases hper with rfl | rfl | rfl <;> rfl
      · rw [order?_answered, hmodified, order?_modifyOrder, if_neg hk]
    · have hfreed := hdone slot o hcancel hfirst
      obtain ⟨ho, -⟩ := id hfirst
      refine ⟨?_, hframe (by rw [hfreed]; exact onlyChanges_freeRecord s slot) _⟩
      rw [hfreed]
      exact recordFreed_freeRecord ho
    · exact hframe (parts := []) (by rw [hstill h1 h2 h3 h4 h5]; exact onlyChanges_refl [] s) _

end Sys2Proof.Attention

/-! The read requests: O32. -/

namespace Sys2Proof.Reads

open Sys2Proof.Machine Sys2Proof.Laws Sys2Proof.OrdersAndItems Sys2Proof.Magazines Sys2Proof.Sorting Sys2Proof.Till
open Sys2Proof.Steps Sys2Proof.WebMap Sys2Proof.Registry Sys2Proof.Pool Sys2Proof.Controls Sys2Proof.Attention

/-! ## The records are the layouts -/

section
variable {s : State} {slot : Nat} {o : Order}

theorem amends_eq (p : PriceUnit) (slot : Nat) : p.amends slot = p.amendment.any fun a => a.slot == slot := by
  unfold PriceUnit.amends
  cases p.amendment <;> rfl

theorem orderRecord_eq (s : State) (slot : Nat) (o : Order) : orderRecord s slot o = orderLayout s slot o := by
  have hflags : orderFlags o (s.price.amends slot) = flagSum [(0, o.started), (1, o.windowEnded), (2, o.faulted),
      (3, o.paperWait.isSome), (4, o.earlyPickup), (5, o.pickedUp), (6, o.faultUnreported), (7, o.completeUnreported),
      (8, o.cancelNotice), (9, o.collectedPartial), (10, o.shortageUnreported),
      (11, s.price.amendment.any fun a => a.slot == slot)] := by
    rw [← amends_eq]
    exact packFlags_eq _ (width := 12) le_rfl
  have htime : o.msToEligible s.timeBase = (match o.eligibleAt with
      | none => [255, 255, 255, 255]
      | some e => n32 (if o.windowEnded then 0 else (signedDiff e s.timeBase).toNat)) := by
    unfold Order.msToEligible
    cases o.eligibleAt <;> rfl
  unfold orderRecord orderLayout binPlaces
  rw [hflags, htime]
  simp only [List.append_assoc] <;> rfl

theorem itemRecord_eq (i : Item) : itemRecord i = i.layout := by
  unfold itemRecord Item.layout itemFlags
  rw [packFlags_eq [i.waived, i.faulted] (width := 2) le_rfl]
  rfl

theorem sizeRecord_eq (e : SizeEntry) : sizeRecord e = e.layout := rfl

theorem binRecord_eq (s : State) (b : Bin) : binRecord s.sort s.timeBase b = binLayout s b := by
  have hleft : b.minutesLeft s.timeBase = (match b.timer with
      | none => 0
      | some e => ((signedDiff e s.timeBase).toNat + 59999) / 60000) := by
    unfold Bin.minutesLeft
    cases b.timer <;> rfl
  unfold binRecord binLayout binFlags
  rw [hleft, packFlags_eq [b.timer.isSome, b.uncollected] (width := 2) le_rfl]
  rfl

theorem itemsOf_of_order (ho : s.order? slot = some o) :
    s.orderTable.itemsOf slot = o.items.filterMap (Table.get? s.orderTable.items) := by
  unfold OrderTable.itemsOf
  rw [show Table.get? s.orderTable.orders slot = some o from ho]

theorem priceRecord_eq (ho : s.order? slot = some o) : priceRecord s slot o = priceLayout s slot o := by
  unfold priceRecord priceLayout priceFlags OrderTable.deliveredCopies
  rw [packFlags_eq [o.collectedPartial, s.price.amends slot] (width := 2) le_rfl, itemsOf_of_order ho, amends_eq]
  rfl

theorem unitPrice_eq (ho : s.order? slot = some o) {i : Item} {p : TariffEntry}
    (hp : Table.get? s.price.tariff i.sizeIndex = some p) : s.unitPrice slot i = priceOf s o i p := by
  unfold State.unitPrice priceOf TariffEntry.bandPrice sizeCount Surcharges.ofSurface
  rw [hp, itemsOf_of_order ho] <;> rfl

theorem flagByte_eq (b : Bool) : flagByte b = n8 (flagSum [(0, b)]) := by cases b <;> rfl

theorem priceItemRecord_eq (ho : s.order? slot = some o) {i : Item} {p : TariffEntry}
    (hp : Table.get? s.price.tariff i.sizeIndex = some p) : priceItemRecord s slot i = priceItemLayout s o i p := by
  unfold priceItemRecord priceItemLayout State.quotedPrice
  rw [unitPrice_eq ho hp, flagByte_eq]

theorem magazineRecord_eq (m : MagazineRecord) : magazineRecord m = m.layout := by
  unfold magazineRecord MagazineRecord.layout magazineFlags
  rw [packFlags_eq [m.present, m.low] (width := 2) le_rfl]
  rfl

/-! ### READ WEB -/

theorem segmentAt_eq (s : State) (position : Nat) : segmentAt s position = segmentLayout s position := by
  unfold segmentAt segmentLayout
  cases s.web.map[position]? with
  | none => rfl
  | some g =>
    dsimp only
    unfold segmentRecord segmentFlags
    rw [packFlags_eq [g.closed, g.suspect, g.split, g.merged, g.spoiled, g.read, g.preReset] (width := 7) le_rfl]
    unfold State.segmentTicket
    cases hkind : g.kind with
    | print slot n copy => cases ho : s.order? slot <;> simp [Piece.copyBytes, ho, State.free] <;> rfl
    | patch | leader | blank => simp [Piece.copyBytes, State.free] <;> rfl

theorem referenceBytes_eq {reference : List Byte} (h : IsReference s reference) : referenceBytes s = reference := by
  obtain ⟨hsome, hnone⟩ := h
  unfold referenceBytes
  cases href : s.web.reference? with
  | none =>
    rw [hnone ((reference?_eq_none_iff s.web).1 href)]
    rfl
  | some r =>
    obtain ⟨k, g⟩ := r
    obtain ⟨hg, hclosed, hwhole, hahead⟩ := reference?_spec href
    obtain ⟨hk, hgk⟩ := List.getElem?_eq_some_iff.1 hg
    have hmap : s.web.map = s.web.map.take k ++ g :: s.web.map.drop (k + 1) := by
      rw [← hgk, ← List.drop_eq_getElem_cons hk, List.take_append_drop]
    rw [hsome _ g _ hmap hahead hwhole hclosed, List.length_take, min_eq_left hk.le]
    rfl

theorem webPart_eq {reference : List Byte} (h : IsReference s reference) (position : Nat) :
    webPart s position = webLayout s position reference := by
  have hleft : s.web.stage.msLeft s.timeBase = (match s.web.stage with
      | .first e | .second e => (signedDiff e s.timeBase).toNat
      | .off | .expired => 0) := by
    unfold StallStage.msLeft
    cases s.web.stage <;> rfl
  have hstretch : stretchBytes s = (match s.web.unlisted with
      | none => List.replicate 9 0
      | some u => [1] ++ be32 u.start
          ++ if u.length < 4294967296 then n32 u.length else be32 (Config.freeWord (s.freeCount + 2))) := by
    unfold stretchBytes
    cases s.web.unlisted <;> rfl
  unfold webPart webLayout webFlags
  rw [hleft, hstretch, segmentAt_eq, referenceBytes_eq h, packFlags_eq [s.web.stall, s.web.fault.isSome] (width := 2) le_rfl]
  rfl

theorem cutRecordBytes_eq (r : CutRecord) : cutRecordBytes r = r.layout := by
  unfold cutRecordBytes CutRecord.layout
  cases r.deviation <;> rcases r.piece with _ | ⟨_ | _ | _ | _⟩ | _ <;> rfl

theorem readingRecord_eq (r : Reading) : readingRecord r = r.layout := by
  unfold readingRecord Reading.layout unfitness
  rw [packFlags_eq [r.suspect, r.spoiled, r.preReset] (width := 3) le_rfl]
  rfl

theorem densityPart_eq (s : State) : densityPart s = densityLayout s := by
  unfold densityPart densityLayout densityFlags
  rw [packFlags_eq [s.density.fault, s.density.patchUnread] (width := 2) le_rfl]
  rfl

theorem channelsPart_eq (s : State) : channelsPart s = channelsLayout s := by
  have henables : enableFlags s.channel.enabled = flagSum [(0, s.channel.enabled.c0), (1, s.channel.enabled.c1),
      (2, s.channel.enabled.c2)] :=
    packFlags_eq [s.channel.enabled.c0, s.channel.enabled.c1, s.channel.enabled.c2] (width := 3) le_rfl
  unfold channelsPart channelsLayout fetchBytes lastFaultBytes exposureBytes
  rw [henables]
  cases s.fetch.inFlight <;> cases s.fetch.timer <;> cases s.fetch.lastFault <;> cases s.channel.exposure <;> rfl

end

theorem fieldValues : FieldValues := by
  refine ⟨rfl, rfl, rfl, rfl, rfl, rfl, rfl, rfl, rfl, rfl, fun _ _ _ => rfl, rfl, rfl, fun _ => rfl, rfl, rfl, rfl, rfl,
    fun _ => rfl, rfl, rfl⟩

/-! ## The requests -/

/-- Log entry 3: whatever the part, READ WEB uses up four free values. -/
theorem serveReadWeb_taken {s : State} {reference fields : List Byte} {position part : Byte} (href : IsReference s reference)
    (hposition : position.toNat ≤ 127)
    (hpart : (part, fields) ∈
      [(0#8, webLayout s position.toNat reference),
       (1#8, match s.web.lastCut with
          | none => List.replicate 21 0
          | some r => [1] ++ r.layout),
       (2#8, densityLayout s),
       (3#8, match s.density.lastReading with
          | none => List.replicate 22 0
          | some r => [1] ++ r.layout),
       (4#8, channelsLayout s)]) :
    serveReadWeb position part s = ({ s with freeCount := s.freeCount + 4 }, .taken false fields) := by
  have hcut : lastCutPart s = (match s.web.lastCut with
      | none => List.replicate 21 0
      | some r => [1] ++ r.layout) := by
    unfold lastCutPart
    cases s.web.lastCut with
    | none => rfl
    | some r => exact congrArg ([1] ++ ·) (cutRecordBytes_eq r)
  have hreading : lastReadingPart s = (match s.density.lastReading with
      | none => List.replicate 22 0
      | some r => [1] ++ r.layout) := by
    unfold lastReadingPart
    cases s.density.lastReading with
    | none => rfl
    | some r => exact congrArg ([1] ++ ·) (readingRecord_eq r)
  have hserve : ∀ n, part.toNat = n → n ≤ 4 →
      serveReadWeb position part s = ({ s with freeCount := s.freeCount + 4 }, .taken false (webReply s position.toNat n)) := by
    intro n hn hle
    rw [serveReadWeb, if_neg (by omega), if_neg (by omega), hn]
  simp only [List.mem_cons, Prod.mk.injEq, List.not_mem_nil, or_false] at hpart
  obtain ⟨rfl, rfl⟩ | ⟨rfl, rfl⟩ | ⟨rfl, rfl⟩ | ⟨rfl, rfl⟩ | ⟨rfl, rfl⟩ := hpart
  · rw [hserve 0 rfl (by decide), ← webPart_eq href]
    rfl
  · rw [hserve 1 rfl (by decide), ← hcut]
    rfl
  · rw [hserve 2 rfl (by decide), ← densityPart_eq]
    rfl
  · rw [hserve 3 rfl (by decide), ← hreading]
    rfl
  · rw [hserve 4 rfl (by decide), ← channelsPart_eq]
    rfl

theorem onlyChanges_freeCount (s : State) (n : Nat) : OnlyChanges [.freeCount] s { s with freeCount := n } := by
  intro p hp
  cases p <;> simp_all [Same, State.port]

theorem onlyChanges_read (s : State) (link : Link) (r : Reply) : OnlyChanges [.port link] s (s.answered link (s, r)) :=
  onlyChanges_answered (onlyChanges_mono (onlyChanges_refl [] s) (by simp)) (by simp) (.inr ⟨rfl, rfl, rfl⟩)

/-- Settles O32. -/
theorem readsAnswerAndChangeNothing : Obligations.ReadsAnswerAndChangeNothing := by
  refine ⟨fieldValues, fun s link ticket slot o htaking hnames => ?_,
    fun s ticket item slot o htaking hnames => ⟨fun hbad => ?_, fun r i hr hi => ?_⟩,
    fun s index htaking => ⟨fun hbad => ?_, fun e hindex he => ?_⟩,
    fun s bin htaking => ⟨fun hbad => ?_, fun b hmin hmax hb => ?_⟩,
    fun s ticket item slot o htaking hnames => ⟨fun hall => ?_, fun hitem hbad => ?_, fun r i p hitem hr hi hp => ?_⟩,
    fun s htaking => ?_, fun s leader due htaking hexposed hwaiting hdue hnot => ?_,
    fun s position part htaking => ⟨fun hbad => ?_, fun reference fields hposition href hpart => ?_⟩⟩
  · have ho := order?_of_names hnames
    obtain ⟨hexec, hreplied⟩ := answered_of_served (c := .readOrder link ticket) (t := s)
      (r := .taken false (orderLayout s slot o)) rfl htaking (by cases link <;> rfl) rfl (by
        rw [serveReadOrder, withOrder_of_names hnames, orderRecord_eq])
    exact ⟨_, hexec, hreplied, onlyChanges_read s link _⟩
  · refine refusedWith_of_refuse rfl htaking rfl rfl ?_
    rw [serveReadItem, withOrder_of_names hnames, if_pos hbad]
  · have ho := order?_of_names hnames
    obtain ⟨hlt, -⟩ := List.getElem?_eq_some_iff.1 hr
    obtain ⟨hexec, hreplied⟩ := answered_of_served (c := .readItem .order ticket item) (t := s)
      (r := .taken false i.layout) rfl htaking rfl rfl (by
        rw [serveReadItem, withOrder_of_names hnames, if_neg (by omega), (item?_of_order ho hr).trans hi, ← itemRecord_eq])
    exact ⟨_, hexec, hreplied, onlyChanges_read s .order _⟩
  · refine refusedWith_of_refuse rfl htaking rfl rfl ?_
    rw [serveReadSize, if_pos hbad]
  · obtain ⟨hexec, hreplied⟩ := answered_of_served (c := .readSize .order index) (t := s)
      (r := .taken false e.layout) rfl htaking rfl rfl (by
        rw [serveReadSize, if_neg (by omega), he, ← sizeRecord_eq])
    exact ⟨_, hexec, hreplied, onlyChanges_read s .order _⟩
  · refine refusedWith_of_refuse rfl htaking rfl rfl ?_
    rw [serveReadBin, binNumber?_eq_none hbad]
  · obtain ⟨hexec, hreplied⟩ := answered_of_served (c := .readBin .till bin) (t := s)
      (r := .taken false (binLayout s b)) rfl htaking rfl rfl (by
        rw [serveReadBin, binNumber?_eq_some hmin hmax, ← binRecord_eq]
        dsimp only
        rw [hb])
    exact ⟨_, hexec, hreplied, onlyChanges_read s .till _⟩
  · have ho := order?_of_names hnames
    obtain ⟨hexec, hreplied⟩ := answered_of_served (c := .readPrice .till ticket item) (t := s)
      (r := .taken false (priceLayout s slot o)) rfl htaking rfl rfl (by
        rw [serveReadPrice, withOrder_of_names hnames, if_pos hall, priceRecord_eq ho])
    exact ⟨_, hexec, hreplied, onlyChanges_read s .till _⟩
  · refine refusedWith_of_refuse rfl htaking rfl rfl ?_
    rw [serveReadPrice, withOrder_of_names hnames, if_neg hitem, if_pos hbad]
  · have ho := order?_of_names hnames
    obtain ⟨hlt, -⟩ := List.getElem?_eq_some_iff.1 hr
    obtain ⟨hexec, hreplied⟩ := answered_of_served (c := .readPrice .till ticket item) (t := s)
      (r := .taken false (priceLayout s slot o ++ priceItemLayout s o i p)) rfl htaking rfl rfl (by
        rw [serveReadPrice, withOrder_of_names hnames, if_neg hitem, if_neg (by omega), (item?_of_order ho hr).trans hi]
        dsimp only
        rw [priceRecord_eq ho, priceItemRecord_eq ho hp])
    exact ⟨_, hexec, hreplied, onlyChanges_read s .till _⟩
  · obtain ⟨hexec, hreplied⟩ := answered_of_served (c := .readTotals .till) (t := s) rfl htaking rfl rfl rfl
    refine ⟨_, hexec, ?_, onlyChanges_read s .till _⟩
    unfold totalsFlags at hreplied ⊢
    rw [packFlags_eq [s.price.lock, s.price.amendment.isSome, s.price.closedDay.read] (width := 3) le_rfl] at hreplied ⊢
    exact hreplied
  · have hleader : s.leaderState = leader := by
      unfold State.leaderState
      split
      · next h => exact (hexposed h).symm
      · next h => exact (hwaiting (Bool.eq_false_iff.2 h)).symm
    have hflag : flagByte s.patchDue = [due] := by
      unfold flagByte
      by_cases h : s.patchDue = true
      · rw [if_pos h, hdue ((patchDue_iff s).1 h)]
        rfl
      · rw [if_neg h, hnot fun hd => h ((patchDue_iff s).2 hd)]
        rfl
    obtain ⟨hexec, hreplied⟩ := answered_of_served (c := .readMagazine .engine) (t := s)
      (r := .taken false (s.scheduler.magA.layout ++ s.scheduler.magB.layout
              ++ [magazineByte s.scheduler.active, magazineByte s.scheduler.switchRequested, leader]
              ++ n8 s.scheduler.patchCounter ++ [due])) rfl htaking rfl rfl (by
        rw [serveReadMagazine, magazineRecord_eq, magazineRecord_eq, hleader, hflag])
    exact ⟨_, hexec, hreplied, onlyChanges_read s .engine _⟩
  · refine refusedWith_of_refuse rfl htaking rfl rfl ?_
    unfold serveReadWeb
    by_cases h : position.toNat > 127
    · rw [if_pos h]
    · rw [if_neg h, if_pos (hbad.resolve_left h)]
  · obtain ⟨hexec, hreplied⟩ := answered_of_served (c := .readWeb .engine position part)
      (t := { s with freeCount := s.freeCount + 4 }) (r := .taken false fields) rfl htaking rfl rfl
      (serveReadWeb_taken href (by omega) hpart)
    exact ⟨_, hexec, hreplied, onlyChanges_answered (onlyChanges_mono (onlyChanges_freeCount s _) (by decide)) (by decide)
      (.inr ⟨rfl, rfl, rfl⟩)⟩

end Sys2Proof.Reads

/-! The geometry of a print: O59. -/

namespace Sys2Proof.Image

open Sys2Proof.Machine Sys2Proof.Laws

theorem isGeometry_iff {mode : Mode} {ws hs wp lp : Nat} {g : Geometry} (hwp : 0 < wp) (hlp : 0 < lp) :
    IsGeometry mode ws hs wp lp g ↔ g = geometryOf mode ws hs wp lp := by
  constructor
  · rintro ⟨step0, step, h0, hlevel, hw, hh, hstep, hclamp, hox, hoy⟩
    obtain rfl := (isStep_iff hwp hlp).1 h0
    obtain rfl := (isStep_iff hwp hlp).1 hstep
    change g.level = fetchLevel _ at hlevel
    obtain ⟨level, wsN, hsN, gstep, ox, oy⟩ := g
    dsimp only at hlevel hw hh hclamp hox hoy
    subst hlevel hw hh hclamp hox hoy
    rfl
  · rintro rfl
    exact ⟨_, _, (isStep_iff hwp hlp).2 rfl, rfl, rfl, rfl, (isStep_iff hwp hlp).2 rfl, rfl, rfl, rfl⟩

/-- R57, R60, R61: of an extent that steps evenly over no more than the dimension, the centred positions lie inside it. -/
theorem inside_of_steps {dim step extent n : Nat} (hstep : 0 < step) (hfits : step * extent ≤ dim * 65536) (hn : n < extent) :
    Inside dim (offsetOf dim step extent + n * step) := by
  have hspan : step * n + step ≤ step * extent := by
    calc step * n + step = step * (n + 1) := by ring
      _ ≤ step * extent := Nat.mul_le_mul_left _ hn
  unfold Inside offsetOf
  have hslack : (0 : Int) ≤ dim * 65536 - step * extent := Int.sub_nonneg_of_le (by exact_mod_cast hfits)
  rw [Int.tdiv_eq_ediv_of_nonneg hslack]
  have hcomm : (n : Int) * step = ((step * n : Nat) : Int) := by push_cast; ring
  have hcast : (step : Int) * extent = ((step * extent : Nat) : Int) := by push_cast; ring
  rw [hcomm, hcast]
  generalize step * n = position at hspan ⊢
  generalize step * extent = whole at hspan hfits ⊢
  omega

/-- Settles O59. -/
theorem fillPositionsLieInside : Obligations.FillPositionsLieInside := by
  intro ws hs wp lp _ _ _ _ hwp _ hlp _
  refine ⟨fun mode g => isGeometry_iff hwp hlp, fun g step j k hg hstep hlow hj hk => ?_⟩
  obtain ⟨_, gstep, _, _, _, _, hgstep, hclamp, hox, hoy⟩ := hg
  have hsteps : gstep = step := hgstep.trans hstep.symm
  have hle : g.step ≤ step := by omega
  have hacross : step ≤ g.wsN * 65536 / wp := hstep.trans_le (Nat.min_le_left _ _)
  have halong : step ≤ g.hsN * 65536 / lp := hstep.trans_le (Nat.min_le_right _ _)
  have hx : Inside g.wsN (g.ox + j * g.step) := by
    rw [hox]
    exact inside_of_steps (by omega) ((Nat.le_div_iff_mul_le hwp).1 (hle.trans hacross)) hj
  have hy : Inside g.hsN (g.oy + k * g.step) := by
    rw [hoy]
    exact inside_of_steps (by omega) ((Nat.le_div_iff_mul_le hlp).1 (hle.trans halong)) hk
  exact ⟨hx, hy, (insideDim_iff _ _).2 hx, (insideDim_iff _ _).2 hy⟩

end Sys2Proof.Image

/-! The line strobe: what every strobe does, and missed-cut detection. O42. -/

namespace Sys2Proof.StrobeRules

open Sys2Proof.Machine Sys2Proof.Laws Sys2Proof.OrdersAndItems Sys2Proof.Magazines Sys2Proof.Sorting Sys2Proof.Till
open Sys2Proof.Steps Sys2Proof.WebMap Sys2Proof.Controls

/-! ## The roll and the stall monitor -/

theorem exec_lineStrobe (s : State) : exec .lineStrobe s = .next (s.noteCauses (strobeLined s).detectMissedCuts) := rfl

theorem magazine_setMagazine (sch : Scheduler) (m k : Magazine) (r : MagazineRecord) :
    (sch.setMagazine m r).magazine k = if m = k then r else sch.magazine k := by
  cases m <;> cases k <;> rfl

/-- R49: a strobe takes one from the active magazine's roll. -/
theorem magazine_countPaper (sch : Scheduler) (m : Magazine) : sch.countPaper.magazine m =
    if sch.active = some m ∧ (sch.magazine m).present = true then
      { sch.magazine m with
        remaining := (sch.magazine m).remaining - 1
        low := decide ((sch.magazine m).remaining - 1 ≤ sch.endReserve) }
    else sch.magazine m := by
  unfold Scheduler.countPaper
  cases hactive : sch.active with
  | none => simp
  | some k =>
    dsimp only
    by_cases hk : k = m
    · subst hk
      by_cases hpresent : (sch.magazine k).present = true
      · rw [if_pos hpresent, if_pos ⟨rfl, hpresent⟩, magazine_setMagazine, if_pos rfl, MagazineRecord.withLow]
        simp only [hpresent, Bool.true_and]
      · rw [if_neg hpresent, if_neg (not_and_of_not_right _ hpresent)]
    · rw [if_neg (c := some k = some m ∧ (sch.magazine m).present = true)
        (not_and_of_not_left _ fun h => hk (Option.some.inj h))]
      split
      · rw [magazine_setMagazine, if_neg hk]
      · rfl

theorem magazine_of_same {s t : State} (h : Same s t .magazines) (m : Magazine) :
    t.scheduler.magazine m = s.scheduler.magazine m := by
  cases m
  · exact h.1
  · exact h.2

/-- R113: wherever the paper goes, a strobe leaves a segment in the map. -/
theorem map_strobePlaced_ne_nil (s : State) : (strobePlaced s).exposeStrobe.web.map ≠ [] := by
  rw [Ne, exposeStrobe_map_eq_nil]
  refine placeStrobe_map_ne_nil fun hbegins => ?_
  have := startVerdict_begins hbegins
  simpa [hbegins] using this

theorem magazine_strobe (s : State) (m : Magazine) : s.strobe.scheduler.magazine m =
    if s.scheduler.active = some m ∧ (s.scheduler.magazine m).present = true then
      { s.scheduler.magazine m with
        remaining := (s.scheduler.magazine m).remaining - 1
        low := decide ((s.scheduler.magazine m).remaining - 1 ≤ s.scheduler.endReserve) }
    else s.scheduler.magazine m := by
  have hframe := onlyChanges_strobePlaced_exposeStrobe s
  rw [strobe_eq, magazine_of_same (onlyChanges_detectMissedCuts _ .magazines (by decide)) m]
  refine (magazine_countPaper _ m).trans ?_
  rw [hframe .active (by decide), (hframe .paperSettings (by decide)).2,
    magazine_of_same (hframe .magazines (by decide)) m]

/-- R128: the stall monitor at a strobe. -/
theorem stall_strobe (s : State) :
    (s.web.stage ≠ .off ∨ s.web.map = [] ∧ s.web.transport = .run →
        s.strobe.web.stage = .first (s.timeBase + BitVec.ofNat 32 s.web.stallTime) ∧ s.strobe.web.stall = false)
      ∧ (s.web.stage = .off → s.web.map ≠ [] ∨ s.web.transport = .stop → Same s s.strobe .stall) := by
  have hframe := onlyChanges_strobePlaced_exposeStrobe s
  obtain ⟨hstage, hstall⟩ := hframe .stall (by decide)
  have htransport := hframe .transport (by decide)
  obtain ⟨hstage', hstall'⟩ := onlyChanges_detectMissedCuts (strobeLined s) .stall (by decide)
  have hnow : later (strobePlaced s).exposeStrobe.timeBase (strobePlaced s).exposeStrobe.web.stallTime
      = s.timeBase + BitVec.ofNat 32 s.web.stallTime := by
    rw [hframe .timeBase (by decide), hframe .stallTime (by decide)]
    rfl
  have hweb : (strobeLined s).web = (strobePlaced s).exposeStrobe.web.restartStall
      (strobePlaced s).exposeStrobe.timeBase s.web.map.isEmpty := rfl
  have hmap : (strobePlaced s).exposeStrobe.web.map.isEmpty = false := by simpa using map_strobePlaced_ne_nil s
  rw [strobe_eq, Same, hstage', hstall', hweb, Web.restartStall, hstage, hmap, htransport]
  by_cases hoff : s.web.stage = .off
  · rw [if_neg (not_not.2 hoff)]
    constructor
    · rintro (hon | ⟨hnil, hrun⟩)
      · exact absurd hoff hon
      · rw [if_pos (by simp [hnil, hrun])]
        exact ⟨congrArg StallStage.first hnow, rfl⟩
    · rintro - hstays
      rw [if_neg (by simpa [or_iff_not_imp_left] using fun hnil hrun => by simp_all)]
      exact ⟨hstage, hstall⟩
  · rw [if_pos hoff]
    exact ⟨fun _ => ⟨congrArg StallStage.first hnow, rfl⟩, fun h => absurd h hoff⟩

/-- The state of a strobe before its paper is placed. -/
def strobeReady (s : State) : State :=
  let s1 := s.dropZeroLeader
  let s2 := if s1.startVerdict = .misfit then s1.voidSelection else s1
  { s2 with web := { s2.web with odometer := s2.web.odometer + 1, mark := false } }

theorem strobePlaced_eq (s : State) : strobePlaced s = (strobeReady s).placeStrobe s.dropZeroLeader.startVerdict := rfl

/-- R113: before its paper is placed, a strobe has counted the odometer and lowered the mark. -/
theorem strobeReady_web (s : State) :
    (strobeReady s).web = { s.web with odometer := s.web.odometer + 1, mark := false } := by
  unfold strobeReady
  dsimp only
  split
  · unfold State.voidSelection
    split <;> rfl
  · rfl

theorem odometer_strobeLined (s : State) : (strobeLined s).web.odometer = s.web.odometer + 1 := by
  have hline := onlyChanges_trans (onlyChanges_placeStrobe (strobeReady s) s.dropZeroLeader.startVerdict)
    (onlyChanges_trans (onlyChanges_exposeStrobe (strobePlaced s)) (onlyChanges_rolled _ s.web.map.isEmpty))
  exact (hline .odometer (by decide)).trans (by rw [strobeReady_web])

/-- Settles O42. -/
theorem everyStrobeAdvancesOdometerAndRoll : Obligations.EveryStrobeAdvancesOdometerAndRoll := by
  intro s
  obtain ⟨hruns, hstays⟩ := stall_strobe s
  have hodometer := (onlyChanges_detectMissedCuts (strobeLined s) .odometer (by decide)).trans (odometer_strobeLined s)
  exact ⟨_, rfl, hodometer, magazine_strobe s, hruns, hstays,
    onlyChanges_noted (onlyChanges_strobe s) (.inl (by decide))⟩

end Sys2Proof.StrobeRules

/-! Missed-cut detection, and the strobes that begin or expose nothing. O43. -/

namespace Sys2Proof.IdleStrobes

open Sys2Proof.Machine Sys2Proof.Laws Sys2Proof.OrdersAndItems Sys2Proof.Magazines Sys2Proof.Sorting Sys2Proof.Till
open Sys2Proof.Steps Sys2Proof.WebMap Sys2Proof.Registry Sys2Proof.Controls Sys2Proof.StrobeRules

/-! ## Missed-cut detection -/

theorem exposedTail_iff (w : Web) : ExposedTail w.map ↔ w.exposureAtTail = true ∨ w.leaderExposed = true := by
  rcases w.map.eq_nil_or_concat with hnil | ⟨init, g, hmap⟩
  · simp [ExposedTail, Web.exposureAtTail, Web.leaderExposed, hnil]
  · rw [List.concat_eq_append] at hmap
    rw [exposureAtTail_concat hmap, leaderExposed_concat hmap]
    have htail : ExposedTail w.map ↔ g.closed = false ∧ g.kind ≠ .blank := by
      constructor
      · rintro ⟨ahead, k, h, hopen⟩
        obtain ⟨-, rfl⟩ := List.append_singleton_inj.1 (hmap.symm.trans h)
        exact hopen
      · exact fun h => ⟨init, g, hmap, h⟩
    rw [htail, Segment.isOpenExposure, Segment.isOpenLeader]
    cases g.kind <;> simp

theorem exposedTail_of_outline {a b : List Segment} (h : outline a = outline b) : ExposedTail a ↔ ExposedTail b := by
  have hlast : a.getLast?.map mark = b.getLast?.map mark := by rw [← getLast?_outline, ← getLast?_outline, h]
  have hone {a b : List Segment} (hlast : a.getLast?.map mark = b.getLast?.map mark) : ExposedTail a → ExposedTail b := by
    rintro ⟨ahead, g, rfl, hopen, hkind⟩
    rw [List.getLast?_concat, Option.map_some, eq_comm, Option.map_eq_some_iff] at hlast
    obtain ⟨k, hk, hmark⟩ := hlast
    obtain ⟨init, rfl⟩ := List.getLast?_eq_some_iff.1 hk
    have hk : k.kind = g.kind ∧ k.closed = g.closed := by simpa [mark] using hmark
    exact ⟨init, k, rfl, hk.2.trans hopen, by rw [hk.1]; exact hkind⟩
  exact ⟨hone hlast, hone hlast.symm⟩

theorem mapLast_abandon_of_not_exposed {map : List Segment} (h : ¬ ExposedTail map) :
    mapLast (fun g => if g.kind = .blank then g else { g with closed := true }) map = map := by
  rcases map.eq_nil_or_concat with rfl | ⟨init, g, rfl⟩
  · rfl
  · rw [List.concat_eq_append, mapLast_concat]
    split
    · rfl
    · next hblank =>
      have hclosed : g.closed = true := by
        by_contra hopen
        exact h ⟨init, g, List.concat_eq_append, Bool.eq_false_iff.2 hopen, hblank⟩
      rw [← hclosed]

/-- R122: missed-cut detection where the exposure record agrees with the tail of the map. -/
theorem detectMissedCuts_cases {t : State} {after : List Segment} (hexposing : t.exposing = t.web.exposureAtTail)
    (hafter : after = mergePassed t.web.lpath t.web.odometer t.web.map) :
    (LosesSync t t.web.map after → SyncLost after t.detectMissedCuts)
      ∧ (¬ LosesSync t t.web.map after → t.detectMissedCuts =
          { t with web := { t.web with map := if t.web.fault.isSome then t.web.map else after } }) := by
  unfold State.detectMissedCuts
  by_cases hfault : t.web.fault.isSome = true
  · rw [if_pos hfault, if_pos hfault]
    exact ⟨fun hloses => by simp [hloses.1] at hfault, fun _ => rfl⟩
  · have hnone : t.web.fault = none := by simpa using hfault
    have hquiet : (t.exposing = false ∧ t.web.leaderExposed = false) ↔ ¬ ExposedTail after := by
      rw [hafter, exposedTail_of_outline (outline_mergePassed _ _ _), exposedTail_iff, hexposing]
      simp
    rw [if_neg hfault, if_neg hfault, ← hafter]
    dsimp only
    have hloses : (after ≠ t.web.map ∧ Web.reference? { t.web with map := after } = none ∧ after.length = 128
        ∧ t.exposing = false ∧ t.web.leaderExposed = false) ↔ LosesSync t t.web.map after := by
      rw [reference?_eq_none_iff, hquiet, LosesSync]
      exact (and_iff_right hnone).symm
    constructor
    · intro h
      rw [if_pos (hloses.2 h)]
      obtain ⟨hraised, hmap, hwork, hselection, hqueue, hexposure, hpending⟩ :=
        raiseWebFault_flushes (s := { t with web := { t.web with map := after } }) .syncLost hnone
      obtain ⟨-, -, -, -, hidle⟩ := h
      dsimp only at hmap
      rw [mapLast_abandon_of_not_exposed hidle] at hmap
      exact ⟨hraised, hmap, hwork, hselection, hqueue, hexposure, hpending⟩
    · intro h
      rw [if_neg (fun hc => h (hloses.1 hc))]

/-! ## What becomes of the standing selection -/

/-- R42, R52, R86: a leader of length 0 that could open is gone before the selection is looked at (log entry 9). -/
theorem mayStart_dropZeroLeader (s : State) (n : Nat) : s.dropZeroLeader.mayStart n = true ↔ WouldBegin s n := by
  have hstart : s.dropZeroLeader.startConditions = s.startConditions := rfl
  rw [mayStart_iff, WouldBegin, hstart, startConditions_iff, ← linesReady_iff]
  refine and_congr_right fun hs => and_congr ?_ (and_congr Iff.rfl (and_congr ?_ Iff.rfl))
  · obtain ⟨hroom, hfault⟩ := room_of_startConditions ((startConditions_iff s).2 hs)
    show (s.scheduler.leaderPending && !(s.leaderMayOpen && s.scheduler.leaderLength == 0)) = false ↔ _
    cases hpending : s.scheduler.leaderPending <;> simp [State.leaderMayOpen, hpending, hroom, hfault]
  · show s.channel.exposure.isSome = false ↔ _
    simp

/-- R42: the verdict on the standing selection, by whether it fits. -/
theorem startVerdict_eq_iff (s : State) (fits : Bool) :
    s.dropZeroLeader.startVerdict = (if fits then .begins else .misfit) ↔ SelectionTested s fits := by
  have hverdict (may test : Bool) : (if may = true then (if test = true then StartVerdict.begins else .misfit) else .waits)
      = (if fits then .begins else .misfit) ↔ may = true ∧ (fits = true ↔ test = true) := by
    cases may <;> cases test <;> cases fits <;> simp
  have hselection : s.dropZeroLeader.scheduler.selection = s.scheduler.selection := rfl
  have hactive : s.dropZeroLeader.scheduler.activeRecord? = s.scheduler.active.map s.scheduler.magazine := rfl
  have htable : s.dropZeroLeader.orderTable = s.orderTable := rfl
  have hwaits : StartVerdict.waits ≠ if fits then .begins else .misfit := by cases fits <;> simp
  unfold State.startVerdict
  rw [hselection, hactive, htable]
  constructor
  · intro h
    split at h
    · next m hpatch hm =>
      obtain ⟨active, ha, rfl⟩ := Option.map_eq_some_iff.1 hm
      obtain ⟨hmay, hfits⟩ := (hverdict _ _).1 h
      exact ⟨active, ha, .inl ⟨hpatch, (mayStart_dropZeroLeader s 100).1 hmay, hfits.trans decide_eq_true_iff⟩⟩
    · next slot n copy m hprint hm =>
      obtain ⟨active, ha, rfl⟩ := Option.map_eq_some_iff.1 hm
      split at h
      · next i hi =>
        obtain ⟨o, r, ho, hr, hir⟩ := order?_of_item? hi
        split at h
        · next e he =>
          obtain ⟨hmay, hfits⟩ := (hverdict _ _).1 h
          exact ⟨active, ha, .inr ⟨slot, n, copy, o, r, i, e, hprint, ho, hr, hir, he,
            (mayStart_dropZeroLeader s e.lp).1 hmay, hfits.trans (fits_iff _ _ _ _)⟩⟩
        · exact absurd h hwaits
      · exact absurd h hwaits
    · exact absurd h hwaits
  · rintro ⟨active, ha, ⟨hpatch, hbegin, hfits⟩ | ⟨slot, n, copy, o, r, i, e, hprint, ho, hr, hi, he, hbegin, hfits⟩⟩
    · rw [hpatch, ha]
      exact (hverdict _ _).2 ⟨(mayStart_dropZeroLeader s 100).2 hbegin, hfits.trans decide_eq_true_iff.symm⟩
    · have hsize : s.orderTable.sizeOf? i = some e := he
      rw [hprint, ha]
      simp only [Option.map_some, (item?_of_order ho hr).trans hi, hsize]
      exact (hverdict _ _).2 ⟨(mayStart_dropZeroLeader s e.lp).2 hbegin, hfits.trans (fits_iff _ _ _ _).symm⟩

/-! ## Where the paper of an idle strobe goes -/

section
variable {w : Web}

theorem leaderEnds_concat {init : List Segment} {g : Segment} (h : w.map = init ++ [g]) :
    w.leaderEnds = (g.isOpenLeader && decide (w.leaderTarget ≤ g.length)) := by simp [Web.leaderEnds, h]

/-- R114, case 2: a leader opens with its first strobe. -/
theorem openLeader_laid (w : Web) (target : Nat) :
    mapLast (Segment.closeLeader target) (w.openSegment .leader).map =
        mapLast Segment.closeBlank w.map ++
          [{ kind := .leader, start := w.odometer, length := 1, closed := decide (target ≤ 1), suspect := false
             split := false, merged := false, spoiled := false, read := false, preReset := false }]
      ∧ Web.leaderEnds { w.openSegment .leader with leaderTarget := target } = decide (target ≤ 1) := by
  refine ⟨mapLast_concat _ _ _, ?_⟩
  rw [leaderEnds_concat (w := { w.openSegment .leader with leaderTarget := target }) rfl]
  exact Bool.true_and _

theorem placePaper_of_open {init : List Segment} {g : Segment} (hmap : w.map = init ++ [g]) (hopen : g.closed = false) :
    w.placePaper = { w with map := init ++ [g.grow] } := by
  simp [Web.placePaper, hmap, hopen]

theorem mapLast_closeBlank_of_closed {map : List Segment} (h : ∀ g ∈ map, g.closed = true) :
    mapLast Segment.closeBlank map = map := by
  rcases map.eq_nil_or_concat with rfl | ⟨init, g, rfl⟩
  · rfl
  · rw [List.concat_eq_append, mapLast_concat, Segment.closeBlank, ← h g (by simp), ite_self]

/-- R114, cases 3 to 5: no segment is open. -/
theorem placePaper_of_closed (h : ∀ g ∈ w.map, g.closed = true) : w.placePaper =
    if w.map.length < 128 then { w with map := w.map ++ [Segment.opened .blank w.odometer], mark := true }
    else w.growStretch := by
  have hopened : w.openSegment .blank = { w with map := w.map ++ [Segment.opened .blank w.odometer], mark := true } := by
    rw [Web.openSegment, mapLast_closeBlank_of_closed h]
  unfold Web.placePaper
  split
  · next g hlast => rw [if_pos (h g (List.mem_of_getLast? hlast)), hopened]
  · next hnil => rw [hopened, if_pos (by simp [List.getLast?_eq_none_iff.1 hnil])]

theorem closeLeader_of_closed {target : Nat} {g : Segment} (h : g.closed = true) : g.closeLeader target = g := by
  rw [Segment.closeLeader, h, Bool.true_or, ← h]

theorem mapLast_closeLeader_of_closed {target : Nat} {map : List Segment} (h : ∀ g ∈ map, g.closed = true) :
    mapLast (Segment.closeLeader target) map = map := by
  rcases map.eq_nil_or_concat with rfl | ⟨init, g, rfl⟩
  · rfl
  · rw [List.concat_eq_append, mapLast_concat, closeLeader_of_closed (h g (by simp))]

theorem leaderEnds_of_closed (h : ∀ g ∈ w.map, g.closed = true) : w.leaderEnds = false := by
  unfold Web.leaderEnds
  split
  · next g hlast => simp [Segment.isOpenLeader, h g (List.mem_of_getLast? hlast)]
  · rfl

end

/-! ## The state an idle strobe leaves -/

theorem onlyChanges_strobeReady (s : State) : OnlyChanges [.leaderPending, .odometer, .mark, .selection, .attemptCause,
    .lineQueue, .work, .rows, .fetch] s (strobeReady s) := by
  have hdrop : OnlyChanges [.leaderPending] s s.dropZeroLeader := by
    intro p hp
    cases p <;> simp_all [Same, State.port]
  have hvoid (t : State) (voids : Prop) [Decidable voids] :
      OnlyChanges [.selection, .attemptCause, .lineQueue, .work, .rows, .fetch] t
        (if voids then t.voidSelection else t) := by
    split
    · exact onlyChanges_voidSelection t
    · exact onlyChanges_refl _ _
  have hodometer (t : State) : OnlyChanges [.odometer, .mark] t
      { t with web := { t.web with odometer := t.web.odometer + 1, mark := false } } := by
    intro p hp
    cases p <;> simp_all [Same, State.port]
  exact onlyChanges_mono (onlyChanges_trans (onlyChanges_trans hdrop
    (hvoid _ (s.dropZeroLeader.startVerdict = .misfit))) (hodometer _)) (by decide)

theorem leaderPending_strobeReady (s : State) : (strobeReady s).scheduler.leaderPending =
    (s.scheduler.leaderPending
      && !(s.web.fault.isNone && decide (s.web.map.length < 128) && s.scheduler.leaderLength == 0)) := by
  have hdropped : (strobeReady s).scheduler.leaderPending = s.dropZeroLeader.scheduler.leaderPending := by
    unfold strobeReady
    dsimp only
    split
    · exact onlyChanges_voidSelection _ .leaderPending (by decide)
    · rfl
  rw [hdropped]
  unfold State.dropZeroLeader State.leaderMayOpen
  cases s.scheduler.leaderPending <;> cases s.web.fault.isNone <;> simp

/-- R52: a leader opens at this strobe unless a selection begins. -/
theorem leaderMayOpen_strobeReady (s : State) : (strobeReady s).leaderMayOpen = true ↔
    s.scheduler.leaderPending = true ∧ s.web.fault = none ∧ s.web.map.length < 128 ∧ s.scheduler.leaderLength ≠ 0 := by
  rw [leaderMayOpen_iff, leaderPending_strobeReady, strobeReady_web]
  constructor
  · rintro ⟨hpending, hroom, hfault⟩
    have hnone : s.web.fault = none := hfault
    obtain ⟨hstands, hlength⟩ : s.scheduler.leaderPending = true ∧ s.scheduler.leaderLength ≠ 0 := by
      simpa [hnone, show s.web.map.length < 128 from hroom] using hpending
    exact ⟨hstands, hnone, hroom, hlength⟩
  · rintro ⟨hpending, hfault, hroom, hlength⟩
    exact ⟨by simp [hpending, hlength], hroom, hfault⟩

/-- The web of a strobe that begins nothing, once its paper is placed. -/
def idlePaper (s : State) : Web :=
  if (strobeReady s).leaderMayOpen then
    { (strobeReady s).web.openSegment .leader with leaderTarget := s.scheduler.leaderLength }
  else (strobeReady s).web.placePaper

/-- The state of a strobe that exposes nothing but a leader, before the roll and the stall monitor. -/
def idleLined (s : State) : State :=
  { strobeReady s with
    web := { idlePaper s with map := mapLast (Segment.closeLeader (idlePaper s).leaderTarget) (idlePaper s).map }
    channel := { (strobeReady s).channel with heads := Codes.blank, lastStrobeEnded := (idlePaper s).leaderEnds }
    scheduler := { (strobeReady s).scheduler with
      leaderPending := (strobeReady s).scheduler.leaderPending && !(strobeReady s).leaderMayOpen } }

theorem strobeLined_idle {s : State} (hidle : s.channel.exposure = none) (hverdict : s.dropZeroLeader.startVerdict ≠ .begins) :
    strobeLined s = { idleLined s with
      scheduler := (idleLined s).scheduler.countPaper
      web := (idleLined s).web.restartStall (idleLined s).timeBase s.web.map.isEmpty } := by
  have hready := onlyChanges_strobeReady s
  have hexposure : (strobeReady s).channel.exposure = none := (hready .exposure (by decide)).trans hidle
  have hlength : (strobeReady s).scheduler.leaderLength = s.scheduler.leaderLength := (hready .paperSettings (by decide)).1
  have hlined : (strobePlaced s).exposeStrobe = idleLined s := by
    rw [strobePlaced_eq, State.placeStrobe, if_neg hverdict]
    unfold idleLined idlePaper
    split
    · next hmay =>
      unfold State.openLeader State.exposeStrobe
      rw [hmay]
      simp [hexposure, hlength]
    · next hmay =>
      unfold State.exposeStrobe
      rw [Bool.eq_false_iff.2 hmay]
      simp [hexposure]
  rw [strobeLined, hlined]

/-- R52, R114 case 2: a strobe at which the pending leader opens. -/
theorem idleLined_of_leader {s : State} (hmay : (strobeReady s).leaderMayOpen = true) :
    (idleLined s).web.map = mapLast Segment.closeBlank s.web.map ++
        [{ kind := .leader, start := s.web.odometer + 1, length := 1, closed := decide (s.scheduler.leaderLength ≤ 1)
           suspect := false, split := false, merged := false, spoiled := false, read := false, preReset := false }]
      ∧ (idleLined s).scheduler.leaderPending = false ∧ (idleLined s).web.leaderTarget = s.scheduler.leaderLength
      ∧ (idleLined s).web.mark = true
      ∧ (idleLined s).channel.lastStrobeEnded = decide (s.scheduler.leaderLength ≤ 1) := by
  have hpaper : idlePaper s =
      { (strobeReady s).web.openSegment .leader with leaderTarget := s.scheduler.leaderLength } := if_pos hmay
  obtain ⟨hmap, hends⟩ := openLeader_laid (strobeReady s).web s.scheduler.leaderLength
  rw [idleLined, hpaper, hmay, Bool.not_true, Bool.and_false, strobeReady_web] at *
  exact ⟨hmap, rfl, rfl, rfl, hends⟩

section
variable {s : State}

theorem idlePaper_of_not_opening (hmay : ¬ (strobeReady s).leaderMayOpen = true) :
    idlePaper s = Web.placePaper { s.web with odometer := s.web.odometer + 1, mark := false } := by
  rw [idlePaper, if_neg hmay, strobeReady_web]

/-- R113, R116: a strobe of an open BLANK or leader. -/
theorem idleLined_of_open (hmay : ¬ (strobeReady s).leaderMayOpen = true) {ahead : List Segment} {g : Segment}
    (hmap : s.web.map = ahead ++ [g]) (hopen : g.closed = false) :
    (idleLined s).web = { s.web with
        odometer := s.web.odometer + 1
        mark := false
        map := ahead ++ [g.grow.closeLeader s.web.leaderTarget] }
      ∧ (idleLined s).channel.lastStrobeEnded = (g.grow.isOpenLeader && decide (s.web.leaderTarget ≤ g.length + 1)) := by
  have hpaper := (idlePaper_of_not_opening hmay).trans (placePaper_of_open hmap hopen)
  rw [idleLined, hpaper]
  exact ⟨by simp only [mapLast_concat], leaderEnds_concat rfl⟩

/-- R114, cases 4 and 5: a strobe where no segment is open. -/
theorem idleLined_of_closed (hmay : ¬ (strobeReady s).leaderMayOpen = true) (hclosed : ∀ g ∈ s.web.map, g.closed = true) :
    (idleLined s).web.leaderTarget = s.web.leaderTarget ∧ (idleLined s).channel.lastStrobeEnded = false
      ∧ (s.web.map.length < 128 → (idleLined s).web.map = s.web.map ++ [Segment.opened .blank (s.web.odometer + 1)]
          ∧ (idleLined s).web.mark = true)
      ∧ (¬ s.web.map.length < 128 → (idleLined s).web.map = s.web.map
          ∧ (idleLined s).web.mark = s.web.unlisted.isNone
          ∧ (idleLined s).web.unlisted = some (match s.web.unlisted with
            | some u => { u with length := u.length + 1 }
            | none => { start := s.web.odometer + 1, length := 1 })) := by
  have hpaper := (idlePaper_of_not_opening hmay).trans (placePaper_of_closed hclosed)
  by_cases hroom : s.web.map.length < 128
  · rw [if_pos hroom] at hpaper
    rw [idleLined, hpaper]
    exact ⟨rfl, (leaderEnds_concat (g := Segment.opened .blank (s.web.odometer + 1)) rfl).trans rfl, fun _ => ⟨mapLast_concat _ _ _, rfl⟩, fun h => absurd hroom h⟩
  · rw [if_neg hroom] at hpaper
    have hstretch : (idlePaper s).map = s.web.map ∧ (idlePaper s).leaderTarget = s.web.leaderTarget
        ∧ (idlePaper s).mark = s.web.unlisted.isNone
        ∧ (idlePaper s).unlisted = some (match s.web.unlisted with
            | some u => { u with length := u.length + 1 }
            | none => { start := s.web.odometer + 1, length := 1 }) := by
      rw [hpaper]
      unfold Web.growStretch
      cases s.web.unlisted <;> simp
    obtain ⟨hmap, htarget, hmark, hunlisted⟩ := hstretch
    refine ⟨htarget, leaderEnds_of_closed (hmap ▸ hclosed), fun h => absurd h hroom, fun _ => ⟨?_, hmark, hunlisted⟩⟩
    show mapLast _ (idlePaper s).map = _
    rw [hmap, mapLast_closeLeader_of_closed hclosed]

end

/-- What an idle strobe changes behind the void of a misfit. -/
theorem onlyChanges_idleLined (s : State) : OnlyChanges [.leaderPending, .map, .unlisted, .leaderTarget, .mark, .heads]
    (strobeReady s) (idleLined s) := by
  have hpaper : ∃ m t l k, idlePaper s =
      { (strobeReady s).web with map := m, unlisted := t, leaderTarget := l, mark := k } := by
    unfold idlePaper
    split
    · exact ⟨_, _, _, _, rfl⟩
    · unfold Web.placePaper Web.growStretch Web.openSegment
      split
      · split
        · split
          · exact ⟨_, _, _, _, rfl⟩
          · split <;> exact ⟨_, _, _, _, rfl⟩
        · exact ⟨_, _, _, _, rfl⟩
      · exact ⟨_, _, _, _, rfl⟩
  obtain ⟨m, t, l, k, hpaper⟩ := hpaper
  rw [idleLined, hpaper]
  intro p hp
  cases p <;> simp_all [Same, State.port]

/-- What an idle strobe changes, behind the void of a misfit and before missed-cut detection. -/
theorem onlyChanges_strobeLined_idle {s : State} (hidle : s.channel.exposure = none)
    (hverdict : s.dropZeroLeader.startVerdict ≠ .begins) :
    OnlyChanges [.leaderPending, .map, .unlisted, .leaderTarget, .mark, .heads, .magazines, .stall] (strobeReady s)
      (strobeLined s) := by
  rw [strobeLined_idle hidle hverdict]
  exact onlyChanges_mono (onlyChanges_trans (onlyChanges_idleLined s) (onlyChanges_rolled _ s.web.map.isEmpty)) (by decide)

/-- R43: what the strobe does with a selection that does not begin. -/
theorem voidedIf_strobeReady (s : State) : VoidedIf (s.dropZeroLeader.startVerdict = .misfit) s (strobeReady s) := by
  have hvoided : VoidedIf (s.dropZeroLeader.startVerdict = .misfit) s.dropZeroLeader
      (if s.dropZeroLeader.startVerdict = .misfit then s.dropZeroLeader.voidSelection else s.dropZeroLeader) := by
    split
    · next h =>
      have hvoid := voidedIf_voidSelection s.dropZeroLeader
      unfold VoidedIf at hvoid ⊢
      simpa only [h, true_and] using hvoid
    · next h => exact (if_neg fun hv => h hv.1).mpr ⟨rfl, rfl, rfl, ⟨rfl, rfl⟩, rfl, rfl⟩
  exact hvoided

theorem voidedIf_congr {p q : Prop} [Decidable p] [Decidable q] {s t : State} (h : p ↔ q) (hv : VoidedIf p s t) :
    VoidedIf q s t := by
  unfold VoidedIf at hv ⊢
  simpa only [h] using hv

theorem losesSync_congr {s t : State} (h : t.web.fault = s.web.fault) (map after : List Segment) :
    LosesSync t map after ↔ LosesSync s map after := by
  unfold LosesSync
  rw [h]

theorem onlyChanges_map (s : State) (map : List Segment) :
    OnlyChanges [.map] s { s with web := { s.web with map := map } } := by
  intro p hp
  cases p <;> simp_all [Same, State.port]

/-- R111: a segment that is open is the tail of the map. -/
theorem exists_open_tail {s : State} (hs : WebShape s) (h : ¬ ∀ g ∈ s.web.map, g.closed = true) :
    ∃ ahead g, s.web.map = ahead ++ [g] ∧ g.closed = false := by
  obtain ⟨-, hclosed, -⟩ := hs
  rcases s.web.map.eq_nil_or_concat with hnil | ⟨init, g, hmap⟩
  · simp [hnil] at h
  · rw [List.concat_eq_append] at hmap
    refine ⟨init, g, hmap, ?_⟩
    by_contra hopen
    rw [hmap, List.dropLast_concat] at hclosed
    refine h fun k hk => ?_
    rw [hmap, List.mem_append, List.mem_singleton] at hk
    rcases hk with hk | rfl
    · exact hclosed k hk
    · simpa using hopen

/-- Settles O43. -/
theorem idleStrobesLayBlankOrLeader : Obligations.IdleStrobesLayBlankOrLeader := by
  intro s hidle hshape hnot
  have hverdict : s.dropZeroLeader.startVerdict ≠ .begins := fun h => hnot ((startVerdict_eq_iff s true).1 h)
  have hlined := strobeLined_idle hidle hverdict
  have hready := onlyChanges_strobeReady s
  have hpaper := onlyChanges_strobeLined_idle hidle hverdict
  have hrolled : OnlyChanges [.magazines, .stall] (idleLined s) (strobeLined s) := by
    rw [hlined]
    exact onlyChanges_rolled _ s.web.map.isEmpty
  have hdetect := onlyChanges_detectMissedCuts (strobeLined s)
  have hframe := onlyChanges_trans hready (onlyChanges_trans hpaper hdetect)
  have hlpath : (strobeLined s).web.lpath = s.web.lpath := (hpaper .lpath (by decide)).trans (hready .lpath (by decide))
  have hfault : (strobeLined s).web.fault = s.web.fault := (hpaper .webFault (by decide)).trans (hready .webFault (by decide))
  have hexposure : (strobeLined s).channel.exposure = none :=
    (hpaper .exposure (by decide)).trans ((hready .exposure (by decide)).trans hidle)
  have hlaid : (strobeLined s).web.map = (idleLined s).web.map := hrolled .map (by decide)
  have hends : (strobeLined s).channel.lastStrobeEnded = (idleLined s).channel.lastStrobeEnded := (hrolled .heads (by decide)).2
  obtain ⟨hloses, hsynced⟩ := detectMissedCuts_cases (t := strobeLined s) (webShape_strobeLined hshape).2.2.1 rfl
  obtain ⟨hruns, hstays⟩ := stall_strobe s
  rw [hlpath, odometer_strobeLined, hlaid, losesSync_congr hfault] at hloses hsynced
  have hheads := hdetect .heads (by decide)
  have htarget := (hdetect .leaderTarget (by decide)).trans (hrolled .leaderTarget (by decide))
  have hmark := (hdetect .mark (by decide)).trans (hrolled .mark (by decide))
  have hunlisted := (hdetect .unlisted (by decide)).trans (hrolled .unlisted (by decide))
  have hpending : (strobeLined s).scheduler.leaderPending = (idleLined s).scheduler.leaderPending :=
    hrolled .leaderPending (by decide)
  refine ⟨_, (idleLined s).web.map, _, exec_lineStrobe s, mergePassed_passedMerged _ _ _, hloses, fun hkept => ?_,
    hheads.1.trans (hrolled .heads (by decide)).1, ?_, hframe .orders (by decide), hframe .items (by decide),
    hframe .patchCadence (by decide), hruns, hstays, fun hstands hquiet hroom hlength => ?_, fun hnone => ?_⟩
  · have hstate := hsynced hkept
    have hparts : OnlyChanges [.leaderPending, .map, .unlisted, .leaderTarget, .mark, .heads, .magazines, .stall]
        (strobeReady s) (strobeLined s).detectMissedCuts := by
      rw [hstate]
      exact onlyChanges_mono (onlyChanges_trans hpaper (onlyChanges_map _ _)) (by decide)
    have hvoided := voidedIf_of_same (onlyChanges_refl [] s) hparts (by decide) (by decide) (voidedIf_strobeReady s)
    refine ⟨?_, ?_, fun htested => ?_, fun htested => ?_⟩
    · show (strobeLined s).detectMissedCuts.web.map = _
      rw [hstate, hfault]
    · show (strobeLined s).detectMissedCuts.web.fault = _
      rw [hstate]
      exact hfault
    · exact voidedIf_congr (iff_of_true ((startVerdict_eq_iff s false).2 htested) trivial) hvoided
    · exact voidedIf_congr (iff_of_false (fun h => htested ((startVerdict_eq_iff s false).1 h)) id) hvoided
  · by_cases hlost : LosesSync s (idleLined s).web.map
        (mergePassed s.web.lpath (s.web.odometer + 1) (idleLined s).web.map)
    · exact (hloses hlost).2.2.2.2.2.1
    · show (strobeLined s).detectMissedCuts.channel.exposure = none
      rw [hsynced hlost]
      exact hexposure
  · obtain ⟨hmap, hgone, hlength', hmarked, hends'⟩ :=
      idleLined_of_leader ((leaderMayOpen_strobeReady s).2 ⟨hstands, hquiet, hroom, hlength⟩)
    refine ⟨hmap, ?_, htarget.trans hlength', hmark.trans hmarked, hheads.2.trans (hends.trans hends')⟩
    by_cases hlost : LosesSync s (idleLined s).web.map
        (mergePassed s.web.lpath (s.web.odometer + 1) (idleLined s).web.map)
    · exact (hloses hlost).2.2.2.2.2.2
    · show (strobeLined s).detectMissedCuts.scheduler.leaderPending = false
      rw [hsynced hlost]
      exact hpending.trans hgone
  · have hmay : ¬ (strobeReady s).leaderMayOpen = true := by
      rw [leaderMayOpen_strobeReady]
      rintro ⟨hstands, hquiet, hroom, hlength⟩
      rcases hnone with h | h | h | h
      · simp [hstands] at h
      · simp [hquiet] at h
      · omega
      · exact hlength h
    refine ⟨fun ahead g hmap hopen hkind => ?_, fun ahead g hmap hopen hkind => ?_, fun hclosed hroom => ?_,
      fun hclosed hfull => ?_, ?_, fun hkept => ?_⟩
    · obtain ⟨hweb, hended⟩ := idleLined_of_open hmay hmap hopen
      have hblank : g.kind = .blank := by
        have htail : s.web.exposureAtTail = false := by rw [← hshape.2.2.1, hidle, Option.isSome_none]
        rw [exposureAtTail_concat hmap, Segment.isOpenExposure, hopen] at htail
        cases hk : g.kind <;> simp_all
      refine ⟨?_, hmark.trans (by rw [hweb]), hheads.2.trans (hends.trans ?_)⟩
      · rw [hweb]
        simp [Segment.grow, Segment.closeLeader, hopen, hblank]
      · rw [hended]
        simp [Segment.isOpenLeader, Segment.grow, hblank]
    · obtain ⟨hweb, hended⟩ := idleLined_of_open hmay hmap hopen
      refine ⟨?_, hmark.trans (by rw [hweb]), hheads.2.trans (hends.trans ?_)⟩
      · rw [hweb]
        simp [Segment.grow, Segment.closeLeader, hopen, hkind]
      · rw [hended]
        simp [Segment.isOpenLeader, Segment.grow, hopen, hkind]
    · obtain ⟨-, hended, hopened, -⟩ := idleLined_of_closed hmay hclosed
      obtain ⟨hmap, hmarked⟩ := hopened hroom
      exact ⟨hmap, hmark.trans hmarked, hheads.2.trans (hends.trans hended)⟩
    · obtain ⟨-, hended, -, hstretched⟩ := idleLined_of_closed hmay hclosed
      obtain ⟨hmap, hmarked, hjoined⟩ := hstretched (by omega)
      exact ⟨hmap, hmark.trans hmarked, hheads.2.trans (hends.trans hended), hunlisted.trans hjoined⟩
    · refine htarget.trans ?_
      by_cases hclosed : ∀ g ∈ s.web.map, g.closed = true
      · exact (idleLined_of_closed hmay hclosed).1
      · obtain ⟨ahead, g, hmap, hopen⟩ := exists_open_tail hshape hclosed
        rw [(idleLined_of_open hmay hmap hopen).1]
    · show (strobeLined s).detectMissedCuts.scheduler.leaderPending = _
      rw [hsynced hkept]
      refine hpending.trans ?_
      show ((strobeReady s).scheduler.leaderPending && !(strobeReady s).leaderMayOpen) = _
      rw [Bool.eq_false_iff.2 hmay, Bool.not_false, Bool.and_true, leaderPending_strobeReady]

end Sys2Proof.IdleStrobes

/-! The strobes of a print or patch: the line due, and the selection that begins. O45, O44. -/

namespace Sys2Proof.Exposing

open Sys2Proof.Machine Sys2Proof.Laws Sys2Proof.OrdersAndItems Sys2Proof.Magazines Sys2Proof.Sorting Sys2Proof.Till
open Sys2Proof.Steps Sys2Proof.WebMap Sys2Proof.Registry Sys2Proof.Controls Sys2Proof.StrobeRules Sys2Proof.IdleStrobes

/-! ## The line of a strobe -/

section
variable {c : ChannelOutput} {e : Exposure}

theorem get_gate (enabled : PerChannel Bool) (codes : Codes) (k : Fin 3) :
    (gate enabled codes).get k = if enabled.get k = true then codes.get k else [] := by
  fin_cases k <;> rfl

theorem exposeLine_ended (c : ChannelOutput) (e : Exposure) :
    (c.exposeLine e).ended = decide (e.lineCount ≤ e.linesExposed + 1) := by
  unfold ChannelOutput.exposeLine
  split
  · rfl
  · split
    · split <;> rfl
    · rfl

/-- R88: a blanked print's strobe exposes code 0. -/
theorem exposeLine_blanked (h : e.blanked = true) : c.exposeLine e =
    { channel := { c with heads := Codes.blank, exposure := e.advance }, suspect := false
      ended := decide (e.lineCount ≤ e.linesExposed + 1) } := if_pos h

/-- R87: the line due is at the head of the queue. -/
theorem exposeLine_due {l : Line} {rest : List Line} (h : e.blanked = false) (hqueue : c.queue = l :: rest)
    (howner : l.owner = .exposed) (hnumber : l.number = e.linesExposed) : c.exposeLine e =
      { channel := { c with
          queue := rest
          heads := gate c.enabled l.codes
          exposure := Exposure.advance { e with previous := l.codes } }
        suspect := false
        ended := decide (e.lineCount ≤ e.linesExposed + 1) } := by
  unfold ChannelOutput.exposeLine
  rw [if_neg (by simp [h]), hqueue]
  exact if_pos ⟨howner, hnumber⟩

/-- R87: the line due is not at the head of the queue. -/
theorem exposeLine_underrun (h : e.blanked = false)
    (hqueue : ∀ l rest, c.queue = l :: rest → l.owner ≠ .exposed ∨ l.number ≠ e.linesExposed) :
    c.exposeLine e = c.repeatLine e := by
  unfold ChannelOutput.exposeLine
  rw [if_neg (by simp [h])]
  split
  · next l rest hlines =>
    rw [if_neg]
    rintro ⟨howner, hnumber⟩
    exact (hqueue l rest hlines).elim (fun hne => hne howner) (fun hne => hne hnumber)
  · rfl

theorem advance_of_last (h : e.lineCount ≤ e.linesExposed + 1) : e.advance = none := if_pos h

theorem advance_of_more (h : e.linesExposed + 1 < e.lineCount) :
    e.advance = some { e with linesExposed := e.linesExposed + 1 } := if_neg (by omega)

end

/-! ## A strobe of what is being exposed -/

theorem dropZeroLeader_of_not_pending {s : State} (h : s.scheduler.leaderPending = false) : s.dropZeroLeader = s := by
  unfold State.dropZeroLeader
  rw [h, Bool.false_and, ← h]

section
variable {s : State} {e : Exposure} {ahead : List Segment} {g : Segment}

theorem not_selectionTested_of_exposing (he : s.channel.exposure = some e) (fits : Bool) : ¬ SelectionTested s fits := by
  rintro ⟨_, _, ⟨_, ⟨_, _, _, hnone, _⟩, _⟩ | ⟨_, _, _, _, _, _, _, _, _, _, _, _, ⟨_, _, _, hnone, _⟩, _⟩⟩ <;>
    simp [hnone] at he

/-- What the shape of the map says while a print or patch is being exposed. -/
theorem exposing_shape (hs : WebShape s) (he : s.channel.exposure = some e) (hmap : s.web.map = ahead ++ [g]) :
    s.scheduler.leaderPending = false ∧ s.web.fault = none ∧ g.closed = false ∧ g.kind ≠ .blank ∧ g.kind ≠ .leader := by
  obtain ⟨-, -, htail, hpending, -, hfault⟩ := hs
  rw [he, exposureAtTail_concat hmap, Segment.isOpenExposure] at htail
  refine ⟨?_, ?_, ?_⟩
  · by_contra h
    simpa [he] using (hpending (by simpa using h)).1
  · by_contra h
    simpa [he] using (hfault (Option.isSome_iff_ne_none.2 h)).1
  · cases hk : g.kind <;> simp_all

theorem strobeReady_of_not_misfit (h : s.dropZeroLeader.startVerdict ≠ .misfit) : strobeReady s =
    { s.dropZeroLeader with web := { s.web with odometer := s.web.odometer + 1, mark := false } } := by
  unfold strobeReady
  dsimp only
  rw [if_neg h]
  rfl

/-- R84, R87, R116: the state of a strobe of the print or patch being exposed, before the roll and the stall monitor. -/
def lineExposed (s : State) (e : Exposure) (ahead : List Segment) (g : Segment) : State :=
  { s with
    web := { s.web with
      odometer := s.web.odometer + 1
      mark := false
      map := ahead ++ [{ g with
        length := g.length + 1
        closed := decide (e.lineCount ≤ e.linesExposed + 1)
        suspect := g.suspect || (s.channel.exposeLine e).suspect }] }
    channel := { (s.channel.exposeLine e).channel with
      lastStrobeEnded := decide (e.lineCount ≤ e.linesExposed + 1) }
    resampler := if e.lineCount ≤ e.linesExposed + 1 then s.resampler.trail g.start else s.resampler }

theorem exposeStrobe_exposing (hs : WebShape s) (he : s.channel.exposure = some e) (hmap : s.web.map = ahead ++ [g]) :
    (strobePlaced s).exposeStrobe = lineExposed s e ahead g := by
  obtain ⟨hpending, -, hopen, hkind, -⟩ := exposing_shape hs he hmap
  have hdrop := dropZeroLeader_of_not_pending hpending
  have hverdict (fits : Bool) : s.dropZeroLeader.startVerdict ≠ if fits then .begins else .misfit := fun h =>
    not_selectionTested_of_exposing he fits ((startVerdict_eq_iff s fits).1 h)
  have hbegins : s.dropZeroLeader.startVerdict ≠ .begins := hverdict true
  have hmisfit : s.dropZeroLeader.startVerdict ≠ .misfit := hverdict false
  have hplaced : strobePlaced s = { s with web := { s.web with
      odometer := s.web.odometer + 1, mark := false, map := ahead ++ [{ g with length := g.length + 1 }] } } := by
    have hgrow : g.grow = { g with length := g.length + 1 } := by simp [Segment.grow, hopen, hkind]
    rw [strobePlaced_eq, State.placeStrobe, if_neg hbegins, strobeReady_of_not_misfit hmisfit, hdrop,
      if_neg (by simp [State.leaderMayOpen, hpending]),
      placePaper_of_open (w := { s.web with odometer := s.web.odometer + 1, mark := false }) hmap hopen, hgrow]
  rw [hplaced, State.exposeStrobe, lineExposed]
  simp only [he, exposeLine_ended, mapLast_concat, Segment.afterLine, hopen, Bool.false_or, Web.tailStart,
    List.getLast?_concat, decide_eq_true_eq]

theorem exposeLine_keeps (c : ChannelOutput) (e : Exposure) : (c.exposeLine e).channel.enabled = c.enabled
    ∧ (c.exposeLine e).channel.repeatTolerance = c.repeatTolerance := by
  unfold ChannelOutput.exposeLine ChannelOutput.repeatLine
  split
  · exact ⟨rfl, rfl⟩
  · split
    · split <;> exact ⟨rfl, rfl⟩
    · exact ⟨rfl, rfl⟩

theorem onlyChanges_lineExposed (s : State) (e : Exposure) (ahead : List Segment) (g : Segment) :
    OnlyChanges [.lineQueue, .exposure, .heads, .map, .odometer, .mark, .work] s (lineExposed s e ahead g) := by
  obtain ⟨henabled, htolerance⟩ := exposeLine_keeps s.channel e
  have hgains (last : Prop) [Decidable last] : (if last then s.resampler.trail g.start else s.resampler) =
      { s.resampler with work := (if last then s.resampler.trail g.start else s.resampler).work } := by
    split <;> rfl
  unfold lineExposed
  rw [hgains]
  intro p hp
  cases p <;> simp_all [Same, State.port]

theorem work_lineExposed (s : State) (e : Exposure) (ahead : List Segment) (g : Segment) :
    (lineExposed s e ahead g).resampler.work = s.resampler.work.map (fun w =>
      if w.owner = .exposed ∧ e.lineCount ≤ e.linesExposed + 1 then { w with owner := .trailing g.start } else w) := by
  unfold lineExposed
  by_cases h : e.lineCount ≤ e.linesExposed + 1
  · simp [h, Resampler.trail]
  · simp [h]

end

/-- A part found unchanged need not be listed. -/
theorem onlyChanges_except {parts parts' : List Machine.Part} {q : Machine.Part} {s t : State} (h : OnlyChanges parts s t)
    (hq : Same s t q) (hparts : ∀ p ∈ parts, p = q ∨ p ∈ parts') : OnlyChanges parts' s t := by
  intro p hp
  by_cases hmem : p ∈ parts
  · obtain rfl := (hparts p hmem).resolve_right hp
    exact hq
  · exact h p hmem

/-- Settles O45. -/
theorem strobeExposesTheLineDue : Obligations.StrobeExposesTheLineDue := by
  intro s e ahead g he hmap hshape
  obtain ⟨hpending, hfault, -, hblank, -⟩ := exposing_shape hshape he hmap
  have hline := onlyChanges_lineExposed s e ahead g
  have hrolled : OnlyChanges [.magazines, .stall] (lineExposed s e ahead g) (strobeLined s) := by
    rw [← exposeStrobe_exposing hshape he hmap]
    exact onlyChanges_rolled _ s.web.map.isEmpty
  have hpaper := onlyChanges_trans hline hrolled
  have hdetect := onlyChanges_detectMissedCuts (strobeLined s)
  obtain ⟨hloses, hsynced⟩ := detectMissedCuts_cases (t := strobeLined s) (webShape_strobeLined hshape).2.2.1 rfl
  have hlaid : (strobeLined s).web.map = (lineExposed s e ahead g).web.map := hrolled .map (by decide)
  have hclear : (strobeLined s).web.fault = s.web.fault := hpaper .webFault (by decide)
  rw [hpaper .lpath (by decide), odometer_strobeLined, hlaid, losesSync_congr hclear] at hloses hsynced
  rw [hclear, hfault] at hsynced
  have hkept (h : ¬ LosesSync s (lineExposed s e ahead g).web.map
      (mergePassed s.web.lpath (s.web.odometer + 1) (lineExposed s e ahead g).web.map)) :
      OnlyChanges [.magazines, .stall, .map] (lineExposed s e ahead g) (strobeLined s).detectMissedCuts := by
    rw [hsynced h]
    exact onlyChanges_trans hrolled (onlyChanges_map _ _)
  have hmore (h : e.linesExposed + 1 < e.lineCount) : ¬ LosesSync s (lineExposed s e ahead g).web.map
      (mergePassed s.web.lpath (s.web.odometer + 1) (lineExposed s e ahead g).web.map) := by
    rintro ⟨-, -, -, -, hquiet⟩
    rw [exposedTail_of_outline (outline_mergePassed _ _ _)] at hquiet
    exact hquiet ⟨ahead, _, rfl, decide_eq_false (by omega), hblank⟩
  have hheads := onlyChanges_trans hrolled hdetect .heads (by decide)
  have hadvance (h : e.linesExposed + 1 < e.lineCount) :
      (strobeLined s).detectMissedCuts.channel.exposure = (s.channel.exposeLine e).channel.exposure :=
    hkept (hmore h) .exposure (by decide)
  refine ⟨_, _, _, exec_lineStrobe s, rfl, mergePassed_passedMerged _ _ _, hloses, fun h => ?_, hheads.2,
    onlyChanges_trans hrolled hdetect .mark (by decide), fun hlast => ?_, fun hblanked => ?_,
    fun l rest hsound hqueue howner hnumber => ?_, fun hsound hnext => ?_, ?_⟩
  · have hsame := onlyChanges_trans hline (hkept h)
    refine ⟨?_, ?_, hsame .selection (by decide), (hkept h .work (by decide)).trans (work_lineExposed s e ahead g),
      hsame .rows (by decide), hsame .fetch (by decide)⟩
    · show (strobeLined s).detectMissedCuts.web.map = _
      rw [hsynced h]
      rfl
    · show (strobeLined s).detectMissedCuts.web.fault = _
      rw [hsynced h]
      exact hclear.trans hfault
  · by_cases h : LosesSync s (lineExposed s e ahead g).web.map
        (mergePassed s.web.lpath (s.web.odometer + 1) (lineExposed s e ahead g).web.map)
    · exact (hloses h).2.2.2.2.2.1
    · refine (hkept h .exposure (by decide)).trans ?_
      rw [← Option.not_isSome_iff_eq_none]
      show ¬ (s.channel.exposeLine e).channel.exposure.isSome = true
      rw [exposeLine_isSome, exposeLine_ended]
      simpa using hlast
  · have hexposed := exposeLine_blanked (c := s.channel) hblanked
    refine ⟨by simp [hexposed], fun h => (hkept h .lineQueue (by decide)).trans (by simp [lineExposed, hexposed]),
      fun c => ?_, fun h => (hadvance h).trans (by rw [hexposed]; exact advance_of_more h)⟩
    rw [show (s.noteCauses (strobeLined s).detectMissedCuts).channel.heads = _ from hheads.1]
    show (s.channel.exposeLine e).channel.heads.get c = []
    rw [hexposed]
    fin_cases c <;> rfl
  · have hexposed := exposeLine_due hsound hqueue howner hnumber
    refine ⟨by simp [hexposed], fun h => (hkept h .lineQueue (by decide)).trans (by simp [lineExposed, hexposed]),
      fun c => ?_, fun h => (hadvance h).trans (by rw [hexposed]; exact advance_of_more (e := { e with previous := l.codes }) h)⟩
    rw [show (s.noteCauses (strobeLined s).detectMissedCuts).channel.heads = _ from hheads.1]
    show (s.channel.exposeLine e).channel.heads.get c = _
    rw [hexposed]
    exact get_gate _ _ c
  · have hexposed := exposeLine_underrun hsound hnext
    refine ⟨by simp [hexposed, ChannelOutput.repeatLine, satAdd], fun h => (hkept h .lineQueue (by decide)).trans (by simp [lineExposed, hexposed, ChannelOutput.repeatLine]),
      fun c => ?_, fun h => (hadvance h).trans (by
        rw [hexposed]
        exact advance_of_more (e := { e with repeatCount := min 65535 (e.repeatCount + 1) }) h)⟩
    rw [show (s.noteCauses (strobeLined s).detectMissedCuts).channel.heads = _ from hheads.1]
    show (s.channel.exposeLine e).channel.heads.get c = _
    rw [hexposed]
    exact get_gate _ _ c
  · have hleader : Same s (strobeLined s).detectMissedCuts .leaderPending := by
      by_cases h : LosesSync s (lineExposed s e ahead g).web.map
          (mergePassed s.web.lpath (s.web.odometer + 1) (lineExposed s e ahead g).web.map)
      · exact (hloses h).2.2.2.2.2.2.trans hpending.symm
      · exact onlyChanges_trans hline (hkept h) .leaderPending (by decide)
    exact onlyChanges_noted (onlyChanges_except (onlyChanges_trans hpaper hdetect) hleader (by decide)) (.inl (by decide))

end Sys2Proof.Exposing

/-! The strobe that begins the standing selection: O44. -/

namespace Sys2Proof.Beginning

open Sys2Proof.Machine Sys2Proof.Laws Sys2Proof.OrdersAndItems Sys2Proof.Magazines Sys2Proof.Sorting Sys2Proof.Till
open Sys2Proof.Steps Sys2Proof.WebMap Sys2Proof.Registry Sys2Proof.Controls Sys2Proof.StrobeRules Sys2Proof.IdleStrobes
open Sys2Proof.Exposing

section
variable {s : State} {n : Nat}

/-- What the beginning of a selection of so many lines rests on. -/
theorem wouldBegin_facts (h : WouldBegin s n) :
    s.dropZeroLeader = { s with scheduler := { s.scheduler with leaderPending := false } }
      ∧ s.web.fault = none ∧ s.web.map.length < 128 ∧ (∀ c, s.channel.enabled.get c = true) := by
  obtain ⟨hstart, hleader, -, -, -⟩ := h
  obtain ⟨hroom, hfault⟩ := room_of_startConditions ((startConditions_iff s).2 hstart)
  obtain ⟨-, -, henabled, -⟩ := hstart
  refine ⟨?_, hfault, hroom, henabled⟩
  have hdropped : (s.scheduler.leaderPending && !(s.leaderMayOpen && s.scheduler.leaderLength == 0)) = false := by
    cases hpending : s.scheduler.leaderPending
    · rfl
    · simp [State.leaderMayOpen, hpending, hroom, hfault, hleader hpending]
  rw [State.dropZeroLeader, hdropped]

theorem gate_of_enabled {enabled : PerChannel Bool} (h : ∀ c, enabled.get c = true) (codes : Codes) :
    gate enabled codes = codes := by
  have h0 : enabled.c0 = true := h 0
  have h1 : enabled.c1 = true := h 1
  have h2 : enabled.c2 = true := h 2
  simp [gate, PerChannel.zip, h0, h1, h2]

/-- What becomes of the work of a selection that begins, and of the one before it. -/
def begunWork (lines : Nat) (start : Word32) (w : Work) : Work :=
  if w.owner = .selection ∨ w.owner = .exposed then
    { w with owner := if lines ≤ 1 then .trailing start else .exposed }
  else w

/-- The state of a strobe that begins a selection of so many lines, before the roll and the stall monitor. -/
def selectionExposed (s : State) (T : OrderTable) (sch : Scheduler) (kind : ExposureKind) (segment : SegmentKind)
    (lines : Nat) (l : Line) (rest : List Line) : State :=
  { s with
    orderTable := T
    scheduler := sch
    channel := { s.channel with
      queue := rest.map fun k => { k with owner := .exposed }
      exposure := if lines ≤ 1 then none else
        some { kind := kind, lineCount := lines, linesExposed := 1, blanked := false, repeatCount := 0
               previous := l.codes }
      heads := l.codes
      lastStrobeEnded := decide (lines ≤ 1) }
    resampler := { s.resampler with work := s.resampler.work.map (begunWork lines (s.web.odometer + 1)) }
    web := { s.web with
      odometer := s.web.odometer + 1
      mark := true
      map := mapLast Segment.closeBlank s.web.map ++
        [{ Segment.opened segment (s.web.odometer + 1) with closed := decide (lines ≤ 1) }] } }

variable {l : Line} {rest : List Line}

theorem exposeStrobe_of_line {s : State} {e : Exposure} {r : LineOutcome} (he : s.channel.exposure = some e)
    (hr : s.channel.exposeLine e = r) : s.exposeStrobe =
      { s with
        channel := { r.channel with lastStrobeEnded := r.ended }
        web := { s.web with map := mapLast (Segment.afterLine r.suspect r.ended) s.web.map }
        resampler := if r.ended then s.resampler.trail s.web.tailStart else s.resampler } := by
  subst hr
  unfold State.exposeStrobe
  rw [he]

/-- R86, R87, R114 case 1, R115: line 0 of a selection that begins is exposed at the same strobe. -/
theorem exposeStrobe_begin (henabled : ∀ c, s.channel.enabled.get c = true) (hqueue : s.channel.queue = l :: rest)
    (hnumber : l.number = 0) (T : OrderTable) (sch : Scheduler) (kind : ExposureKind) (segment : SegmentKind) (lines : Nat) :
    State.exposeStrobe { s with
        orderTable := T
        scheduler := sch
        channel := s.channel.begin kind lines
        resampler := s.resampler.begin
        web := Web.openSegment { s.web with odometer := s.web.odometer + 1, mark := false } segment }
      = selectionExposed s T sch kind segment lines l rest := by
  have hline : (s.channel.begin kind lines).exposeLine
      { kind := kind, lineCount := lines, linesExposed := 0, blanked := false, repeatCount := 0, previous := Codes.blank } =
      { channel := { s.channel.begin kind lines with
          queue := rest.map fun k => { k with owner := .exposed }
          heads := l.codes
          exposure := if lines ≤ 1 then none else
            some { kind := kind, lineCount := lines, linesExposed := 1, blanked := false, repeatCount := 0
                   previous := l.codes } }
        suspect := false
        ended := decide (lines ≤ 1) } := by
    rw [exposeLine_due (l := { l with owner := .exposed }) (rest := rest.map fun k => { k with owner := .exposed }) rfl
      (by simp [ChannelOutput.begin, hqueue]) rfl hnumber]
    simp [gate_of_enabled (enabled := (s.channel.begin kind lines).enabled) henabled, Exposure.advance]
  have hwork : (if lines ≤ 1 then s.resampler.begin.trail (s.web.odometer + 1) else s.resampler.begin) =
      { s.resampler with work := s.resampler.work.map (begunWork lines (s.web.odometer + 1)) } := by
    unfold Resampler.trail Resampler.begin begunWork
    cases s.resampler.work with
    | none => simp
    | some w =>
      obtain ⟨owner, job, next⟩ := w
      cases owner <;> by_cases h : lines ≤ 1 <;> simp [h]
  rw [exposeStrobe_of_line rfl hline, selectionExposed]
  simp only [decide_eq_true_eq, Web.tailStart, Web.openSegment, List.getLast?_concat, Segment.opened, mapLast_concat,
    Segment.afterLine, Bool.false_or, hwork]
  rfl

end

section
variable {s : State} {n : Nat} {l : Line} {rest : List Line}

/-- The order table of a strobe that begins a print (R12). -/
def exposedTable (T : OrderTable) (slot n : Nat) : OrderTable :=
  (T.modifyItem slot n Item.expose).modifyOrder slot Order.begun

/-- The Scheduler of a strobe that begins a print (R45). -/
def printBegun (sch : Scheduler) : Scheduler :=
  { sch with leaderPending := false, selection := none, patchCounter := satAdd 255 sch.patchCounter 1 }

/-- The Scheduler of a strobe that begins a patch (R45). -/
def patchBegun (sch : Scheduler) : Scheduler :=
  { sch with leaderPending := false, selection := none, patchCounter := 0, switchPatch := false, resetPatch := false }

theorem strobePlaced_begins {lines : Nat} (hbegin : WouldBegin s lines) (htested : SelectionTested s true) :
    strobePlaced s = State.beginSelection { s with
      scheduler := { s.scheduler with leaderPending := false }
      web := { s.web with odometer := s.web.odometer + 1, mark := false } } := by
  have hverdict : s.dropZeroLeader.startVerdict = .begins := (startVerdict_eq_iff s true).2 htested
  rw [strobePlaced_eq, State.placeStrobe, if_pos hverdict, strobeReady_of_not_misfit (by simp [hverdict]),
    (wouldBegin_facts hbegin).1]

theorem exposeStrobe_print {slot copy : Nat} {i : Item} {e : SizeEntry}
    (hselection : s.scheduler.selection = some (.print slot n copy)) (hi : s.orderTable.item? slot n = some i)
    (he : Table.get? s.orderTable.sizes i.sizeIndex = some e) (hbegin : WouldBegin s e.lp)
    (htested : SelectionTested s true) (hqueue : s.channel.queue = l :: rest) (hnumber : l.number = 0) :
    (strobePlaced s).exposeStrobe = selectionExposed s (exposedTable s.orderTable slot n) (printBegun s.scheduler)
      .print (.print slot n copy) e.lp l rest := by
  have hsize : s.orderTable.sizeOf? i = some e := he
  rw [strobePlaced_begins hbegin htested, ← exposeStrobe_begin (wouldBegin_facts hbegin).2.2.2 hqueue hnumber]
  unfold State.beginSelection
  simp only [hselection, hi, Option.bind_some, hsize]
  rfl

theorem exposeStrobe_patch (hselection : s.scheduler.selection = some .patch) (hbegin : WouldBegin s 100)
    (htested : SelectionTested s true) (hqueue : s.channel.queue = l :: rest) (hnumber : l.number = 0) :
    (strobePlaced s).exposeStrobe =
      selectionExposed s s.orderTable (patchBegun s.scheduler) .patch .patch 100 l rest := by
  rw [strobePlaced_begins hbegin htested, ← exposeStrobe_begin (wouldBegin_facts hbegin).2.2.2 hqueue hnumber]
  unfold State.beginSelection
  simp only [hselection]
  rfl

theorem onlyChanges_strobeLined {u : State} (hlined : (strobePlaced s).exposeStrobe = u) :
    OnlyChanges [.magazines, .stall] u (strobeLined s) := by
  rw [← hlined]
  exact onlyChanges_rolled _ s.web.map.isEmpty

/-- R122: missed-cut detection behind a selection that has begun: it loses synchronism behind the only line at most. -/
theorem detectMissedCuts_selectionExposed {u : State} {T : OrderTable} {sch : Scheduler} {kind : ExposureKind}
    {segment : SegmentKind} {lines : Nat} {laid : List Segment}
    (hlined : (strobePlaced s).exposeStrobe = u) (hu : u = selectionExposed s T sch kind segment lines l rest)
    (hfault : s.web.fault = none) (hleader : segment ≠ .leader) (hblank : segment ≠ .blank)
    (hlaid : laid = mapLast Segment.closeBlank s.web.map ++
      [{ Segment.opened segment (s.web.odometer + 1) with closed := decide (lines ≤ 1) }]) :
    (LosesSync s laid (mergePassed s.web.lpath (s.web.odometer + 1) laid) →
        SyncLost (mergePassed s.web.lpath (s.web.odometer + 1) laid) (strobeLined s).detectMissedCuts ∧ lines ≤ 1)
      ∧ (¬ LosesSync s laid (mergePassed s.web.lpath (s.web.odometer + 1) laid) →
        (strobeLined s).detectMissedCuts.web.map = mergePassed s.web.lpath (s.web.odometer + 1) laid
          ∧ OnlyChanges [.magazines, .stall, .map] u (strobeLined s).detectMissedCuts) := by
  have hrolled := onlyChanges_strobeLined hlined
  have hmap : (strobeLined s).web.map = laid := by
    rw [hlaid, hrolled .map (by decide), hu]
    rfl
  have hclear : (strobeLined s).web.fault = s.web.fault := (hrolled .webFault (by decide)).trans (by rw [hu]; rfl)
  have hlpath : (strobeLined s).web.lpath = s.web.lpath := (hrolled .lpath (by decide)).trans (by rw [hu]; rfl)
  have hexposing : (strobeLined s).exposing = (strobeLined s).web.exposureAtTail := by
    have hopen : Segment.isOpenExposure { Segment.opened segment (s.web.odometer + 1) with closed := decide (lines ≤ 1) }
        = !decide (lines ≤ 1) := by
      cases segment with
      | leader => exact absurd rfl hleader
      | blank => exact absurd rfl hblank
      | print | patch => exact Bool.and_true _
    rw [exposureAtTail_concat (hmap.trans hlaid), hopen, State.exposing, hrolled .exposure (by decide), hu]
    show (if lines ≤ 1 then none else some _).isSome = _
    split <;> simp [*]
  obtain ⟨hloses, hsynced⟩ := detectMissedCuts_cases hexposing rfl
  rw [hlpath, odometer_strobeLined, hmap, losesSync_congr hclear] at hloses hsynced
  rw [hclear, hfault] at hsynced
  refine ⟨fun h => ⟨hloses h, ?_⟩, fun h => ?_⟩
  · obtain ⟨-, -, -, -, hquiet⟩ := h
    rw [exposedTail_of_outline (outline_mergePassed _ _ _), hlaid] at hquiet
    by_contra hmore
    exact hquiet ⟨_, _, rfl, decide_eq_false hmore, hblank⟩
  · rw [hsynced h]
    exact ⟨rfl, onlyChanges_trans hrolled (onlyChanges_map _ _)⟩

theorem onlyChanges_printBegun (s : State) (slot n : Nat) (segment : SegmentKind) (lines : Nat) (l : Line)
    (rest : List Line) :
    OnlyChanges [.orders, .items, .selection, .patchCadence, .leaderPending, .work, .lineQueue, .exposure, .heads, .map,
        .odometer, .mark] s
      (selectionExposed s (exposedTable s.orderTable slot n) (printBegun s.scheduler) .print segment lines l rest) := by
  intro p hp
  cases p <;> simp_all [Same, State.port, selectionExposed, exposedTable, printBegun, OrderTable.modifyItem,
    OrderTable.modifyOrder]

theorem onlyChanges_patchBegun (s : State) (segment : SegmentKind) (lines : Nat) (l : Line) (rest : List Line) :
    OnlyChanges [.selection, .patchCadence, .leaderPending, .work, .lineQueue, .exposure, .heads, .map, .odometer, .mark] s
      (selectionExposed s s.orderTable (patchBegun s.scheduler) .patch segment lines l rest) := by
  intro p hp
  cases p <;> simp_all [Same, State.port, selectionExposed, patchBegun]

end

/-- Settles O44. -/
theorem strobeBeginsTheSelection : Obligations.StrobeBeginsTheSelection := by
  intro s active l rest hactive hqueue howner hnumber
  refine ⟨fun slot n copy o r i e laid hselection ho hr hi hwaiting he hbegin hfits hlaid => ?_,
    fun laid hselection hbegin hfits hlaid => ?_⟩
  · have hitem : s.orderTable.item? slot n = some i := (item?_of_order ho hr).trans hi
    have htested : SelectionTested s true := ⟨active, hactive, .inr ⟨slot, n, copy, o, r, i, e, hselection, ho, hr, hi, he,
      hbegin, iff_of_true rfl hfits⟩⟩
    have hfault := (wouldBegin_facts hbegin).2.1
    have hlined := exposeStrobe_print hselection hitem he hbegin htested hqueue hnumber
    obtain ⟨hloses, hkept⟩ := detectMissedCuts_selectionExposed (laid := laid) hlined rfl hfault (by simp) (by simp) hlaid
    have hline := onlyChanges_printBegun s slot n (.print slot n copy) e.lp l rest
    have hrolled := onlyChanges_strobeLined hlined
    have hrest := onlyChanges_trans hrolled (onlyChanges_detectMissedCuts (strobeLined s))
    have hitems : (strobeLined s).detectMissedCuts.orderTable.items = Table.modify s.orderTable.items r Item.expose := by
      refine (hrest .items (by decide)).trans ?_
      show (s.orderTable.modifyItem slot n Item.expose).items = _
      rw [OrderTable.modifyItem, show s.orderTable.itemRef? slot n = some r from (itemRef?_of_order ho n).trans hr]
    have horders : (strobeLined s).detectMissedCuts.orderTable.orders =
        Table.modify s.orderTable.orders slot Order.begun := hrest .orders (by decide)
    have hgone : (strobeLined s).detectMissedCuts.scheduler.selection = none := by
      by_cases h : LosesSync s laid (mergePassed s.web.lpath (s.web.odometer + 1) laid)
      · exact (hloses h).1.2.2.2.1
      · exact (hkept h).2 .selection (by decide)
    have hexposure : (strobeLined s).detectMissedCuts.channel.exposure = (if e.lp ≤ 1 then none else
        some { kind := .print, lineCount := e.lp, linesExposed := 1, blanked := false, repeatCount := 0
               previous := l.codes }) := by
      by_cases h : LosesSync s laid (mergePassed s.web.lpath (s.web.odometer + 1) laid)
      · obtain ⟨hlost, hone⟩ := hloses h
        rw [if_pos hone]
        exact hlost.2.2.2.2.2.1
      · exact (hkept h).2 .exposure (by decide)
    obtain ⟨hcounter, hswitch, hreset⟩ := hrest .patchCadence (by decide)
    obtain ⟨hheads, hended⟩ := hrest .heads (by decide)
    refine ⟨_, _, exec_lineStrobe s, mergePassed_passedMerged _ _ _, fun h => (hloses h).1, fun h => ?_, ?_, fun k hk => ?_,
      ?_, fun k hk => ?_, hgone, hcounter, hswitch, hreset, hheads, hended, hexposure, hrest .mark (by decide),
      onlyChanges_noted (onlyChanges_mono (onlyChanges_trans hline hrest) (by decide)) (.inl (by decide))⟩
    · obtain ⟨hmap, hsame⟩ := hkept h
      exact ⟨hmap, (hsame .webFault (by decide)).trans hfault, hsame .lineQueue (by decide), hsame .work (by decide),
        onlyChanges_trans hline hsame .rows (by decide), onlyChanges_trans hline hsame .fetch (by decide)⟩
    · show Table.get? (strobeLined s).detectMissedCuts.orderTable.items r = _
      rw [hitems, get?_modify_self, hi, Option.map_some, Item.expose, if_neg hwaiting]
    · show Table.get? (strobeLined s).detectMissedCuts.orderTable.items k = _
      rw [hitems, get?_modify_of_ne (by simpa using hk)]
    · show Table.get? (strobeLined s).detectMissedCuts.orderTable.orders slot = _
      rw [horders, get?_modify_self, show Table.get? s.orderTable.orders slot = some o from ho]
      rfl
    · show Table.get? (strobeLined s).detectMissedCuts.orderTable.orders k = _
      rw [horders, get?_modify_of_ne hk]
      rfl
  · have htested : SelectionTested s true := ⟨active, hactive, .inl ⟨hselection, hbegin, iff_of_true rfl hfits⟩⟩
    have hfault := (wouldBegin_facts hbegin).2.1
    have hlined := exposeStrobe_patch hselection hbegin htested hqueue hnumber
    obtain ⟨hloses, hkept⟩ := detectMissedCuts_selectionExposed (laid := laid) hlined rfl hfault (by simp) (by simp) hlaid
    have hline := onlyChanges_patchBegun s .patch 100 l rest
    have hrolled := onlyChanges_strobeLined hlined
    obtain ⟨hmap, hsame⟩ := hkept fun h => absurd (hloses h).2 (by decide)
    have hframe := onlyChanges_trans hline hsame
    obtain ⟨hcounter, hswitch, hreset⟩ := hsame .patchCadence (by decide)
    obtain ⟨hheads, hended⟩ := hsame .heads (by decide)
    refine ⟨_, exec_lineStrobe s, hsame .selection (by decide), hcounter, hswitch, hreset, hheads,
      hsame .lineQueue (by decide), hended, hsame .exposure (by decide), ?_, (hframe .webFault (by decide)).trans hfault,
      (hsame .work (by decide)).trans ?_, hsame .mark (by decide),
      onlyChanges_noted (onlyChanges_mono hframe (by decide)) (.inl (by decide))⟩
    · show PassedMerged _ _ _ (strobeLined s).detectMissedCuts.web.map
      rw [hmap]
      exact mergePassed_passedMerged _ _ _
    · show s.resampler.work.map (begunWork 100 (s.web.odometer + 1)) = _
      congr 1
      funext w
      unfold begunWork
      rcases w with ⟨_ | _ | _, _, _⟩ <;> rfl

end Sys2Proof.Beginning

/-! PATCH READING: O52. -/

namespace Sys2Proof.Readings

open Sys2Proof.Machine Sys2Proof.Laws Sys2Proof.OrdersAndItems Sys2Proof.Magazines Sys2Proof.Sorting Sys2Proof.Till
open Sys2Proof.Steps Sys2Proof.WebMap Sys2Proof.Registry Sys2Proof.Controls Sys2Proof.Reads

theorem unreadPatch_iff (g : Segment) : g.unreadPatch = true ↔ g.kind = .patch ∧ g.closed = true ∧ g.read = false := by
  simp [Segment.unreadPatch, and_assoc]

section
variable {ahead behind after : List Segment} {g : Segment}

theorem oldestUnreadPatch_eq_none {map : List Segment} (h : ∀ g ∈ map, ¬ (g.kind = .patch ∧ g.closed = true ∧ g.read = false)) :
    oldestUnreadPatch map = none := by
  induction map with
  | nil => rfl
  | cons g rest ih =>
    rw [oldestUnreadPatch, if_neg (mt (unreadPatch_iff g).1 (h g (by simp)))]
    exact ih fun k hk => h k (by simp [hk])

/-- R96: the reading goes to the first closed PATCH whose read flag is clear. -/
theorem oldestUnreadPatch_append (hahead : ∀ k ∈ ahead, ¬ (k.kind = .patch ∧ k.closed = true ∧ k.read = false))
    (hg : g.kind = .patch ∧ g.closed = true ∧ g.read = false) (rest : List Segment) :
    oldestUnreadPatch (ahead ++ g :: rest) = some (g, rest) := by
  induction ahead with
  | nil => exact if_pos ((unreadPatch_iff g).2 hg)
  | cons k ahead ih =>
    rw [List.cons_append, oldestUnreadPatch, if_neg (mt (unreadPatch_iff k).1 (hahead k (by simp)))]
    exact ih fun x hx => hahead x (by simp [hx])

theorem readOldestPatch_append (mark : Bool) (hahead : ∀ k ∈ ahead, ¬ (k.kind = .patch ∧ k.closed = true ∧ k.read = false))
    (hg : g.kind = .patch ∧ g.closed = true ∧ g.read = false) (rest : List Segment) :
    readOldestPatch mark (ahead ++ g :: rest) =
      ahead ++ { g with read := true } :: if mark then markUntilPatch rest else rest := by
  induction ahead with
  | nil => exact if_pos ((unreadPatch_iff g).2 hg)
  | cons k ahead ih =>
    rw [List.cons_append, readOldestPatch, if_neg (mt (unreadPatch_iff k).1 (hahead k (by simp))),
      ih fun x hx => hahead x (by simp [hx]), List.cons_append]

/-- R100: the prints up to the next PATCH are marked, and no segment behind it. -/
theorem markUntilPatch_append (hbehind : ∀ k ∈ behind, k.kind ≠ .patch) (hafter : ∀ k rest, after = k :: rest → k.kind = .patch) :
    markUntilPatch (behind ++ after) =
      behind.map (fun k => if k.isPrint = true then { k with suspect := true } else k) ++ after := by
  induction behind with
  | nil =>
    cases after with
    | nil => rfl
    | cons k rest => simp [markUntilPatch, hafter k rest rfl]
  | cons k behind ih =>
    have hrest := ih fun x hx => hbehind x (by simp [hx])
    have hk := hbehind k (by simp)
    rw [List.cons_append, markUntilPatch]
    cases hkind : k.kind with
    | patch => exact absurd hkind hk
    | print | leader | blank => simp [hrest, Segment.isPrint, hkind]

/-- R107: the prints a reading newly marks. -/
theorem newlyMarked_append (hbehind : ∀ k ∈ behind, k.kind ≠ .patch) (hafter : ∀ k rest, after = k :: rest → k.kind = .patch) :
    newlyMarked (behind ++ after) = behind.countP fun k => k.isPrint && !k.suspect := by
  induction behind with
  | nil =>
    cases after with
    | nil => rfl
    | cons k rest => simp [newlyMarked, hafter k rest rfl]
  | cons k behind ih =>
    have hrest := ih fun x hx => hbehind x (by simp [hx])
    have hk := hbehind k (by simp)
    rw [List.cons_append, newlyMarked, List.countP_cons]
    cases hkind : k.kind with
    | patch => exact absurd hkind hk
    | print => cases hsuspect : k.suspect <;> simp [hrest, Segment.isPrint, hkind, hsuspect, add_comm]
    | leader | blank => simp [hrest, Segment.isPrint, hkind]

end

/-- R107: the record a reading keeps. -/
def readingTaken (d : Density) (g : Segment) (behind : List Segment) (e : PerChannel Int) : Reading :=
  { start := g.start, cls := readingClass d.q e, suspect := g.suspect, spoiled := g.spoiled, preReset := g.preReset
    errors := e, offsets := (d.take g behind e).offsets, implausible := (d.take g behind e).implausible
    fault := (d.take g behind e).fault, marked := if readingClass d.q e = .good then 0 else newlyMarked behind }

/-- R98 to R101: a fit reading that is not IMPLAUSIBLE steers the offsets; implausible ones are counted. -/
theorem take_eq (d : Density) (g : Segment) (behind : List Segment) (e : PerChannel Int) :
    (d.take g behind e).offsets =
        (if (!g.suspect && !g.spoiled && !g.preReset) = true ∧ readingClass d.q e ≠ .implausible then
          d.offsets.zip (steer d.a) e else d.offsets)
      ∧ (d.take g behind e).implausible =
        (if (!g.suspect && !g.spoiled && !g.preReset) = false then d.implausible
          else if readingClass d.q e = .implausible then min 255 (d.implausible + 1) else 0)
      ∧ (d.take g behind e).fault = (d.fault || ((!g.suspect && !g.spoiled && !g.preReset)
          && readingClass d.q e == .implausible && decide (2 ≤ min 255 (d.implausible + 1)))) := by
  unfold Density.take satAdd
  generalize (!g.suspect && !g.spoiled && !g.preReset) = fit
  cases fit <;> by_cases h : readingClass d.q e = .implausible <;> simp [h]

/-- Settles O52. -/
theorem patchReadingSteersAndMarks : Obligations.PatchReadingSteersAndMarks := by
  intro s m0 m1 m2 htaking
  refine ⟨fun hbad => ?_, fun h0 h1 h2 hnone => ?_, fun ahead g behind after e0 e1 e2 largest cls fit offset h0 h1 h2 hmap
    hpatch hclosed hunread hahead hbehind hafter he0 he1 he2 hlargest hcls hfit hoffset => ?_⟩
  · refine refusedWith_of_refuse rfl htaking rfl rfl ?_
    rw [servePatchReading, if_pos hbad]
  · refine refusedWith_of_refuse rfl htaking rfl rfl ?_
    rw [servePatchReading, if_neg (by omega), oldestUnreadPatch_eq_none hnone]
  · have hclass : cls = readingClass s.density.q (errorsOf s.density m0 m1 m2) := by
      rw [hcls, hlargest, he0, he1, he2]
      rfl
    subst hfit
    obtain ⟨hoffsets, hcount, hfault⟩ := take_eq s.density g (behind ++ after) (errorsOf s.density m0 m1 m2)
    rw [← hclass] at hoffsets hcount hfault
    have hold := oldestUnreadPatch_append hahead ⟨hpatch, hclosed, hunread⟩ (behind ++ after)
    rw [← hmap] at hold
    obtain ⟨hexec, hreplied⟩ := answered_of_served (c := .patchReading .engine m0 m1 m2)
      (t := patchRead s g (behind ++ after) (errorsOf s.density m0 m1 m2))
      (r := .taken false (readingRecord (readingTaken s.density g (behind ++ after) (errorsOf s.density m0 m1 m2))))
      rfl htaking rfl rfl (by
        rw [servePatchReading, if_neg (by omega), hold]
        rfl)
    refine ⟨_, readingTaken s.density g (behind ++ after) (errorsOf s.density m0 m1 m2), hexec, ?_, hcount, hfault, ?_, ?_,
      rfl, ?_, onlyChanges_answered (onlyChanges_mono (onlyChanges_patchRead s g _ _) (by decide)) (by decide)
        (.inl (by decide))⟩
    · refine hoffsets.trans ?_
      rw [hoffset, he0, he1, he2]
      split <;> rfl
    · show readOldestPatch (readingClass s.density.q (errorsOf s.density m0 m1 m2) != .good) s.web.map = _
      rw [hmap, readOldestPatch_append _ hahead ⟨hpatch, hclosed, hunread⟩, ← hclass, markUntilPatch_append hbehind hafter]
      by_cases hgood : cls = .good
      · simp [hgood]
      · simp [hgood]
    · rw [readingTaken, ← hclass, newlyMarked_append hbehind hafter, he0, he1, he2]
      rfl
    · rw [← readingRecord_eq]
      exact hreplied

end Sys2Proof.Readings

/-! Cuts: missed-cut detection at a cut, and the cuts that pop nothing. O50. -/

namespace Sys2Proof.Cuts

open Sys2Proof.Machine Sys2Proof.Laws Sys2Proof.OrdersAndItems Sys2Proof.Magazines Sys2Proof.Sorting Sys2Proof.Till
open Sys2Proof.Steps Sys2Proof.WebMap Sys2Proof.Registry Sys2Proof.Controls Sys2Proof.Reads Sys2Proof.IdleStrobes

/-! ## What every cut records -/

/-- The state once a cut is counted and its record kept (R127). -/
def cutRecorded (u : State) (record : CutRecord) : State :=
  { u with web := { u.web with cutsTaken := satAdd 65535 u.web.cutsTaken 1, lastCut := some record } }

theorem onlyChanges_cutRecorded (u : State) (record : CutRecord) : OnlyChanges [.cuts] u (cutRecorded u record) := by
  intro p hp
  cases p <;> simp_all [Same, State.port, cutRecorded]

theorem exec_cut {s u : State} {record : CutRecord} (htaking : Taking s .engine .cut []) (htake : s.takeCut = (u, record)) :
    exec (.cut .engine) s = .next (s.answered .engine (cutRecorded u record, .taken false record.layout))
      ∧ Replied (s.answered .engine (cutRecorded u record, .taken false record.layout)) .engine .ok record.layout :=
  answered_of_served (c := .cut .engine) (t := cutRecorded u record) (r := .taken false record.layout) rfl htaking rfl rfl
    (by rw [serveCut, htake, ← cutRecordBytes_eq]; rfl)

/-- A cut taken alike in two states that call alike for a new attempt leaves them alike. -/
theorem exec_cut_congr {s s' : State} (htaking : Taking s .engine .cut []) (htaking' : Taking s' .engine .cut [])
    (htake : s.takeCut = s'.takeCut) (hstart : s'.startConditions = s.startConditions) (hdue : s'.patchDue = s.patchDue)
    (hreserve : s'.scheduler.endReserve = s.scheduler.endReserve) : exec (.cut .engine) s = exec (.cut .engine) s' := by
  rw [(exec_cut (u := s'.takeCut.1) (record := s'.takeCut.2) htaking htake).1,
    (exec_cut (u := s'.takeCut.1) (record := s'.takeCut.2) htaking' rfl).1, State.answered, State.answered,
    State.noteCauses, State.noteCauses, hstart, hdue, hreserve]

/-- R35: a map of the same length leaves the start conditions as they are. -/
theorem startConditions_of_length {s t : State} (hsch : t.scheduler = s.scheduler) (hchannel : t.channel = s.channel)
    (hdensity : t.density = s.density) {map : List Segment} {n : Nat} {r : Option CutRecord}
    (hweb : t.web = { s.web with map := map, cutsTaken := n, lastCut := r }) (hlength : map.length = s.web.map.length) :
    t.startConditions = s.startConditions := by
  unfold State.startConditions
  rw [hsch, hchannel, hdensity, hweb]
  simp only [hlength]

/-! ## Missed-cut detection that changes nothing -/

section
variable {lpath : Nat} {position : Word32} {before after : List Segment} {k : Segment}

theorem mergePassed_of_merged {map : List Segment} (h : ∀ g ∈ map, g.merged = true) : mergePassed lpath position map = map := by
  induction map with
  | nil => rfl
  | cons g rest ih => rw [mergePassed, if_pos (h g (by simp)), ih fun x hx => h x (by simp [hx])]

theorem mergePassed_of_stop (hbefore : ∀ m ∈ before, m.merged = true) (hk : k.merged = false)
    (hstop : k.closed = false ∨ signedDiff position (k.start + BitVec.ofNat 32 (k.length + lpath)) ≤ 25) :
    mergePassed lpath position (before ++ k :: after) = before ++ k :: after := by
  refine (passedMerged_unique ⟨before, k :: after, rfl, ?_, fun m hm => .inl (hbefore m hm), ?_⟩).symm
  · rw [List.map_congr_left (g := id) fun m hm => by rw [← hbefore m hm]; rfl, List.map_id]
  · rintro x rest hx
    obtain ⟨rfl, rfl⟩ := List.cons.inj hx
    exact ⟨hk, hstop⟩

/-- R122: what detection has merged it does not merge again. -/
theorem mergePassed_idem (map : List Segment) :
    mergePassed lpath position (mergePassed lpath position map) = mergePassed lpath position map := by
  obtain ⟨passed, left, -, hafter, -, hleft⟩ := mergePassed_passedMerged lpath position map
  rw [hafter]
  have hmerged : ∀ m ∈ passed.map (fun k => { k with merged := true }), m.merged = true := by
    intro m hm
    obtain ⟨x, -, rfl⟩ := List.mem_map.1 hm
    rfl
  cases left with
  | nil => exact mergePassed_of_merged (by simpa using hmerged)
  | cons k rest =>
    obtain ⟨hk, hstop⟩ := hleft k rest rfl
    exact mergePassed_of_stop hmerged hk hstop

theorem length_mergePassed (map : List Segment) : (mergePassed lpath position map).length = map.length := by
  have h := congrArg List.length (outline_mergePassed lpath position map)
  simpa [outline] using h

end

theorem detectMissedCuts_of_same {s : State} (h : mergePassed s.web.lpath s.web.odometer s.web.map = s.web.map) :
    s.detectMissedCuts = s := by
  unfold State.detectMissedCuts
  split
  · rfl
  · rw [h]
    exact if_neg fun hc => hc.1 rfl

/-! ## Early cuts -/

/-- The record of a cut that pops nothing. -/
theorem takeCut_early {s : State} {d : Option Int} (hfault : s.web.fault = none)
    (hsame : mergePassed s.web.lpath s.web.odometer s.web.map = s.web.map)
    (hjudge : s.judgeCut = s.earlyCut d) : s.takeCut = s.earlyCut d := by
  rw [State.takeCut, if_neg (by simp [hfault]), detectMissedCuts_of_same hsame, hjudge]

theorem judgeCut_of_noReference {s : State} (h : NoReference s.web.map) : s.judgeCut = s.earlyCut none := by
  unfold State.judgeCut
  rw [(reference?_eq_none_iff s.web).2 h]

theorem judgeCut_of_reference {s : State} {before after : List Segment} {k : Segment}
    (hmap : s.web.map = before ++ k :: after) (hbefore : ∀ m ∈ before, m.merged = true) (hk : k.merged = false)
    (hclosed : k.closed = true) : s.judgeCut =
      if -25 ≤ k.deviation s.web.lpath s.web.odometer ∧ k.deviation s.web.lpath s.web.odometer ≤ 25 then
        s.matchedCut before.length (k.deviation s.web.lpath s.web.odometer)
      else s.earlyCut (some (k.deviation s.web.lpath s.web.odometer)) := by
  have href : s.web.reference? = some (before.length, k) := by
    rw [Web.reference?, hmap, referenceFrom_append hbefore hk, if_pos hclosed, Nat.zero_add]
  unfold State.judgeCut
  rw [href]

theorem length_splitHead (map : List Segment) : (splitHead map).length = map.length := by cases map <;> rfl

theorem noReference_of_merged {map : List Segment} (h : ∀ g ∈ map, g.merged = true) : NoReference map := by
  rintro ahead k rest rfl - hk
  exact absurd (h k (by simp)) (by simp [hk])

theorem noReference_spoiled {map : List Segment} (h : NoReference map) :
    NoReference (map.map fun g => { g with spoiled := true }) := by
  intro ahead k rest hmap hahead hk
  obtain ⟨ahead', behind, rfl, rfl, hbehind⟩ := List.map_eq_append_iff.1 hmap
  obtain ⟨k', rest', rfl, rfl, -⟩ := List.map_eq_cons_iff.1 hbehind
  exact h ahead' k' rest' rfl (fun g hg => hahead { g with spoiled := true } (List.mem_map_of_mem hg)) hk

theorem onlyChanges_countReject (s : State) : OnlyChanges [.rejectCount] s s.countReject := by
  intro p hp
  cases p <;> simp_all [Same, State.port]

theorem onlyChanges_early_answered {s : State} (d : Option Int) (record : CutRecord) : OnlyChanges
    [.map, .cuts, .rejectCount, .port .engine] s
    (s.answered .engine (cutRecorded (s.earlyCut d).1 record, .taken false record.layout)) :=
  onlyChanges_answered (onlyChanges_mono (onlyChanges_trans (onlyChanges_earlyCut s d) (onlyChanges_cutRecorded _ record))
    (by decide)) (by decide) (.inr ⟨startConditions_of_length rfl rfl rfl rfl (length_splitHead _), rfl, rfl⟩)

/-- Settles O50. -/
theorem cutThatPopsNothing : Obligations.CutThatPopsNothing := by
  intro s htaking
  refine ⟨fun after hfault hshape hpassed => ?_, fun d hfault hcase => ?_, fun hfault hopen => ?_⟩
  · obtain rfl := passedMerged_unique hpassed
    obtain ⟨hloses, hsynced⟩ := detectMissedCuts_cases hshape.2.2.1 rfl
    refine ⟨fun hkept => ?_, fun hlost' => ?_⟩
    · have hdetected : s.detectMissedCuts = { s with web := { s.web with
          map := mergePassed s.web.lpath s.web.odometer s.web.map } } := by
        rw [hsynced hkept, if_neg (by simp [hfault])]
      have hagain := detectMissedCuts_of_same (s := { s with web := { s.web with
          map := mergePassed s.web.lpath s.web.odometer s.web.map } }) (mergePassed_idem s.web.map)
      have htake : s.takeCut = State.takeCut { s with web := { s.web with
          map := mergePassed s.web.lpath s.web.odometer s.web.map } } := by
        unfold State.takeCut
        rw [if_neg (by simp [hfault]), if_neg (by simp [hfault]), hdetected, hagain]
      have hstart : State.startConditions { s with web := { s.web with
          map := mergePassed s.web.lpath s.web.odometer s.web.map } } = s.startConditions :=
        startConditions_of_length rfl rfl rfl rfl (length_mergePassed s.web.map)
      exact exec_cut_congr htaking htaking htake hstart rfl rfl
    · have hlost := hloses hlost'
      have hquiet : NoReference s.detectMissedCuts.web.map := by
        obtain ⟨-, -, hnone, -, -⟩ := hlost'
        rw [hlost.2.1]
        exact noReference_spoiled hnone
      have htake : s.takeCut = s.detectMissedCuts.earlyCut none := by
        rw [State.takeCut, if_neg (by simp [hfault]), judgeCut_of_noReference hquiet]
      have hdetect := onlyChanges_detectMissedCuts s
      obtain ⟨hcause, hmap, hwork, hselection, hqueue, hexposure, hpending⟩ := hlost
      obtain ⟨hexec, hreplied⟩ := exec_cut htaking htake
      refine ⟨_, _, hexec, hcause, ?_, hwork, hselection, hqueue, hexposure, hpending, ?_, ?_, ?_, rfl, hreplied, ?_⟩
      · show splitHead s.detectMissedCuts.web.map = _
        rw [hmap]
        cases mergePassed s.web.lpath s.web.odometer s.web.map <;> rfl
      · exact congrArg (fun n => satAdd 65535 n 1) (hdetect .rejectCount (by decide))
      · exact congrArg (fun n => satAdd 65535 n 1) (hdetect .cuts (by decide)).1
      · exact congrArg (fun p => nothingCut .early p none) (hdetect .odometer (by decide))
      · exact onlyChanges_answered (onlyChanges_mono (onlyChanges_trans hdetect
          (onlyChanges_trans (onlyChanges_earlyCut _ none) (onlyChanges_cutRecorded _ _))) (by decide)) (by decide)
          (.inl (by decide))
  · have hearly : s.takeCut = s.earlyCut d := by
      obtain ⟨hnone, rfl⟩ | ⟨before, k, after, x, hmap, hbefore, hk, hclosed, rfl, hx, rfl⟩ := hcase
      · have hall (hmerged : ∀ m ∈ s.web.map, m.merged = true) : s.takeCut = s.earlyCut none :=
          takeCut_early hfault (mergePassed_of_merged hmerged) (judgeCut_of_noReference (noReference_of_merged hmerged))
        obtain hnil | hmerged | ⟨before, k, after, hmap, hbefore, hk, hopen⟩ := hnone
        · exact hall (by simp [hnil])
        · exact hall hmerged
        · refine takeCut_early hfault ?_ (judgeCut_of_noReference ?_)
          · rw [hmap]
            exact mergePassed_of_stop hbefore hk (.inl hopen)
          · rw [← reference?_eq_none_iff, Web.reference?, hmap, referenceFrom_append hbefore hk, if_neg (by simp [hopen])]
      · refine takeCut_early hfault ?_ ((judgeCut_of_reference hmap hbefore hk hclosed).trans (if_neg fun h => ?_))
        · rw [hmap]
          exact mergePassed_of_stop hbefore hk (.inr (by omega))
        · exact absurd h.1 (not_le.2 hx)
    obtain ⟨hexec, hreplied⟩ := exec_cut htaking hearly
    refine ⟨_, _, hexec, fun hnil => ?_, fun g rest hmap => ?_, rfl, rfl, rfl, rfl, hreplied,
      onlyChanges_early_answered d _⟩
    · exact congrArg splitHead hnil
    · exact congrArg splitHead hmap
  · have hnothing : s.takeCut = (s.countReject, nothingCut .duringFault s.web.odometer none) := by
      rw [State.takeCut, if_pos hfault, State.faultCut]
      split
      · next g rest hmap => rw [if_neg (by simp [hopen g rest hmap])]
      · rfl
    obtain ⟨hexec, hreplied⟩ := exec_cut htaking hnothing
    exact ⟨_, _, hexec, rfl, rfl, rfl, rfl, hreplied, onlyChanges_answered (onlyChanges_mono
      (onlyChanges_trans (onlyChanges_countReject s) (onlyChanges_cutRecorded _ _)) (by decide)) (by decide)
      (.inr ⟨rfl, rfl, rfl⟩)⟩

end Sys2Proof.Cuts

/-! The completion and draining checks, and the copies that leave the web undelivered. -/

namespace Sys2Proof.Disposal

open Sys2Proof.Machine Sys2Proof.Laws Sys2Proof.OrdersAndItems Sys2Proof.Magazines Sys2Proof.Sorting Sys2Proof.Till
open Sys2Proof.Steps Sys2Proof.WebMap Sys2Proof.Pool Sys2Proof.Registry Sys2Proof.Controls

/-! ## The check of an order (R13, R15, R21) -/

/-- R15, R21: the record of an order after its check; none where it is freed. -/
def checkedOrder (s : State) (slot : Nat) (o : Order) : Option Order :=
  if completes s slot o = true then some (completed o)
  else if drains s slot o = true then
    if o.requester ≠ .nobody then some { o with cancelNotice := true } else if o.collectedPartial then none else some o
  else some o

theorem workSame_refl (s : State) : WorkSame s s := ⟨rfl, ⟨rfl, rfl⟩, rfl, rfl⟩

theorem workSame_of_eq {s t : State} (hr : t.resampler = s.resampler) (hf : t.fetch = s.fetch) : WorkSame s t := by
  unfold WorkSame Same
  simp [hr, hf]

theorem workSame_trans {s u t : State} (h : WorkSame s u) (k : WorkSame u t) : WorkSame s t := by
  obtain ⟨hwork, ⟨hrowA, hrowB⟩, hflight, htimer⟩ := h
  obtain ⟨kwork, ⟨krowA, krowB⟩, kflight, ktimer⟩ := k
  exact ⟨kwork.trans hwork, ⟨krowA.trans hrowA, krowB.trans hrowB⟩, kflight.trans hflight, ktimer.trans htimer⟩

theorem workEnded_of_same {s t : State} (h : WorkSame s t) (hended : WorkEnded s) : WorkEnded t := by
  obtain ⟨hwork, ⟨hrowA, hrowB⟩, hflight, htimer⟩ := h
  obtain ⟨kwork, krowA, krowB, kflight, ktimer⟩ := hended
  exact ⟨hwork.trans kwork, hrowA.trans krowA, hrowB.trans krowB, hflight.trans kflight, htimer.trans ktimer⟩

theorem trailingWorkOf_iff {s t : State} (h : WorkSame s t) (slot : Nat) : TrailingWorkOf t slot ↔ TrailingWorkOf s slot := by
  obtain ⟨hwork, -⟩ := h
  unfold TrailingWorkOf
  rw [show t.resampler.work = s.resampler.work from hwork]

theorem trailing_congr {p q : Nat → Prop} {s u t v : State} (h : TrailingEndsWith p u t) (hpq : ∀ k, p k ↔ q k)
    (hu : WorkSame s u) (ht : WorkSame t v) : TrailingEndsWith q s v := by
  obtain ⟨hended, hkept⟩ := h
  refine ⟨fun ⟨slot, hq, hw⟩ => ?_, fun hnone => ?_⟩
  · exact workEnded_of_same ht (hended ⟨slot, (hpq slot).2 hq, (trailingWorkOf_iff hu slot).2 hw⟩)
  · exact workSame_trans hu (workSame_trans (hkept fun slot hp hw =>
      hnone slot ((hpq slot).1 hp) ((trailingWorkOf_iff hu slot).1 hw)) ht)

theorem trailingEndsWith_none {completing : Nat → Prop} {s t : State} (hnone : ∀ slot, ¬ completing slot)
    (hsame : WorkSame s t) : TrailingEndsWith completing s t :=
  ⟨fun ⟨slot, h, _⟩ => absurd h (hnone slot), fun _ => hsame⟩

/-- R15, R68: only a trailing work of the order is aborted. -/
theorem trailing_abortTrailingWorkOf (s : State) (slot : Nat) :
    TrailingEndsWith (fun k => k = slot) s (s.abortTrailingWorkOf slot) := by
  unfold State.abortTrailingWorkOf
  cases hwork : s.resampler.work with
  | none =>
    refine ⟨fun ⟨k, _, w, start, hw, _⟩ => ?_, fun _ => ⟨rfl, ⟨rfl, rfl⟩, rfl, rfl⟩⟩
    rw [hwork] at hw
    cases hw
  | some w =>
    dsimp only
    by_cases h : w.isTrailing = true ∧ w.slot? = some slot
    · rw [if_pos h]
      refine ⟨fun _ => ⟨rfl, rfl, rfl, rfl, rfl⟩, fun hnone => absurd ?_ (hnone slot rfl)⟩
      obtain ⟨htrailing, hslot⟩ := h
      cases howner : w.owner with
      | trailing start => exact ⟨w, start, hwork, howner, hslot⟩
      | selection | exposed => simp [Work.isTrailing, howner] at htrailing
    · rw [if_neg h]
      refine ⟨fun ⟨k, hk, v, start, hv, howner, hslot⟩ => absurd ?_ h, fun _ => ⟨rfl, ⟨rfl, rfl⟩, rfl, rfl⟩⟩
      obtain rfl : w = v := Option.some.inj (hwork.symm.trans hv)
      exact ⟨by simp [Work.isTrailing, howner], hk ▸ hslot⟩

section
variable {s : State} {slot : Nat} {o : Order} (ho : s.order? slot = some o)
include ho

theorem order?_accountCheck (k : Nat) :
    (s.accountCheck slot).order? k = if k = slot then checkedOrder s slot o else s.order? k := by
  rw [accountCheck_of_order ho, checkedOrder]
  split
  · rw [order?_completeOrder, ho]
    rfl
  · split
    · unfold State.drainOrder
      split
      · rw [order?_modifyOrder, ho]
        rfl
      · split
        · exact order?_freeRecord s slot k
        · split
          · next h => rw [h, ho]
          · rfl
    · split
      · next h => rw [h, ho]
      · rfl

theorem items_accountCheck (r : Nat) : Table.get? (s.accountCheck slot).orderTable.items r =
    if r ∈ o.items ∧ checkedOrder s slot o = none then none else Table.get? s.orderTable.items r := by
  rw [accountCheck_of_order ho, checkedOrder]
  split
  · rw [completeOrder_orderTable_items, if_neg (by simp)]
  · split
    · unfold State.drainOrder
      split
      · rw [if_neg (by simp)]
        rfl
      · split
        · obtain ⟨-, -, hgone, hkept⟩ := recordFreed_freeRecord ho
          by_cases hr : r ∈ o.items
          · rw [if_pos ⟨hr, rfl⟩, hgone r hr]
          · rw [if_neg fun h => hr h.1, hkept r hr]
        · rw [if_neg (by simp)]
    · rw [if_neg (by simp)]

theorem classList_accountCheck (c : OrderClass) : (s.accountCheck slot).scheduler.classList c =
    if completes s slot o = true ∧ c = o.cls then (s.scheduler.classList c).filter fun k => k != slot
    else s.scheduler.classList c := by
  rw [accountCheck_of_order ho]
  by_cases hcomplete : completes s slot o = true
  · rw [if_pos hcomplete, removed_completeOrder ho c]
    by_cases hc : c = o.cls
    · rw [if_pos hc, if_pos ⟨hcomplete, hc⟩]
    · rw [if_neg hc, if_neg fun h => hc h.2]
  · rw [if_neg hcomplete, if_neg (not_and_of_not_left _ hcomplete)]
    split
    · unfold State.drainOrder
      split
      · rfl
      · split
        · cases c <;> simp [Scheduler.classList]
        · rfl
    · rfl

theorem bins_accountCheck (n : Nat) : Table.get? (s.accountCheck slot).sort.bins n =
    (Table.get? s.sort.bins n).map fun b => if completes s slot o = true ∧ n ∈ o.bins then b.afterCompletion s else b := by
  rw [accountCheck_of_order ho]
  by_cases hcomplete : completes s slot o = true
  · rw [if_pos hcomplete, bins_completeOrder ho, get?_modifyAll]
    by_cases hn : n ∈ o.bins
    · rw [if_pos hn]
      simp only [hcomplete, hn, and_self, if_true]
      rfl
    · rw [if_neg hn]
      simp [hn]
  · rw [if_neg hcomplete]
    have hsame : (if drains s slot o = true then s.drainOrder slot o else s).sort.bins = s.sort.bins := by
      split
      · unfold State.drainOrder
        split
        · rfl
        · split
          · rw [freeRecord_sort]
          · rfl
      · rfl
    simp [hsame, hcomplete]

theorem trailing_accountCheck :
    TrailingEndsWith (fun k => k = slot ∧ completes s slot o = true) s (s.accountCheck slot) := by
  rw [accountCheck_of_order ho]
  split
  · next h =>
    have hbefore : WorkSame s (((s.modifyOrder slot fun o => { o with state := .complete, completeUnreported := true }).delist
        slot).binsToWaiting slot) :=
      workSame_of_eq (by simp [State.modifyOrder]) (by simp [State.modifyOrder])
    exact trailing_congr (trailing_abortTrailingWorkOf _ slot) (fun k => by simp [h]) hbefore (workSame_refl _)
  · next h =>
    refine trailingEndsWith_none (fun k hk => h hk.2) ?_
    split
    · unfold State.drainOrder
      split
      · exact workSame_refl s
      · split
        · exact workSame_of_eq (by simp) (by simp)
        · exact workSame_refl s
    · exact workSame_refl s

end

end Sys2Proof.Disposal

/-! Copies that leave the web undelivered, one after another. -/

namespace Sys2Proof.Disposal

open Sys2Proof.Machine Sys2Proof.Laws Sys2Proof.OrdersAndItems Sys2Proof.Magazines Sys2Proof.Sorting Sys2Proof.Till
open Sys2Proof.Steps Sys2Proof.WebMap Sys2Proof.Pool Sys2Proof.Registry Sys2Proof.Controls

/-! ## The terms of the disposal -/

theorem disposed_zero (i : Item) (limit : Nat) (state : OrderState) : i.disposed limit state 0 = i := by
  simp [Item.disposed, Item.remadeOf]

/-- R14: copies disposed of in two goes are disposed of as in one. -/
theorem disposed_disposed (i : Item) (limit : Nat) (state : OrderState) (a b : Nat) :
    (i.disposed limit state a).disposed limit state b = i.disposed limit state (a + b)
      ∧ i.remadeOf limit state a + (i.disposed limit state a).remadeOf limit state b = i.remadeOf limit state (a + b) := by
  by_cases h : i.faulted = true ∨ state = .withdrawn
  · simp [Item.disposed, Item.remadeOf, h]
    omega
  · simp [Item.disposed, Item.remadeOf, h]
    omega

/-- R14: one copy that is on the web. -/
theorem copyMoved_eq {i : Item} (limit : Nat) (state : OrderState) (h : 1 ≤ i.onWeb) :
    copyMoved (i.mayRemake limit state) i = i.disposed limit state 1
      ∧ i.remadeOf limit state 1 = if i.mayRemake limit state = true then 1 else 0 := by
  have hne : i.onWeb ≠ 0 := by omega
  by_cases hremake : i.mayRemake limit state = true
  · have hmay := hremake
    simp only [Item.mayRemake, Bool.and_eq_true, decide_eq_true_eq, Bool.not_eq_true', bne_iff_ne] at hmay
    obtain ⟨⟨hlimit, hsound⟩, hstate⟩ := hmay
    have hone : i.remadeOf limit state 1 = 1 := by
      rw [Item.remadeOf, if_neg (by simp [hsound, hstate])]
      omega
    rw [hremake, Item.disposed, hone]
    simp [copyMoved, Item.remake, hne]
  · have hnone : i.remadeOf limit state 1 = 0 := by
      unfold Item.remadeOf
      split
      · rfl
      · next h =>
        simp only [Item.mayRemake, Bool.and_eq_true, decide_eq_true_eq, Bool.not_eq_true', bne_iff_ne, not_or,
          Bool.not_eq_true] at hremake h
        have : ¬ i.remakesUsed < limit := fun hlt => hremake ⟨⟨hlt, h.1⟩, h.2⟩
        omega
    rw [Bool.eq_false_iff.2 hremake, Item.disposed, hnone]
    simp [copyMoved, Item.writeOff, hne]

section
variable {segs : List Segment} {slot : Nat}

theorem isPrintFrom_of_isPrintOf {n : Nat} {g : Segment} (h : g.isPrintOf slot n = true) : g.isPrintFrom slot = true := by
  unfold Segment.isPrintOf at h
  unfold Segment.isPrintFrom
  split at h <;> simp_all

theorem countP_of_absent (h : segs.any (Segment.isPrintFrom slot) = false) (n : Nat) :
    segs.countP (Segment.isPrintOf slot n) = 0 := by
  rw [List.countP_eq_zero]
  rw [List.any_eq_false] at h
  exact fun g hg hprint => h g hg (isPrintFrom_of_isPrintOf hprint)

theorem orderAfter_of_absent (s : State) (o : Order) (h : segs.any (Segment.isPrintFrom slot) = false) :
    orderAfter s segs slot o = some o ∧ completesBy s segs slot o = false := by
  simp [orderAfter, completesBy, drainsBy, h]

/-- The items of an order after the disposal, by number. -/
theorem itemsAfter_all (s : State) (o : Order) (p : Item → Bool) : (itemsAfter s segs slot o).all p = true ↔
    ∀ n i, (o.items[n]?).bind (Table.get? s.orderTable.items) = some i →
      p (i.disposed s.orderTable.remakeLimit o.state (segs.countP (Segment.isPrintOf slot n))) = true := by
  simp only [itemsAfter, List.all_eq_true, List.mem_filterMap, List.mem_range, Option.map_eq_some_iff]
  constructor
  · intro h n i hi
    obtain ⟨r, hr, -⟩ := Option.bind_eq_some_iff.1 hi
    exact h _ ⟨n, (List.getElem?_eq_some_iff.1 hr).1, i, hi, rfl⟩
  · rintro h _ ⟨n, -, i, hi, rfl⟩
    exact h n i hi

end

/-! ## Disposals one behind another -/

theorem trailing_trans {p q : Nat → Prop} {s u t : State} (h : TrailingEndsWith p s u) (k : TrailingEndsWith q u t) :
    TrailingEndsWith (fun slot => p slot ∨ q slot) s t := by
  by_cases hp : ∃ slot, p slot ∧ TrailingWorkOf s slot
  · have hended := h.1 hp
    have hnone : ∀ slot, ¬ TrailingWorkOf u slot := by
      rintro slot ⟨w, start, hw, -⟩
      rw [hended.1] at hw
      cases hw
    have hstays := workEnded_of_same (k.2 fun slot _ => hnone slot) hended
    refine ⟨fun _ => hstays, fun hquiet => ?_⟩
    obtain ⟨slot, hslot, htrailing⟩ := hp
    exact absurd htrailing (hquiet slot (.inl hslot))
  · have hsame : WorkSame s u := h.2 fun slot hslot htrailing => hp ⟨slot, hslot, htrailing⟩
    refine ⟨fun ⟨slot, hslot, htrailing⟩ => ?_, fun hquiet => ?_⟩
    · rcases hslot with hslot | hslot
      · exact absurd ⟨slot, hslot, htrailing⟩ hp
      · exact k.1 ⟨slot, hslot, (trailingWorkOf_iff hsame slot).2 htrailing⟩
    · exact workSame_trans hsame (k.2 fun slot hslot htrailing =>
        hquiet slot (.inr hslot) ((trailingWorkOf_iff hsame slot).1 htrailing))

theorem orderAfter_keeps {s : State} {segs : List Segment} {slot : Nat} {o p : Order} (h : orderAfter s segs slot o = some p) :
    p.items = o.items ∧ p.cls = o.cls ∧ p.bins = o.bins ∧ p.ticket = o.ticket := by
  unfold orderAfter at h
  split at h
  · cases h
    exact ⟨rfl, rfl, rfl, rfl⟩
  · split at h
    · split at h
      · cases h
        exact ⟨rfl, rfl, rfl, rfl⟩
      · split at h
        · cases h
        · cases h
          exact ⟨rfl, rfl, rfl, rfl⟩
    · cases h
      exact ⟨rfl, rfl, rfl, rfl⟩

section
variable {s u t : State} {a b : List Segment}

/-- R15, R21: an order of which copies are still to leave the web neither completes nor drains. -/
theorem orderAfter_of_more (hweb : CopiesOnWeb (a ++ b) s) {slot : Nat} {o : Order} (ho : s.order? slot = some o)
    (hmore : b.any (Segment.isPrintFrom slot) = true) :
    orderAfter s a slot o = some o ∧ completesBy s a slot o = false := by
  obtain ⟨g, hg, hfrom⟩ := List.any_eq_true.1 hmore
  obtain ⟨n, copy, hkind⟩ : ∃ n copy, g.kind = .print slot n copy := by
    unfold Segment.isPrintFrom at hfrom
    split at hfrom
    · next k n copy hk => exact ⟨n, copy, by rw [hk, eq_of_beq hfrom]⟩
    · cases hfrom
    · cases hfrom
    · cases hfrom
  obtain ⟨p, r, i, hp, hr, hi, hcount⟩ := hweb g (List.mem_append_right _ hg) slot n copy hkind
  obtain rfl : p = o := Option.some.inj (hp.symm.trans ho)
  have hone : 1 ≤ b.countP (Segment.isPrintOf slot n) :=
    List.countP_pos_iff.2 ⟨g, hg, by simp [Segment.isPrintOf, hkind]⟩
  rw [List.countP_append] at hcount
  have hitem : (p.items[n]?).bind (Table.get? s.orderTable.items) = some i := by rw [hr, Option.bind_some, hi]
  have hstays (q : Item → Bool) (hq : ∀ j : Item, q j = true → j.onWeb = 0) : ¬ (itemsAfter s a slot p).all q = true := by
    rw [itemsAfter_all]
    intro h
    have := hq _ (h n i hitem)
    simp only [Item.disposed] at this
    omega
  have hcomplete : completesBy s a slot p = false := by
    rw [completesBy, Bool.eq_false_iff.2 (hstays _ (by simp)), Bool.and_false]
  have hdrains : drainsBy s a slot p = false := by
    rw [drainsBy, Bool.eq_false_iff.2 (hstays _ (by simp)), Bool.and_false]
  exact ⟨by simp [orderAfter, hcomplete, hdrains], hcomplete⟩

/-- The items of an order still in use, as the disposal leaves them. -/
theorem items_of_disposed (hpool : PoolAndGross s) (h : CopiesDisposed a s u) {slot : Nat} {o : Order}
    (ho : s.order? slot = some o) (hstays : (orderAfter s a slot o).isSome = true) (n : Nat) :
    (o.items[n]?).bind (Table.get? u.orderTable.items) = ((o.items[n]?).bind (Table.get? s.orderTable.items)).map fun i =>
      i.disposed s.orderTable.remakeLimit o.state (a.countP (Segment.isPrintOf slot n)) := by
  cases hr : o.items[n]? with
  | none => rfl
  | some r =>
    obtain ⟨i, hi⟩ := item?_isSome hpool ho (List.getElem?_eq_some_iff.1 hr).1
    rw [item?_of_order ho hr] at hi
    rw [Option.bind_some, Option.bind_some, h.2.1 slot o n r i ho hr hi, if_pos hstays, hi]
    rfl

/-- Two disposals with the same copies of an order's items, from records alike, judge the order alike. -/
theorem checks_congr {v w : State} {c d : List Segment} {slot : Nat} {o : Order}
    (hany : c.any (Segment.isPrintFrom slot) = d.any (Segment.isPrintFrom slot))
    (hitems : ∀ p, (itemsAfter v c slot o).all p = (itemsAfter w d slot o).all p) :
    completesBy v c slot o = completesBy w d slot o ∧ orderAfter v c slot o = orderAfter w d slot o := by
  have hcomplete : completesBy v c slot o = completesBy w d slot o := by rw [completesBy, completesBy, hany, hitems]
  have hdrains : drainsBy v c slot o = drainsBy w d slot o := by rw [drainsBy, drainsBy, hany, hitems]
  exact ⟨hcomplete, by rw [orderAfter, orderAfter, hcomplete, hdrains]⟩

/-- R13 to R15, R21: what both disposals come to for one order. -/
theorem checks_append (hpool : PoolAndGross s) (hweb : CopiesOnWeb (a ++ b) s) (h : CopiesDisposed a s u)
    (hlimit : u.orderTable.remakeLimit = s.orderTable.remakeLimit) {slot : Nat} {o : Order} (ho : s.order? slot = some o) :
    orderAfter s (a ++ b) slot o = (orderAfter s a slot o).bind (orderAfter u b slot)
      ∧ completesBy s (a ++ b) slot o = (completesBy s a slot o || (orderAfter s a slot o).any (completesBy u b slot)) := by
  by_cases hmore : b.any (Segment.isPrintFrom slot) = true
  · obtain ⟨hstays, hnot⟩ := orderAfter_of_more hweb ho hmore
    have hmoved := items_of_disposed hpool h ho (by rw [hstays]; rfl)
    have hitems (p : Item → Bool) : (itemsAfter s (a ++ b) slot o).all p = (itemsAfter u b slot o).all p := by
      rw [Bool.eq_iff_iff, itemsAfter_all, itemsAfter_all]
      simp only [hmoved, Option.map_eq_some_iff, forall_exists_index, and_imp, hlimit, List.countP_append]
      constructor
      · rintro hall n _ i hi rfl
        rw [(disposed_disposed i _ _ _ _).1]
        exact hall n i hi
      · intro hall n i hi
        rw [← (disposed_disposed i _ _ _ _).1]
        exact hall n _ i hi rfl
    obtain ⟨hcomplete, hafter⟩ := checks_congr (by rw [List.any_append, hmore, Bool.or_true]) hitems
    rw [hstays, hnot]
    exact ⟨hafter, hcomplete⟩
  · have habsent := Bool.eq_false_iff.2 hmore
    have hsame (p : Order) := orderAfter_of_absent u p habsent
    have hitems (p : Item → Bool) : (itemsAfter s (a ++ b) slot o).all p = (itemsAfter s a slot o).all p := by
      rw [Bool.eq_iff_iff, itemsAfter_all, itemsAfter_all]
      simp only [List.countP_append, countP_of_absent habsent, Nat.add_zero]
    obtain ⟨hcomplete, hafter⟩ := checks_congr (by rw [List.any_append, habsent, Bool.or_false]) hitems
    rw [hafter, hcomplete]
    cases orderAfter s a slot o with
    | none => exact ⟨rfl, (Bool.or_false _).symm⟩
    | some p => exact ⟨(hsame p).1.symm, by rw [Option.any_some, (hsame p).2, Bool.or_false]⟩

/-- R24: the items of a freed record are free. -/
theorem items_of_freed {segs : List Segment} (hpool : PoolAndGross s) (hpool' : PoolAndGross t) {slot r : Nat} {o : Order}
    (horders : ∀ k, t.order? k = (s.order? k).bind (orderAfter s segs k)) (ho : s.order? slot = some o)
    (hfreed : orderAfter s segs slot o = none) (hr : r ∈ o.items) : Table.get? t.orderTable.items r = none := by
  obtain ⟨-, -, -, hkeys, -⟩ := (poolAndGross_iff t).1 hpool'
  obtain ⟨-, -, -, -, hdisjoint, -⟩ := (poolAndGross_iff s).1 hpool
  by_contra hin
  obtain ⟨k, p, hp, hrp⟩ := (hkeys r).1 (Option.isSome_iff_ne_none.2 hin)
  rw [horders, Option.bind_eq_some_iff] at hp
  obtain ⟨q, hq, hafter⟩ := hp
  obtain rfl := hdisjoint k slot q o r hq ho ((orderAfter_keeps hafter).1 ▸ hrp) hr
  obtain rfl : q = o := Option.some.inj (hq.symm.trans ho)
  rw [hfreed] at hafter
  cases hafter

theorem afterCompletion_idem (s : State) (b : Bin) : (b.afterCompletion s).afterCompletion s = b.afterCompletion s := by
  have hwaiting : (b.afterCompletion s).state ≠ .filling ∧ (b.afterCompletion s).state ≠ .full ∨ b.afterCompletion s = b := by
    unfold Bin.afterCompletion
    split
    · exact .inl ⟨by simp, by simp⟩
    · exact .inr rfl
  rcases hwaiting with h | h
  · exact if_neg (by simpa using h)
  · rw [h, h]

theorem binsComplete_iff {segs : List Segment} (hpool : PoolAndGross s) (n : Nat) :
    s.orderTable.orders.any (fun p => completesBy s segs p.1 p.2 && p.2.bins.contains n) = true ↔
      ∃ k o, s.order? k = some o ∧ completesBy s segs k o = true ∧ n ∈ o.bins := by
  obtain ⟨-, -, hrising, -⟩ := hpool
  simp only [List.any_eq_true, Prod.exists, mem_iff_get? hrising, Bool.and_eq_true, List.contains_iff_mem]
  rfl

/-- R13, R14: two disposals, one behind the other, are the disposal of the copies of both. -/
theorem copiesDisposed_append (hs : PoolAndGross s) (hu : PoolAndGross u) (ht : PoolAndGross t)
    (hweb : CopiesOnWeb (a ++ b) s) (h : CopiesDisposed a s u) (k : CopiesDisposed b u t)
    (hlimit : u.orderTable.remakeLimit = s.orderTable.remakeLimit) (hclock : u.timeBase = s.timeBase)
    (htime : u.sort.uncollectedTime = s.sort.uncollectedTime) : CopiesDisposed (a ++ b) s t := by
  have hchecks {slot : Nat} {o : Order} (ho : s.order? slot = some o) := checks_append hs hweb h hlimit ho
  have horders (slot : Nat) : t.order? slot = (s.order? slot).bind (orderAfter s (a ++ b) slot) := by
    rw [k.1, h.1]
    cases ho : s.order? slot with
    | none => rfl
    | some o => exact (hchecks ho).1.symm
  refine ⟨horders, fun slot o n r i ho hr hi => ?_, fun c => ?_, fun n => ?_⟩
  · cases hafter : orderAfter s (a ++ b) slot o with
    | none => exact items_of_freed hs ht horders ho hafter (List.mem_of_getElem? hr)
    | some q =>
      obtain ⟨p, hp, hq⟩ := Option.bind_eq_some_iff.1 ((hchecks ho).1.symm.trans hafter)
      have hup : u.order? slot = some p := by rw [h.1, ho]; exact hp
      have hui : Table.get? u.orderTable.items r =
          some (i.disposed s.orderTable.remakeLimit o.state (a.countP (Segment.isPrintOf slot n))) := by
        rw [h.2.1 slot o n r i ho hr hi, hp]
        rfl
      rw [k.2.1 slot p n r _ hup ((orderAfter_keeps hp).1 ▸ hr) hui, hq, hlimit, List.countP_append,
        ← (disposed_disposed i _ _ _ _).1]
      by_cases hmore : b.any (Segment.isPrintFrom slot) = true
      · obtain rfl : o = p := Option.some.inj ((orderAfter_of_more hweb ho hmore).1.symm.trans hp)
        rfl
      · rw [countP_of_absent (Bool.eq_false_iff.2 hmore), disposed_zero, disposed_zero]
  · rw [k.2.2.1, h.2.2.1, List.filter_filter]
    refine List.filter_congr fun slot _ => ?_
    rw [h.1]
    cases ho : s.order? slot with
    | none => rfl
    | some o =>
      simp only [Option.any_some, (hchecks ho).2, Option.bind_some]
      cases hp : orderAfter s a slot o with
      | none => simp
      | some p =>
        simp only [Option.any_some, (orderAfter_keeps hp).2.1]
        rw [Bool.and_or_distrib_left, Bool.not_or, Bool.and_comm]
  · have hboth : s.orderTable.orders.any (fun p => completesBy s (a ++ b) p.1 p.2 && p.2.bins.contains n) = true ↔
        s.orderTable.orders.any (fun p => completesBy s a p.1 p.2 && p.2.bins.contains n) = true
          ∨ u.orderTable.orders.any (fun p => completesBy u b p.1 p.2 && p.2.bins.contains n) = true := by
      rw [binsComplete_iff hs, binsComplete_iff hs, binsComplete_iff hu]
      constructor
      · rintro ⟨slot, o, ho, hcomplete, hn⟩
        rw [(hchecks ho).2, Bool.or_eq_true, Option.any_eq_true] at hcomplete
        rcases hcomplete with hfirst | ⟨p, hp, hsecond⟩
        · exact .inl ⟨slot, o, ho, hfirst, hn⟩
        · exact .inr ⟨slot, p, by rw [h.1, ho]; exact hp, hsecond, (orderAfter_keeps hp).2.2.1.symm ▸ hn⟩
      · rintro (⟨slot, o, ho, hfirst, hn⟩ | ⟨slot, p, hp, hsecond, hn⟩)
        · exact ⟨slot, o, ho, by rw [(hchecks ho).2, hfirst, Bool.true_or], hn⟩
        · rw [h.1, Option.bind_eq_some_iff] at hp
          obtain ⟨o, ho, hafter⟩ := hp
          exact ⟨slot, o, ho, by rw [(hchecks ho).2, hafter, Option.any_some, hsecond, Bool.or_true],
            (orderAfter_keeps hafter).2.2.1 ▸ hn⟩
    have hcompletion (c : Bin) : c.afterCompletion u = c.afterCompletion s := by
      unfold Bin.afterCompletion
      rw [hclock, htime]
    rw [k.2.2.2, h.2.2.2, Option.map_map]
    congr 1
    funext c
    simp only [Function.comp_apply, hboth, hcompletion]
    by_cases hfirst : s.orderTable.orders.any (fun p => completesBy s a p.1 p.2 && p.2.bins.contains n) = true
    · by_cases hsecond : u.orderTable.orders.any (fun p => completesBy u b p.1 p.2 && p.2.bins.contains n) = true
      · simp only [hfirst, hsecond, if_true, true_or, afterCompletion_idem]
      · simp only [hfirst, hsecond, if_true, true_or, Bool.false_eq_true, if_false]
    · simp only [hfirst, false_or, Bool.false_eq_true, if_false]

/-- The orders that complete by the first disposal or by the second. -/
theorem completesBy_append (hs : PoolAndGross s) (hweb : CopiesOnWeb (a ++ b) s) (h : CopiesDisposed a s u)
    (hlimit : u.orderTable.remakeLimit = s.orderTable.remakeLimit) (slot : Nat) :
    CompletesBy (a ++ b) s slot ↔ CompletesBy a s slot ∨ CompletesBy b u slot := by
  unfold CompletesBy
  rw [h.1]
  cases ho : s.order? slot with
  | none => simp
  | some o =>
    rw [Option.bind_some]
    simp only [Option.some.injEq, exists_eq_left', (checks_append hs hweb h hlimit ho).2, Bool.or_eq_true, Option.any_eq_true]

end

end Sys2Proof.Disposal

/-! The disposal of the copies of a list of segments. -/

namespace Sys2Proof.Disposal

open Sys2Proof.Machine Sys2Proof.Laws Sys2Proof.OrdersAndItems Sys2Proof.Magazines Sys2Proof.Sorting Sys2Proof.Till
open Sys2Proof.Steps Sys2Proof.WebMap Sys2Proof.Pool Sys2Proof.Registry Sys2Proof.Controls

/-! ## How many copies are remade -/

/-- R14: how many of an order's copies are remade. -/
def remadeOfOrder (s : State) (segs : List Segment) (slot : Nat) (o : Order) : Nat :=
  ((List.range o.items.length).map fun n =>
    match (o.items[n]?).bind (Table.get? s.orderTable.items) with
    | some i => i.remadeOf s.orderTable.remakeLimit o.state (segs.countP (Segment.isPrintOf slot n))
    | none => 0).sum

/-- R14: how many of the copies of a slot's order are remade. -/
def remadeAt (s : State) (segs : List Segment) (slot : Nat) : Nat :=
  ((s.order? slot).map (remadeOfOrder s segs slot)).getD 0

/-- A sum over the records of a table is a sum over numbers that hold all of its numbers. -/
theorem sum_table {α : Type} {T : Table α} (f : Nat → α → Nat) {keys : Finset Nat} (hrising : (T.map Prod.fst).Pairwise (· < ·))
    (hkeys : ∀ p ∈ T, p.1 ∈ keys) :
    (T.map fun p => f p.1 p.2).sum = ∑ k ∈ keys, ((Table.get? T k).map (f k)).getD 0 := by
  induction T with
  | nil => simp [Table.get?]
  | cons p rest ih =>
    obtain ⟨k, x⟩ := p
    rw [List.map_cons, List.pairwise_cons] at hrising
    have hfresh : Table.get? rest k = none := by
      by_contra hne
      obtain ⟨y, hy⟩ := Option.ne_none_iff_exists'.1 hne
      exact absurd (hrising.1 k (List.mem_map_of_mem (mem_of_get? hy))) (lt_irrefl k)
    have hsplit (j : Nat) : ((Table.get? ((k, x) :: rest) j).map (f j)).getD 0 =
        (if j = k then f k x else 0) + ((Table.get? rest j).map (f j)).getD 0 := by
      by_cases hj : j = k
      · subst hj
        simp [Table.get?, hfresh]
      · simp [Table.get?, hj, Ne.symm hj]
    rw [List.map_cons, List.sum_cons, ih hrising.2 fun q hq => hkeys q (List.mem_cons_of_mem _ hq)]
    simp only [hsplit, Finset.sum_add_distrib]
    rw [Finset.sum_ite_eq' keys k, if_pos (hkeys (k, x) List.mem_cons_self)]

section
variable {s u t : State} {a b : List Segment}

/-- R14: the copies remade, added up over slots. -/
theorem remadeIn_eq (hpool : PoolAndGross s) (segs : List Segment) {keys : Finset Nat}
    (hkeys : ∀ p ∈ s.orderTable.orders, p.1 ∈ keys) : remadeIn s segs = ∑ k ∈ keys, remadeAt s segs k := by
  obtain ⟨-, -, hrising, -⟩ := hpool
  exact sum_table (remadeOfOrder s segs) hrising hkeys

theorem remadeOfOrder_of_absent (s : State) (o : Order) {segs : List Segment} {slot : Nat}
    (h : segs.any (Segment.isPrintFrom slot) = false) : remadeOfOrder s segs slot o = 0 := by
  unfold remadeOfOrder
  refine List.sum_eq_zero fun x hx => ?_
  obtain ⟨n, -, rfl⟩ := List.mem_map.1 hx
  split
  · simp [countP_of_absent h, Item.remadeOf]
  · rfl

theorem remadeAt_append (hpool : PoolAndGross s) (hweb : CopiesOnWeb (a ++ b) s) (h : CopiesDisposed a s u)
    (hlimit : u.orderTable.remakeLimit = s.orderTable.remakeLimit) (slot : Nat) :
    remadeAt s (a ++ b) slot = remadeAt s a slot + remadeAt u b slot := by
  unfold remadeAt
  rw [h.1]
  cases ho : s.order? slot with
  | none => rfl
  | some o =>
    simp only [Option.map_some, Option.getD_some, Option.bind_some]
    by_cases hmore : b.any (Segment.isPrintFrom slot) = true
    · obtain ⟨hstays, -⟩ := orderAfter_of_more hweb ho hmore
      have hmoved := items_of_disposed hpool h ho (by rw [hstays]; rfl)
      rw [hstays]
      simp only [Option.map_some, Option.getD_some, remadeOfOrder]
      rw [← List.sum_map_add]
      refine congrArg List.sum (List.map_congr_left fun n _ => ?_)
      rw [hmoved, List.countP_append, hlimit]
      cases (o.items[n]?).bind (Table.get? s.orderTable.items) with
      | none => rfl
      | some i => exact (disposed_disposed i _ _ _ _).2.symm
    · have habsent := Bool.eq_false_iff.2 hmore
      have hrest : ((orderAfter s a slot o).map (remadeOfOrder u b slot)).getD 0 = 0 := by
        cases orderAfter s a slot o with
        | none => rfl
        | some p => exact remadeOfOrder_of_absent u p habsent
      rw [hrest, remadeOfOrder, remadeOfOrder]
      simp only [List.countP_append, countP_of_absent habsent, Nat.add_zero]

theorem remadeIn_append (hs : PoolAndGross s) (hu : PoolAndGross u) (hweb : CopiesOnWeb (a ++ b) s)
    (h : CopiesDisposed a s u) (hlimit : u.orderTable.remakeLimit = s.orderTable.remakeLimit) :
    remadeIn s (a ++ b) = remadeIn s a + remadeIn u b := by
  have hkeys (v : State) (hv : v = s ∨ v = u) : ∀ p ∈ v.orderTable.orders,
      p.1 ∈ ((s.orderTable.orders ++ u.orderTable.orders).map Prod.fst).toFinset := by
    intro p hp
    rw [List.mem_toFinset]
    refine List.mem_map_of_mem (List.mem_append.2 ?_)
    rcases hv with rfl | rfl
    · exact .inl hp
    · exact .inr hp
  rw [remadeIn_eq hs _ (hkeys s (.inl rfl)), remadeIn_eq hs _ (hkeys s (.inl rfl)), remadeIn_eq hu _ (hkeys u (.inr rfl)),
    ← Finset.sum_add_distrib]
  exact Finset.sum_congr rfl fun slot _ => remadeAt_append hs hweb h hlimit slot

end

/-! ## One copy -/

section
variable {s : State} {g : Segment} {slot n copy : Nat} {o : Order} {r : Nat} {i : Item}

theorem isPrintFrom_single (hkind : g.kind = .print slot n copy) (k : Nat) :
    [g].any (Segment.isPrintFrom k) = decide (slot = k) := by
  simp [Segment.isPrintFrom, hkind]
  rfl

theorem countP_single (hkind : g.kind = .print slot n copy) (k j : Nat) :
    [g].countP (Segment.isPrintOf k j) = if slot = k ∧ n = j then 1 else 0 := by
  rw [List.countP_cons, List.countP_nil]
  simp [Segment.isPrintOf, hkind]

variable (hpool : PoolAndGross s) (hkind : g.kind = .print slot n copy) (ho : s.order? slot = some o)
  (hr : o.items[n]? = some r) (hi : Table.get? s.orderTable.items r = some i) (honweb : 1 ≤ i.onWeb) (rejected : Bool)

include ho hr hi in
theorem qualifies_eq : qualifies s slot n = i.mayRemake s.orderTable.remakeLimit o.state := by
  rw [qualifies, ho, (item?_of_order ho hr).trans hi]

include hpool hkind ho hr hi honweb

/-- R14: the items of the order, its check still to come. -/
theorem item?_copyDisposed (j : Nat) : (copyDisposed s slot n (qualifies s slot n) rejected).orderTable.item? slot j =
    (s.orderTable.item? slot j).map fun i =>
      i.disposed s.orderTable.remakeLimit o.state ([g].countP (Segment.isPrintOf slot j)) := by
  have hview := item?_modifyItem hpool slot n (copyMoved (qualifies s slot n)) slot j
  refine hview.trans ?_
  rw [countP_single hkind]
  by_cases hj : n = j
  · subst hj
    rw [if_pos ⟨rfl, rfl⟩, if_pos ⟨rfl, rfl⟩, (item?_of_order ho hr).trans hi, qualifies_eq ho hr hi, Option.map_some,
      (copyMoved_eq _ _ honweb).1]
    rfl
  · rw [if_neg fun h => hj h.2.symm, if_neg fun h => hj h.2]
    simp only [disposed_zero, Option.map_id']

/-- R15, R21: the check of the order is the judgement of the disposal. -/
theorem checked_copyDisposed :
    completes (copyDisposed s slot n (qualifies s slot n) rejected) slot o = completesBy s [g] slot o
      ∧ checkedOrder (copyDisposed s slot n (qualifies s slot n) rejected) slot o = orderAfter s [g] slot o := by
  have hu : (copyDisposed s slot n (qualifies s slot n) rejected).order? slot = some o := ho
  have hall (p : Item → Bool) :
      ((copyDisposed s slot n (qualifies s slot n) rejected).orderTable.itemsOf slot).all p
        = (itemsAfter s [g] slot o).all p := by
    rw [Bool.eq_iff_iff, itemsAfter_all, List.all_eq_true]
    simp only [mem_itemsOf hu, item?_copyDisposed hpool hkind ho hr hi honweb, Option.map_eq_some_iff, forall_exists_index,
      and_imp, item?_eq_bind s slot, ho, Option.bind_some]
    exact ⟨fun h j x hx => h _ j x hx rfl, fun h _ j x hx hy => hy ▸ h j x hx⟩
  have hfrom : [g].any (Segment.isPrintFrom slot) = true := by simp [isPrintFrom_single hkind]
  have hcomplete : completes (copyDisposed s slot n (qualifies s slot n) rejected) slot o = completesBy s [g] slot o := by
    rw [completes, completesBy, hfrom, Bool.true_and]
    exact congrArg _ (hall _)
  have hdrains : drains (copyDisposed s slot n (qualifies s slot n) rejected) slot o = drainsBy s [g] slot o := by
    rw [drains, drainsBy, hfrom, Bool.true_and]
    exact congrArg _ (hall _)
  refine ⟨hcomplete, ?_⟩
  rw [checkedOrder, orderAfter, hcomplete, hdrains]
  rfl

/-- R13 to R15, R21: one copy that leaves the web undelivered. -/
theorem copiesDisposed_disposeCopy : CopiesDisposed [g] s (s.disposeCopy slot n rejected).1 := by
  obtain ⟨hcomplete, hchecked⟩ := checked_copyDisposed hpool hkind ho hr hi honweb rejected
  have hu : (copyDisposed s slot n (qualifies s slot n) rejected).order? slot = some o := ho
  have hothers {k : Nat} (hk : k ≠ slot) (p : Order) :=
    orderAfter_of_absent (slot := k) s p (by simp [isPrintFrom_single hkind, hk.symm] : [g].any (Segment.isPrintFrom k) = false)
  rw [disposeCopy_eq]
  refine ⟨fun k => ?_, fun k p j q x hp hq hx => ?_, fun c => ?_, fun m => ?_⟩
  · rw [order?_accountCheck hu, hchecked]
    split
    · next hk =>
      subst hk
      rw [ho, Option.bind_some]
    · next hk =>
      show s.order? k = _
      cases hp : s.order? k with
      | none => rfl
      | some p => exact (hothers hk p).1.symm
  · have hitems (q : Nat) : Table.get? (copyDisposed s slot n (qualifies s slot n) rejected).orderTable.items q =
        if q = r then some (i.disposed s.orderTable.remakeLimit o.state 1) else Table.get? s.orderTable.items q := by
      show Table.get? (s.orderTable.modifyItem slot n _).items q = _
      rw [OrderTable.modifyItem, (itemRef?_of_order ho n).trans hr]
      dsimp only
      rw [get?_modify, hi, qualifies_eq ho hr hi, Option.map_some, (copyMoved_eq _ _ honweb).1]
    rw [items_accountCheck hu, hchecked, hitems]
    by_cases hk : k = slot
    · subst hk
      obtain rfl : o = p := Option.some.inj (ho.symm.trans hp)
      cases hafter : orderAfter s [g] k o with
      | none => rw [if_pos ⟨List.mem_of_getElem? hq, rfl⟩]; rfl
      | some z =>
        rw [if_neg (by simp), Option.isSome_some, if_pos rfl, countP_single hkind]
        by_cases hqr : q = r
        · subst hqr
          obtain ⟨-, rfl⟩ := itemRef_injective hpool ho ho hr hq
          obtain rfl : i = x := Option.some.inj (hi.symm.trans hx)
          rw [if_pos rfl, if_pos ⟨rfl, rfl⟩]
        · rw [if_neg hqr, if_neg, disposed_zero, hx]
          rintro ⟨-, rfl⟩
          exact hqr (Option.some.inj (hq.symm.trans hr))
    · have hfree := not_mem_items hpool hk ho hp (List.mem_of_getElem? hq)
      have hne : q ≠ r := fun h => hfree (h ▸ List.mem_of_getElem? hr)
      rw [if_neg fun h => hfree h.1, if_neg hne, (hothers hk p).1, Option.isSome_some,
        if_pos rfl, countP_of_absent (by simp [isPrintFrom_single hkind, Ne.symm hk]), disposed_zero, hx]
  · rw [classList_accountCheck hu, hcomplete]
    show (if _ then (s.scheduler.classList c).filter _ else s.scheduler.classList c) = _
    have honly (k : Nat) : (s.order? k).any (fun p => p.cls == c && completesBy s [g] k p) = true ↔
        k = slot ∧ completesBy s [g] slot o = true ∧ c = o.cls := by
      rw [Option.any_eq_true]
      constructor
      · rintro ⟨p, hp, h⟩
        rw [Bool.and_eq_true, beq_iff_eq] at h
        by_cases hk : k = slot
        · subst hk
          obtain rfl : o = p := Option.some.inj (ho.symm.trans hp)
          exact ⟨rfl, h.2, h.1.symm⟩
        · rw [(hothers hk p).2] at h
          exact absurd h.2 Bool.false_ne_true
      · rintro ⟨rfl, hcompletes, rfl⟩
        exact ⟨o, ho, by rw [hcompletes, beq_self_eq_true, Bool.and_true]⟩
    split
    · next h =>
      refine List.filter_congr fun k _ => ?_
      rw [Bool.eq_iff_iff, Bool.not_eq_true', ← Bool.not_eq_true, honly]
      simp [h]
    · next h =>
      refine (List.filter_eq_self.2 fun k _ => ?_).symm
      rw [Bool.not_eq_true', ← Bool.not_eq_true, honly]
      exact fun hk => h hk.2
  · rw [bins_accountCheck hu, hcomplete]
    show (Table.get? s.sort.bins m).map _ = _
    congr 1
    funext b
    have hcompletion : b.afterCompletion (copyDisposed s slot n (qualifies s slot n) rejected) = b.afterCompletion s := rfl
    rw [hcompletion]
    refine if_congr ?_ rfl rfl
    rw [binsComplete_iff hpool]
    constructor
    · exact fun ⟨hcompletes, hm⟩ => ⟨slot, o, ho, hcompletes, hm⟩
    · rintro ⟨k, p, hp, hcompletes, hm⟩
      by_cases hk : k = slot
      · subst hk
        obtain rfl : o = p := Option.some.inj (ho.symm.trans hp)
        exact ⟨hcompletes, hm⟩
      · rw [(hothers hk p).2] at hcompletes
        exact absurd hcompletes Bool.false_ne_true

theorem trailing_disposeCopy : TrailingEndsWith (CompletesBy [g] s) s (s.disposeCopy slot n rejected).1 := by
  obtain ⟨hcomplete, -⟩ := checked_copyDisposed hpool hkind ho hr hi honweb rejected
  have hu : (copyDisposed s slot n (qualifies s slot n) rejected).order? slot = some o := ho
  rw [disposeCopy_eq]
  refine trailing_congr (trailing_accountCheck hu) (fun k => ?_) (workSame_refl _) (workSame_refl _)
  rw [hcomplete]
  constructor
  · rintro ⟨rfl, h⟩
    exact ⟨o, ho, h⟩
  · rintro ⟨p, hp, h⟩
    by_cases hk : k = slot
    · subst hk
      obtain rfl : o = p := Option.some.inj (ho.symm.trans hp)
      exact ⟨rfl, h⟩
    · have habsent : [g].any (Segment.isPrintFrom k) = false := by simp [isPrintFrom_single hkind, Ne.symm hk]
      rw [(orderAfter_of_absent s p habsent).2] at h
      exact absurd h Bool.false_ne_true

/-- R14: one copy remade or none. -/
theorem remadeIn_single : remadeIn s [g] = if qualifies s slot n = true then 1 else 0 := by
  have hslot : slot ∈ (s.orderTable.orders.map Prod.fst).toFinset :=
    List.mem_toFinset.2 (List.mem_map_of_mem (mem_of_get? ho))
  rw [remadeIn_eq hpool [g] fun p hp => List.mem_toFinset.2 (List.mem_map_of_mem hp), Finset.sum_eq_single slot]
  · rw [remadeAt, ho, Option.map_some, Option.getD_some, remadeOfOrder]
    change ∑ j ∈ Finset.range o.items.length, _ = _
    rw [Finset.sum_eq_single n]
    · rw [hr, Option.bind_some, hi, countP_single hkind, if_pos ⟨rfl, rfl⟩]
      exact (copyMoved_eq _ _ honweb).2.trans (by rw [qualifies_eq ho hr hi])
    · intro j _ hj
      rw [countP_single hkind, if_neg fun h => hj h.2.symm]
      split
      · simp [Item.remadeOf]
      · rfl
    · exact fun h => absurd (Finset.mem_range.2 (List.getElem?_eq_some_iff.1 hr).1) h
  · intro k _ hk
    rw [remadeAt]
    cases s.order? k with
    | none => rfl
    | some p => exact remadeOfOrder_of_absent s p (by simp [isPrintFrom_single hkind, Ne.symm hk])
  · exact fun h => absurd hslot h

end

/-! ## The copies of a list of segments -/

section
variable {s u : State} {a b : List Segment}

theorem copiesOnWeb_left (hweb : CopiesOnWeb (a ++ b) s) : CopiesOnWeb a s := by
  intro g hg slot n copy hkind
  obtain ⟨o, r, i, ho, hr, hi, hcount⟩ := hweb g (List.mem_append_left _ hg) slot n copy hkind
  rw [List.countP_append] at hcount
  exact ⟨o, r, i, ho, hr, hi, by omega⟩

/-- The copies still to leave the web are counted on it behind the first. -/
theorem copiesOnWeb_right (hweb : CopiesOnWeb (a ++ b) s) (h : CopiesDisposed a s u) : CopiesOnWeb b u := by
  intro g hg slot n copy hkind
  obtain ⟨o, r, i, ho, hr, hi, hcount⟩ := hweb g (List.mem_append_right _ hg) slot n copy hkind
  have hmore : b.any (Segment.isPrintFrom slot) = true := List.any_eq_true.2 ⟨g, hg, by simp [Segment.isPrintFrom, hkind]⟩
  obtain ⟨hstays, -⟩ := orderAfter_of_more hweb ho hmore
  refine ⟨o, r, _, by rw [h.1, ho]; exact hstays, hr, by rw [h.2.1 slot o n r i ho hr hi, hstays]; rfl, ?_⟩
  rw [List.countP_append] at hcount
  show _ ≤ i.onWeb - _
  omega

/-- Segments without a copy change nothing. -/
theorem copiesDisposed_of_absent (hpool : PoolAndGross s) (habsent : ∀ slot, a.any (Segment.isPrintFrom slot) = false) :
    CopiesDisposed a s s ∧ TrailingEndsWith (CompletesBy a s) s s ∧ remadeIn s a = 0 := by
  have hkept (slot : Nat) (o : Order) := orderAfter_of_absent s o (habsent slot)
  refine ⟨⟨fun slot => ?_, fun slot o n r i ho hr hi => ?_, fun c => ?_, fun n => ?_⟩, ?_, ?_⟩
  · cases s.order? slot with
    | none => rfl
    | some o => exact (hkept slot o).1.symm
  · rw [(hkept slot o).1, countP_of_absent (habsent slot), disposed_zero, hi]
    rfl
  · simp [hkept]
  · simp [hkept]
  · refine trailingEndsWith_none (fun slot => ?_) (workSame_refl s)
    rintro ⟨o, -, h⟩
    simp [hkept] at h
  · rw [remadeIn_eq hpool a fun p hp => List.mem_toFinset.2 (List.mem_map_of_mem hp)]
    refine Finset.sum_eq_zero fun k _ => ?_
    rw [remadeAt]
    cases s.order? k with
    | none => rfl
    | some p => exact remadeOfOrder_of_absent s p (habsent k)

end

/-- R13 to R15, R21: the copies of the segments leave the web undelivered. -/
theorem disposeSegments_disposes (rejected : Bool) (segs : List Segment) (s : State) (hpool : PoolAndGross s)
    (hweb : CopiesOnWeb segs s) : CopiesDisposed segs s (s.disposeSegments rejected segs).1
      ∧ TrailingEndsWith (CompletesBy segs s) s (s.disposeSegments rejected segs).1
      ∧ (s.disposeSegments rejected segs).2.1 = remadeIn s segs := by
  induction segs generalizing s with
  | nil =>
    obtain ⟨hdisposed, htrailing, hnone⟩ := copiesDisposed_of_absent (a := []) hpool fun _ => rfl
    exact ⟨hdisposed, htrailing, hnone.symm⟩
  | cons g rest ih =>
    rw [← List.singleton_append] at hweb ⊢
    rw [List.singleton_append, State.disposeSegments]
    split
    · next slot n copy hkind =>
      obtain ⟨o, r, i, ho, hr, hi, hcount⟩ := hweb g (by simp) slot n copy hkind
      have honweb : 1 ≤ i.onWeb := by
        rw [List.countP_append, countP_single hkind, if_pos ⟨rfl, rfl⟩] at hcount
        omega
      have hfirst := copiesDisposed_disposeCopy hpool hkind ho hr hi honweb rejected
      have htrailing := trailing_disposeCopy hpool hkind ho hr hi honweb rejected
      have hframe := onlyChanges_disposeCopy s slot n rejected
      have hpool' := pool_of_moves (moves_disposeCopy s slot n rejected) hpool
      have hlimit : (s.disposeCopy slot n rejected).1.orderTable.remakeLimit = s.orderTable.remakeLimit :=
        hframe .remakeLimit (by decide)
      obtain ⟨hdisposed, hended, hremade⟩ := ih _ hpool' (copiesOnWeb_right hweb hfirst)
      refine ⟨copiesDisposed_append hpool hpool' (pool_of_moves (moves_disposeSegments _ rejected rest) hpool') hweb hfirst
        hdisposed hlimit (hframe .timeBase (by decide)) (hframe .uncollectedTime (by decide)),
        trailing_congr (trailing_trans htrailing hended) (fun k => (completesBy_append hpool hweb hfirst hlimit k).symm)
          (workSame_refl _) (workSame_refl _), ?_⟩
      have hagain : (s.disposeCopy slot n rejected).2 = qualifies s slot n := by rw [disposeCopy_eq]
      refine Eq.trans ?_ (remadeIn_append hpool hpool' hweb hfirst hlimit).symm
      rw [remadeIn_single hpool hkind ho hr hi honweb, ← hremade, ← hagain]
      exact add_comm _ _
    · next hkind =>
      obtain ⟨hfirst, htrailing, hnone⟩ := copiesDisposed_of_absent (s := s) (a := [g]) hpool fun slot => by
        unfold Segment.isPrintFrom
        cases hg : g.kind with
        | print slot n copy => exact absurd hg (hkind slot n copy)
        | patch | leader | blank => simp [hg]
      obtain ⟨hdisposed, hended, hremade⟩ := ih s hpool (copiesOnWeb_right hweb hfirst)
      refine ⟨copiesDisposed_append hpool hpool (pool_of_moves (moves_disposeSegments s rejected rest) hpool) hweb hfirst
        hdisposed rfl rfl rfl,
        trailing_congr (trailing_trans htrailing hended) (fun k => (completesBy_append hpool hweb hfirst rfl k).symm)
          (workSame_refl _) (workSame_refl _), ?_⟩
      refine Eq.trans ?_ (remadeIn_append hpool hpool hweb hfirst rfl).symm
      rw [hnone, Nat.zero_add]
      exact hremade

theorem satAdd_satAdd (limit n j k : Nat) : satAdd limit (satAdd limit n j) k = satAdd limit n (j + k) := by
  unfold satAdd
  split <;> split <;> split <;> omega

/-- R177: what a disposal counts, and how its copies fare. -/
theorem disposeSegments_counts (rejected : Bool) (segs : List Segment) (s : State) :
    (s.disposeSegments rejected segs).2.1 + (s.disposeSegments rejected segs).2.2 = segs.countP Segment.isPrint
      ∧ (s.disposeSegments rejected segs).1.price.totals = { s.price.totals with
          printsRejected := satAdd 65535 s.price.totals.printsRejected (if rejected then segs.countP Segment.isPrint else 0)
          remakesMade := satAdd 65535 s.price.totals.remakesMade (s.disposeSegments rejected segs).2.1 } := by
  induction segs generalizing s with
  | nil => exact ⟨rfl, by simp [State.disposeSegments, satAdd]⟩
  | cons g rest ih =>
    rw [State.disposeSegments, List.countP_cons]
    split
    · next slot n copy hkind =>
      have hprint : g.isPrint = true := by simp [Segment.isPrint, hkind]
      obtain ⟨hcount, htotals⟩ := ih (s.disposeCopy slot n rejected).1
      refine ⟨?_, ?_⟩
      · rw [if_pos hprint, ← hcount]
        dsimp only
        split <;> omega
      · have hone : (s.disposeCopy slot n rejected).1.price.totals = { s.price.totals with
            printsRejected := satAdd 65535 s.price.totals.printsRejected (if rejected then 1 else 0)
            remakesMade := satAdd 65535 s.price.totals.remakesMade (if (s.disposeCopy slot n rejected).2 then 1 else 0) } := by
          rw [disposeCopy_eq]
          exact onlyChanges_accountCheck _ slot .totals (by decide)
        dsimp only
        rw [htotals, hone, if_pos hprint]
        simp only [satAdd_satAdd]
        cases rejected
        · simp [add_comm]
        · simp [add_comm]
    · next hkind =>
      have hprint : g.isPrint = false := by
        unfold Segment.isPrint
        cases hg : g.kind with
        | print slot n copy => exact absurd hg (hkind slot n copy)
        | patch | leader | blank => rfl
      rw [hprint]
      exact ih s

end Sys2Proof.Disposal

/-! WEB CLEARED and the warm reset: O51, O4. -/

namespace Sys2Proof.Clearing

open Sys2Proof.Machine Sys2Proof.Laws Sys2Proof.OrdersAndItems Sys2Proof.Magazines Sys2Proof.Sorting Sys2Proof.Till
open Sys2Proof.Steps Sys2Proof.WebMap Sys2Proof.Pool Sys2Proof.Registry Sys2Proof.Controls Sys2Proof.Disposal

theorem countsRemade (totals : Totals) (remade : Nat) :
    { totals with
      printsRejected := satAdd 65535 totals.printsRejected 0
      remakesMade := satAdd 65535 totals.remakesMade remade } =
    { totals with
      remakesMade := if remade = 0 then totals.remakesMade else min 65535 (totals.remakesMade + remade) } := rfl

/-- R133: the state whose map has been emptied, its copies still to be disposed of. -/
def mapTaken (s : State) : State := { s with web := { s.web with map := [], unlisted := none } }

/-- R133: what becomes of the map and its copies where the map is cleared. -/
theorem clearMap_clears (s : State) :
    s.clearMap.1.web = { s.web with map := [], unlisted := none, stage := .off, stall := false }
      ∧ s.clearMap.2.1 + s.clearMap.2.2 = s.web.map.countP Segment.isPrint
      ∧ s.clearMap.1.price.totals = { s.price.totals with
          remakesMade := if s.clearMap.2.1 = 0 then s.price.totals.remakesMade
            else min 65535 (s.price.totals.remakesMade + s.clearMap.2.1) }
      ∧ (PoolAndGross s → CopiesOnWeb s.web.map s → s.clearMap.2.1 = remadeIn s s.web.map
          ∧ CopiesDisposed s.web.map s s.clearMap.1 ∧ TrailingEndsWith (CompletesBy s.web.map s) s s.clearMap.1) := by
  obtain ⟨hcount, htotals⟩ := disposeSegments_counts false s.web.map (mapTaken s)
  refine ⟨?_, hcount, htotals, fun hpool hweb => ?_⟩
  · show ((mapTaken s).disposeSegments false s.web.map).1.web.stopIfEmpty = _
    rw [disposeSegments_web]
    rfl
  · obtain ⟨hdisposed, htrailing, hremade⟩ := disposeSegments_disposes false s.web.map (mapTaken s) hpool hweb
    exact ⟨hremade, hdisposed, htrailing⟩

/-- Settles O51. -/
theorem webClearedEmptiesTheMap : Obligations.WebClearedEmptiesTheMap := by
  intro s htaking
  refine ⟨fun hfault hexposed => ?_, fun hallowed => ?_⟩
  · refine refusedWith_of_refuse rfl htaking rfl rfl ?_
    rw [serveWebCleared, if_pos (by simp [hfault, hexposed])]
  · have hserved : serveWebCleared s = (webEmptied s,
        .taken false (n8 s.web.map.length ++ n8 s.clearMap.2.1 ++ n8 s.clearMap.2.2)) := by
      rw [serveWebCleared, if_neg]
      · rfl
      · rcases hallowed with h | ⟨hidle, hleader⟩
        · simp [Option.isSome_iff_ne_none.1 h]
        · simp [hidle, hleader]
    obtain ⟨hexec, hreplied⟩ := answered_of_served (c := .webCleared .engine) rfl htaking rfl rfl hserved
    obtain ⟨hweb, hcount, htotals, hdisposed⟩ := clearMap_clears s
    have hview : (webEmptied s).web = { s.web with map := [], unlisted := none, stage := .off, stall := false, fault := none } :=
      congrArg (fun w : Web => { w with fault := none }) hweb
    refine ⟨_, s.clearMap.2.1, s.clearMap.2.2, hexec, ?_, ?_, ?_, ?_, ?_, hcount, hdisposed, htotals, hreplied,
      onlyChanges_answered (onlyChanges_mono (onlyChanges_webEmptied s) (by decide)) (by decide) (.inl (by decide))⟩
    · exact congrArg Web.map hview
    · exact congrArg Web.unlisted hview
    · exact congrArg Web.fault hview
    · exact congrArg Web.stage hview
    · exact congrArg Web.stall hview

/-! ## The warm reset -/

/-- Segments of the same kinds carry the same copies. -/
theorem disposal_congr {a b : List Segment} (h : kinds a = kinds b) (s t : State) :
    (CopiesOnWeb a s → CopiesOnWeb b s) ∧ (CopiesDisposed b s t → CopiesDisposed a s t)
      ∧ remadeIn s a = remadeIn s b := by
  have hany (slot : Nat) : a.any (Segment.isPrintFrom slot) = b.any (Segment.isPrintFrom slot) := by
    have hkinds (l : List Segment) : l.any (Segment.isPrintFrom slot) = (kinds l).any fun k =>
        match k with
        | .print j _ _ => j == slot
        | .patch | .leader | .blank => false := by
      rw [kinds, List.any_map]
      rfl
    rw [hkinds, hkinds, h]
  have hcount (slot n : Nat) : a.countP (Segment.isPrintOf slot n) = b.countP (Segment.isPrintOf slot n) := by
    rw [countP_isPrintOf, countP_isPrintOf, copies_of_kinds h]
  have hitems (slot : Nat) (o : Order) : itemsAfter s a slot o = itemsAfter s b slot o := by
    unfold itemsAfter
    simp only [hcount]
  have hchecks (slot : Nat) (o : Order) := checks_congr (v := s) (w := s) (o := o) (hany slot) fun p => by rw [hitems slot o]
  have hcompletes : completesBy s a = completesBy s b := funext fun slot => funext fun o => (hchecks slot o).1
  have hafter : orderAfter s a = orderAfter s b := funext fun slot => funext fun o => (hchecks slot o).2
  refine ⟨fun hweb g hg slot n copy hkind => ?_, fun hdisposed => ?_, ?_⟩
  · obtain ⟨x, hx, hxkind⟩ : ∃ x ∈ a, x.kind = g.kind := by
      have hmem : g.kind ∈ kinds a := h ▸ List.mem_map_of_mem hg
      simpa [kinds] using hmem
    obtain ⟨o, r, i, ho, hr, hi, honweb⟩ := hweb x hx slot n copy (hxkind.trans hkind)
    exact ⟨o, r, i, ho, hr, hi, hcount slot n ▸ honweb⟩
  · unfold CopiesDisposed at hdisposed ⊢
    simpa only [hcompletes, hafter, hcount] using hdisposed
  · unfold remadeIn
    simp only [hcount]

theorem workEnded_of_trailing {completing : Nat → Prop} {s t : State} (h : TrailingEndsWith completing s t)
    (hended : WorkEnded s) : WorkEnded t := by
  refine workEnded_of_same (h.2 fun slot _ htrailing => ?_) hended
  obtain ⟨w, start, hw, -⟩ := htrailing
  rw [hended.1] at hw
  cases hw

theorem workEnded_disposeSegments (rejected : Bool) (segs : List Segment) {s : State} (h : WorkEnded s) :
    WorkEnded (s.disposeSegments rejected segs).1 := by
  induction segs generalizing s with
  | nil => exact h
  | cons g rest ih =>
    rw [State.disposeSegments]
    split
    · next slot n copy hkind =>
      refine ih ?_
      rw [disposeCopy_eq]
      have hmoved : WorkEnded (copyDisposed s slot n (qualifies s slot n) rejected) := h
      cases ho : (copyDisposed s slot n (qualifies s slot n) rejected).order? slot with
      | none =>
        dsimp only
        rw [accountCheck_of_free ho]
        exact hmoved
      | some o => exact workEnded_of_trailing (trailing_accountCheck ho) hmoved
    · exact ih h

theorem disposeSegments_of_printless (rejected : Bool) {segs : List Segment} (s : State)
    (h : ∀ g ∈ segs, g.isPrint = false) : s.disposeSegments rejected segs = (s, 0, 0) := by
  induction segs with
  | nil => rfl
  | cons g rest ih =>
    have hg := h g (by simp)
    rw [State.disposeSegments]
    split
    · next slot n copy hkind => simp [Segment.isPrint, hkind] at hg
    · exact ih fun x hx => h x (by simp [hx])

theorem kinds_flush (s : State) : kinds s.flush.web.map = kinds s.web.map :=
  kinds_mapLast (f := Segment.abandon) (fun g => by unfold Segment.abandon; split <;> rfl) s.web.map

theorem cutOff_eq (r : RasterFetch) : r.cutOff = { r with link := { r.link with
    phase := match r.link.phase with
      | .receiving => .idle
      | .sending bytes => .sending bytes
      | .idle => .idle } } := by
  obtain ⟨inFlight, timer, nextTag, lastFault, faultCount, frameSent, phase, ready⟩ := r
  cases phase <;> rfl

theorem printless_of_kinds {a b : List Segment} (h : kinds a = kinds b) (hb : ∀ g ∈ b, g.isPrint = false) :
    ∀ g ∈ a, g.isPrint = false := by
  intro g hg
  have hmem : g.kind ∈ kinds b := h ▸ List.mem_map_of_mem hg
  obtain ⟨x, hx, hkind⟩ := List.mem_map.1 hmem
  have := hb x hx
  unfold Segment.isPrint at this ⊢
  rwa [hkind] at this

/-- Settles O4. -/
theorem warmResetFlushesAndKeeps : Obligations.WarmResetFlushesAndKeeps := by
  intro s
  obtain ⟨hweb, -, htotals, hdisposed⟩ := clearMap_clears s.flush
  have hclear := onlyChanges_clearMap s.flush
  have hlink : s.flush.clearMap.1.fetch.link = s.fetch.link := hclear .rasterLink (by decide)
  have hended : WorkEnded s.flush.clearMap.1 := workEnded_disposeSegments false s.flush.web.map ⟨rfl, rfl, rfl, rfl, rfl⟩
  refine ⟨_, rfl, ?_, hclear .selection (by decide), hclear .lineQueue (by decide), hclear .exposure (by decide), rfl, rfl, rfl,
    fun c => ?_, congrArg Web.map hweb, rfl, rfl, rfl, rfl, rfl, fun hreceiving => ?_, fun hnot => ?_, ?_,
    ?_, fun hpool honweb => ?_,
    onlyChanges_noted (onlyChanges_mono (onlyChanges_warmReset s) (by decide)) (.inl (by decide)), fun hnone => ?_⟩
  · obtain ⟨hwork, hrowA, hrowB, hflight, htimer⟩ := hended
    refine ⟨hwork, hrowA, hrowB, ?_, ?_⟩
    · show s.flush.clearMap.1.fetch.cutOff.inFlight = none
      rw [cutOff_eq]
      exact hflight
    · show s.flush.clearMap.1.fetch.cutOff.timer = none
      rw [cutOff_eq]
      exact htimer
  · fin_cases c <;> rfl
  · show s.flush.clearMap.1.fetch.cutOff.link.phase = .idle
    rw [cutOff_eq, hlink, hreceiving]
  · show s.flush.clearMap.1.fetch.cutOff.link.phase = s.fetch.link.phase
    rw [cutOff_eq, hlink]
    cases hphase : s.fetch.link.phase with
    | receiving => exact absurd hphase hnot
    | sending | idle => rfl
  · show s.flush.clearMap.1.fetch.cutOff.link.ready = _
    rw [cutOff_eq, hlink]
  · show s.flush.clearMap.1.price.totals.printsRejected = _
    rw [htotals]
    rfl
  · obtain ⟨honweb', hdisposed', hremade'⟩ := disposal_congr (kinds_flush s).symm s s.warmReset
    obtain ⟨hremade, hcopies, -⟩ := hdisposed hpool (honweb' honweb)
    refine ⟨hdisposed' hcopies, ?_⟩
    rw [hremade']
    exact htotals.trans (by rw [hremade]; rfl)
  · have hkept : s.flush.clearMap.1 =
        { mapTaken s.flush with web := ((mapTaken s.flush).web).stopIfEmpty } := by
      have hnothing := disposeSegments_of_printless false (mapTaken s.flush) (printless_of_kinds (kinds_flush s) hnone)
      show { ((mapTaken s.flush).disposeSegments false s.flush.web.map).1 with
        web := ((mapTaken s.flush).disposeSegments false s.flush.web.map).1.web.stopIfEmpty } = _
      rw [hnothing]
    have horders := congrArg (fun t : State => t.orderTable.orders) hkept
    have hitems := congrArg (fun t : State => t.orderTable.items) hkept
    have hlists := congrArg (fun t : State => (t.scheduler.express, t.scheduler.standard, t.scheduler.bulk)) hkept
    have hbins := congrArg (fun t : State => t.sort.bins) hkept
    have hsame := congrArg (fun t : State => t.price.totals) hkept
    simp only [Prod.mk.injEq] at hlists
    exact ⟨horders, hitems, hlists, hbins, hsame⟩

end Sys2Proof.Clearing

/-! Cuts that reject a piece: O49. -/

namespace Sys2Proof.Rejects

open Sys2Proof.Machine Sys2Proof.Laws Sys2Proof.OrdersAndItems Sys2Proof.Magazines Sys2Proof.Sorting Sys2Proof.Till
open Sys2Proof.Steps Sys2Proof.WebMap Sys2Proof.Pool Sys2Proof.Registry Sys2Proof.Controls Sys2Proof.Reads Sys2Proof.Cuts
open Sys2Proof.Disposal Sys2Proof.Clearing

/-- R127: the record of a cut that rejects a piece of which so many copies are remade and written off. -/
def rejectRecord (s : State) (outcome : CutOutcome) (d : Option Int) (piece : List Segment) (remade writtenOff : Nat) :
    CutRecord :=
  { outcome := outcome
    destination := 0
    piece := match piece with
      | [g] => .single g.kind
      | _ => .group piece.length
    odometer := s.web.odometer
    deviation := d
    ticket := match piece with
      | [g] => s.segmentTicket g.kind
      | _ => 0
    fate := match piece with
      | [_] => rejectedFate remade writtenOff
      | _ => .nothing
    remade := remade
    writtenOff := writtenOff }

section
variable {s : State} {piece rest : List Segment}

theorem rejectSingle_eq (outcome : CutOutcome) (d : Option Int) (g : Segment) : s.rejectSingle outcome d g =
    (((s.popSegments 1).rejectPiece [g]).1, rejectRecord s outcome d [g] ((s.popSegments 1).rejectPiece [g]).2.1
      ((s.popSegments 1).rejectPiece [g]).2.2) := rfl

theorem not_deliverable {g : Segment}
    (h : ∀ slot n copy, g.kind = .print slot n copy → g.suspect = true ∨ g.split = true ∨ g.spoiled = true
      ∨ (∃ o, s.order? slot = some o ∧ o.state = .withdrawn)) : (s.popSegments 1).deliverable? g = none := by
  unfold State.deliverable?
  split
  · next slot n copy hkind =>
    split
    · next o e ho _ =>
      refine if_neg ?_
      rcases h slot n copy hkind with hflag | hflag | hflag | ⟨p, hp, hstate⟩
      · simp [Segment.sound, hflag]
      · simp [Segment.sound, hflag]
      · simp [Segment.sound, hflag]
      · obtain rfl : p = o := Option.some.inj (hp.symm.trans ho)
        simp [hstate]
    · rfl
  · rfl

/-- R125, R126: a match takes the merged segments and the reference segment to the reject chute. -/
theorem matchedCut_rejects {merged : List Segment} {g : Segment} (d : Int) (hmap : s.web.map = merged ++ g :: rest)
    (hsingle : merged = [] → (s.popSegments 1).deliverable? g = none) : s.matchedCut merged.length d =
      (((s.popSegments (merged ++ [g]).length).rejectPiece (merged ++ [g])).1,
        rejectRecord s .matched (some d) (merged ++ [g])
          ((s.popSegments (merged ++ [g]).length).rejectPiece (merged ++ [g])).2.1
          ((s.popSegments (merged ++ [g]).length).rejectPiece (merged ++ [g])).2.2) := by
  have htake : s.web.map.take (merged.length + 1) = merged ++ [g] := by
    rw [hmap, ← List.singleton_append, ← List.append_assoc]
    exact List.take_left' (by simp)
  unfold State.matchedCut
  rw [htake]
  cases merged with
  | nil =>
    simp only [List.nil_append, hsingle rfl]
    exact rejectSingle_eq _ _ _
  | cons m merged =>
    cases merged with
    | nil => rfl
    | cons m' merged =>
      simp only [List.length_append, List.length_singleton] <;> rfl

/-- R123, R132: the cut of a piece that is not delivered. -/
theorem takeCut_rejects {d : Option Int} (hmap : s.web.map = piece ++ rest)
    (hpiece : s.web.fault.isSome = true ∧ d = none ∧ (∃ g, piece = [g] ∧ g.closed = true)
      ∨ s.web.fault = none ∧ (∃ merged g x, piece = merged ++ [g] ∧ (∀ k ∈ merged, k.merged = true) ∧ g.merged = false
          ∧ g.closed = true ∧ x = signedDiff s.web.odometer (g.start + BitVec.ofNat 32 (g.length + s.web.lpath))
          ∧ -25 ≤ x ∧ x ≤ 25 ∧ d = some x))
    (hnot : ∀ g slot n copy, piece = [g] → g.kind = .print slot n copy →
        s.web.fault.isSome = true ∨ g.suspect = true ∨ g.split = true ∨ g.spoiled = true
          ∨ (∃ o, s.order? slot = some o ∧ o.state = .withdrawn)) :
    s.takeCut = (((s.popSegments piece.length).rejectPiece piece).1,
      rejectRecord s (if s.web.fault.isSome then .duringFault else .matched) d piece
        ((s.popSegments piece.length).rejectPiece piece).2.1 ((s.popSegments piece.length).rejectPiece piece).2.2) := by
  obtain ⟨hfault, rfl, g, rfl, hclosed⟩ | ⟨hfault, merged, g, x, rfl, hmerged, hwhole, hclosed, rfl, hlow, hhigh, rfl⟩ := hpiece
  · rw [State.takeCut, if_pos hfault, if_pos hfault, State.faultCut]
    split
    · next k tail hk =>
      obtain ⟨rfl, rfl⟩ := List.cons.inj (hmap.symm.trans hk)
      rw [if_pos hclosed, rejectSingle_eq]
      rfl
    · next hnil => simp [hmap] at hnil
  · have hsplit : s.web.map = merged ++ g :: rest := by rw [hmap, List.append_assoc, List.singleton_append]
    have hsame : mergePassed s.web.lpath s.web.odometer s.web.map = s.web.map := by
      rw [hsplit]
      exact mergePassed_of_stop hmerged hwhole (.inr hhigh)
    rw [State.takeCut, if_neg (by simp [hfault]), if_neg (by simp [hfault]), detectMissedCuts_of_same hsame,
      judgeCut_of_reference hsplit hmerged hwhole hclosed]
    refine (if_pos ⟨hlow, hhigh⟩).trans (matchedCut_rejects _ hsplit ?_)
    rintro rfl
    exact not_deliverable fun slot n copy hkind => (hnot g slot n copy rfl hkind).resolve_left (by simp [hfault])

end

/-- What a rejected piece leaves behind, its copies disposed of. -/
theorem rejectPiece_disposes {s : State} {piece rest : List Segment} (hmap : s.web.map = piece ++ rest)
    (hpool : PoolAndGross s) (hweb : CopiesOnWeb piece s) :
    CopiesDisposed piece s ((s.popSegments piece.length).rejectPiece piece).1
      ∧ TrailingEndsWith (CompletesBy piece s) s ((s.popSegments piece.length).rejectPiece piece).1
      ∧ ((s.popSegments piece.length).rejectPiece piece).2.1 = remadeIn s piece
      ∧ ((s.popSegments piece.length).rejectPiece piece).2.2 = piece.countP Segment.isPrint - remadeIn s piece
      ∧ ((s.popSegments piece.length).rejectPiece piece).1.price.totals = { s.price.totals with
          printsRejected := if piece.countP Segment.isPrint = 0 then s.price.totals.printsRejected
            else min 65535 (s.price.totals.printsRejected + piece.countP Segment.isPrint)
          remakesMade := if remadeIn s piece = 0 then s.price.totals.remakesMade
            else min 65535 (s.price.totals.remakesMade + remadeIn s piece) } := by
  obtain ⟨hdisposed, htrailing, hremade⟩ :=
    disposeSegments_disposes true piece ((s.popSegments piece.length).countReject.notePatches piece) hpool hweb
  obtain ⟨hcount, htotals⟩ :=
    disposeSegments_counts true piece ((s.popSegments piece.length).countReject.notePatches piece)
  refine ⟨hdisposed, htrailing, hremade, ?_, htotals.trans ?_⟩
  · have hremade' : ((s.popSegments piece.length).rejectPiece piece).2.1 = remadeIn s piece := hremade
    have hsum : ((s.popSegments piece.length).rejectPiece piece).2.1 + ((s.popSegments piece.length).rejectPiece piece).2.2
      = piece.countP Segment.isPrint := hcount
    omega
  · rw [hremade]
    rfl

theorem popped_of_web {s u t : State} {left : List Segment} (h : Popped left s u) (hweb : t.web.map = u.web.map)
    (hstage : t.web.stage = u.web.stage) (hstall : t.web.stall = u.web.stall) : Popped left s t := by
  unfold Popped at h ⊢
  rw [hweb, hstage, hstall, Same, hstage, hstall]
  exact h

theorem onlyChanges_rejectPiece_printless {s : State} {piece : List Segment} (h : ∀ g ∈ piece, g.isPrint = false) :
    OnlyChanges [.rejectCount, .patchUnread] s (s.rejectPiece piece).1 := by
  rw [State.rejectPiece, disposeSegments_of_printless true _ h]
  intro p hp
  cases p <;> simp_all [Same, State.port, State.notePatches]

theorem kind_of_isPrint {g : Segment} (h : g.isPrint = true) : ∃ slot n copy, g.kind = .print slot n copy := by
  unfold Segment.isPrint at h
  split at h
  · next slot n copy hkind => exact ⟨slot, n, copy, hkind⟩
  · cases h

theorem segmentTicket_of_printless (s : State) {g : Segment} (h : g.isPrint = false) : s.segmentTicket g.kind = 0 := by
  unfold State.segmentTicket
  split
  · next slot n copy hkind => simp [Segment.isPrint, hkind] at h
  · rfl

theorem isPrintFrom_of_printless {g : Segment} (h : g.isPrint = false) (slot : Nat) : g.isPrintFrom slot = false := by
  unfold Segment.isPrintFrom
  split
  · next k n copy hkind => simp [Segment.isPrint, hkind] at h
  all_goals rfl

/-- Settles O49. -/
theorem cutRejectsASinglePiece : Obligations.CutRejectsASinglePiece := by
  intro s piece rest d htaking hmap hpiece hnot hpool hweb
  have htake := takeCut_rejects hmap hpiece hnot
  obtain ⟨hexec, hreplied⟩ := exec_cut htaking htake
  obtain ⟨hdisposed, htrailing, hremade, hwritten, htotals⟩ := rejectPiece_disposes hmap hpool hweb
  have hpopped : Popped rest s (s.popSegments piece.length) := by
    have h := popped_popSegments s piece.length
    rwa [hmap, List.drop_left] at h
  have hpop := onlyChanges_popSegments s piece.length
  have hreject := onlyChanges_rejectPiece (s.popSegments piece.length) piece
  have hsame := rejectPiece_web (s.popSegments piece.length) piece
  have hleft : Popped rest s ((s.popSegments piece.length).rejectPiece piece).1 :=
    popped_of_web hpopped (by rw [hsame]) (by rw [hsame]) (by rw [hsame])
  have hdispose := onlyChanges_disposeSegments ((s.popSegments piece.length).countReject.notePatches piece) true piece
  have hrecord (u : State) (record : CutRecord) := onlyChanges_cutRecorded u record
  rw [hremade, hwritten] at hexec hreplied
  refine ⟨_, _, hexec, hleft, hdisposed, htrailing, hdispose .rejectCount (by decide), htotals, ?_, ?_, rfl, rfl, rfl, rfl,
    rfl, rfl, rfl, fun g slot n copy o hone hkind ho => ?_, fun hnone => ?_, rfl, hreplied, ?_, fun hprintless => ?_⟩
  · have hunread : ((s.popSegments piece.length).rejectPiece piece).1.density.patchUnread =
        (s.density.patchUnread || piece.any fun g => g.kind == .patch && !g.read) := hdispose .patchUnread (by decide)
    show ((s.popSegments piece.length).rejectPiece piece).1.density.patchUnread = true ↔ _
    rw [hunread, Bool.or_eq_true, List.any_eq_true]
    simp only [Bool.and_eq_true, beq_iff_eq, Bool.not_eq_true']
  · show satAdd 65535 ((s.popSegments piece.length).rejectPiece piece).1.web.cutsTaken 1 = _
    rw [hsame, (hpop .cuts (by decide)).1]
    rfl
  · subst hone
    have hcount : [g].countP Segment.isPrint = 1 := by simp [Segment.isPrint, hkind]
    refine ⟨?_, ?_⟩
    · show s.segmentTicket g.kind = o.ticket
      rw [hkind, State.segmentTicket, ho]
    · show rejectedFate (remadeIn s [g]) ([g].countP Segment.isPrint - remadeIn s [g]) = _
      rw [hcount, rejectedFate]
      by_cases hzero : remadeIn s [g] = 0
      · rw [hzero]
        rfl
      · rw [if_pos (by omega), if_neg hzero]
  · match piece, hnone with
    | [], _ => exact ⟨rfl, rfl⟩
    | [g], hnone =>
      have hprint := hnone g rfl
      obtain ⟨-, -, habsent⟩ := copiesDisposed_of_absent (a := [g]) hpool fun slot => by
        rw [List.any_cons, List.any_nil, Bool.or_false, isPrintFrom_of_printless hprint]
      refine ⟨segmentTicket_of_printless s hprint, ?_⟩
      show rejectedFate (remadeIn s [g]) ([g].countP Segment.isPrint - remadeIn s [g]) = _
      rw [habsent]
      simp [hprint, rejectedFate]
    | _ :: _ :: _, _ => exact ⟨rfl, rfl⟩
  · exact onlyChanges_answered (onlyChanges_mono (onlyChanges_trans hpop (onlyChanges_trans hreject (hrecord _ _)))
      (by decide)) (by decide) (.inl (by decide))
  · have hnone : ∀ g ∈ piece, g.isPrint = false := by simpa [List.countP_eq_zero] using hprintless
    exact onlyChanges_answered (onlyChanges_mono (onlyChanges_trans hpop
      (onlyChanges_trans (onlyChanges_rejectPiece_printless hnone) (hrecord _ _))) (by decide)) (by decide)
      (.inl (by decide))

end Sys2Proof.Rejects

/-! A cut that delivers a sound print: O48. -/

namespace Sys2Proof.Delivery

open Sys2Proof.Machine Sys2Proof.Laws Sys2Proof.OrdersAndItems Sys2Proof.Magazines Sys2Proof.Sorting Sys2Proof.Till
open Sys2Proof.Steps Sys2Proof.WebMap Sys2Proof.Pool Sys2Proof.Registry Sys2Proof.Controls Sys2Proof.Reads Sys2Proof.Cuts
open Sys2Proof.Disposal Sys2Proof.Rejects

/-! ## Placement (R141 to R144) -/

/-- R141 to R143: where a print goes: the first open bin of its order's list, else the lowest FREE bin, else the tray. -/
def destination (s : State) (o : Order) (g : PrintGroup) : Nat :=
  ((s.sort.openBin? o.bins g).or (if o.bins.length < 4 then s.sort.freeBin? g else none)).getD 21

/-- R142, R143: the order record once its print is placed. -/
def orderPlaced (s : State) (dest : Nat) (o : Order) : Order :=
  { o with
    bins := if (Table.get? s.sort.bins dest).any (fun b => b.state == .free) then o.bins ++ [dest] else o.bins
    overflow := if dest = 21 then min 255 (o.overflow + 1) else o.overflow
    shortageUnreported := o.shortageUnreported || decide (dest = 21) }

/-- R141, R142, R144: a bin once a print of an order is placed. -/
def binPlaced (o : Order) (slot dest k : Nat) (b : Bin) : Bin :=
  if k ≠ dest then b
  else if b.state = .free then
    { b with state := if b.capacity ≤ 1 then .full else .filling, count := 1, ticket := some o.ticket
             owner := some slot, timer := none, uncollected := false }
  else { b with state := if b.capacity ≤ b.count + 1 then .full else .filling, count := b.count + 1 }

theorem openBin?_eq (sc : SortControl) (bins : List Nat) (g : PrintGroup) :
    sc.openBin? bins g = bins.find? fun k => (Table.get? sc.bins k).any fun b => b.takes g := by
  unfold SortControl.openBin?
  congr 1
  funext k
  cases Table.get? sc.bins k <;> rfl

theorem freeBin?_eq (sc : SortControl) (g : PrintGroup) : sc.freeBin? g = ((List.range 20).map (· + 1)).find? fun k =>
    (Table.get? sc.bins k).any fun b => b.state == .free && b.group.accepts g := by
  unfold SortControl.freeBin?
  congr 1
  funext k
  cases Table.get? sc.bins k <;> rfl

theorem getD_or_eq (a b : Option Nat) : (a.or b).getD 21 =
    match a with
    | some k => k
    | none =>
      match b with
      | some k => k
      | none => 21 := by
  cases a <;> cases b <;> rfl

/-- R141: the destination, by what the bins hold. -/
theorem destination_eq (s : State) (o : Order) (g : PrintGroup) : destination s o g =
    match o.bins.find? (fun k => (Table.get? s.sort.bins k).any fun b =>
      b.state == .filling && b.group.accepts g && decide (b.count < b.capacity)) with
    | some k => k
    | none =>
      match (if o.bins.length < 4 then ((List.range 20).map (· + 1)).find? (fun k =>
          (Table.get? s.sort.bins k).any fun b => b.state == .free && b.group.accepts g) else none) with
      | some k => k
      | none => 21 := by
  rw [destination, openBin?_eq, freeBin?_eq]
  exact getD_or_eq _ _

/-- The tray is no bin. -/
theorem bin_tray {s : State} (hok : BinsOk s) : Table.get? s.sort.bins 21 = none := by
  cases hb : Table.get? s.sort.bins 21 with
  | none => rfl
  | some b =>
    have hin : 21 ∈ s.sort.bins.map Prod.fst := List.mem_map_of_mem (mem_of_get? hb)
    rw [hok.1] at hin
    simp at hin

section
variable {s : State} {slot : Nat} {o : Order} (g : PrintGroup)

theorem placePrint_cases :
    (∃ k b, Table.get? s.sort.bins k = some b ∧ b.state = .filling ∧
        s.placePrint slot o g = (binChanged s k Bin.receive, k))
      ∨ (∃ k b, Table.get? s.sort.bins k = some b ∧ b.state = .free ∧ s.placePrint slot o g = (allocated s slot o k, k))
      ∨ s.placePrint slot o g = (s.toTray slot, 21) := by
  unfold State.placePrint
  split
  · next k hopen =>
    obtain ⟨-, b, hb, htakes⟩ := openBin?_takes hopen
    refine .inl ⟨k, b, hb, ?_, rfl⟩
    simp only [Bin.takes, Bool.and_eq_true, beq_iff_eq] at htakes
    exact htakes.1.1
  · split
    · next k hfree =>
      split at hfree
      · obtain ⟨b, hb, hbfree, -⟩ := freeBin?_free hfree
        exact .inr (.inl ⟨k, b, hb, hbfree, rfl⟩)
      · cases hfree
    · exact .inr (.inr rfl)

theorem placePrint_destination : (s.placePrint slot o g).2 = destination s o g := by
  unfold State.placePrint destination
  cases s.sort.openBin? o.bins g with
  | some k => rfl
  | none =>
    cases (if o.bins.length < 4 then s.sort.freeBin? g else none) <;> rfl

variable (ho : s.order? slot = some o) (hok : BinsOk s)
include ho hok

theorem placePrint_order (k : Nat) : (s.placePrint slot o g).1.order? k =
    if k = slot then some (orderPlaced s (s.placePrint slot o g).2 o) else s.order? k := by
  have htray := bin_tray hok
  obtain ⟨d, b, hb, hstate, hplaced⟩ | ⟨d, b, hb, hstate, hplaced⟩ | hplaced := placePrint_cases (s := s) (slot := slot) (o := o) g
  all_goals rw [hplaced]
  · have hd : d ≠ 21 := by rintro rfl; simp [htray] at hb
    split
    · next h =>
      rw [h]
      refine Eq.trans (show _ = s.order? slot from rfl) ?_
      simp [orderPlaced, hb, hstate, hd, ho]
    · rfl
  · have hd : d ≠ 21 := by rintro rfl; simp [htray] at hb
    rw [order?_allocated, ho]
    simp [orderPlaced, hb, hstate, hd]
  · refine (order?_modifyOrder s slot k _).trans ?_
    rw [ho]
    simp [orderPlaced, htray, satAdd]

theorem placePrint_bin {k : Nat} {b : Bin} (hb : Table.get? s.sort.bins k = some b) :
    Table.get? (s.placePrint slot o g).1.sort.bins k = some (binPlaced o slot (s.placePrint slot o g).2 k b) := by
  have htray := bin_tray hok
  obtain ⟨d, c, hc, hstate, hplaced⟩ | ⟨d, c, hc, hstate, hplaced⟩ | hplaced := placePrint_cases (s := s) (slot := slot) (o := o) g
  all_goals rw [hplaced]
  · refine (get?_modify s.sort.bins d k Bin.receive).trans ?_
    by_cases hk : k = d
    · subst hk
      obtain rfl : c = b := Option.some.inj (hc.symm.trans hb)
      simp [binPlaced, hb, hstate, Bin.receive]
    · simp [binPlaced, hk, hb]
  · rw [bin_allocated]
    by_cases hk : k = d
    · subst hk
      obtain rfl : c = b := Option.some.inj (hc.symm.trans hb)
      simp [binPlaced, hb, hstate, Bin.receive, Bin.allocate]
    · simp [binPlaced, hk, hb]
  · have hk : k ≠ 21 := by rintro rfl; simp [htray] at hb
    rw [binPlaced, if_pos hk]
    exact hb

theorem placePrint_tray : (s.placePrint slot o g).1.sort.trayCount =
    if (s.placePrint slot o g).2 = 21 then min 65535 (s.sort.trayCount + 1) else s.sort.trayCount := by
  have htray := bin_tray hok
  obtain ⟨d, b, hb, hstate, hplaced⟩ | ⟨d, b, hb, hstate, hplaced⟩ | hplaced := placePrint_cases (s := s) (slot := slot) (o := o) g
  all_goals rw [hplaced]
  · exact (if_neg (by rintro rfl; simp [htray] at hb)).symm
  · exact (if_neg (by rintro rfl; simp [htray] at hb)).symm
  · rfl

end

/-! ## The charge (R161 to R163) -/

/-- R161: the price rests on the sizes and counts of the order's items and on the surcharges. -/
theorem priceOf_congr {s t : State} {o q : Order} {i j : Item} (p : TariffEntry) (hitems : q.items = o.items)
    (hkept : ∀ k, (Table.get? t.orderTable.items k).map (fun x => (x.sizeIndex, x.ordered)) =
      (Table.get? s.orderTable.items k).map fun x => (x.sizeIndex, x.ordered))
    (hsurcharges : t.price.surcharges = s.price.surcharges) (hsize : j.sizeIndex = i.sizeIndex)
    (hsurface : j.surface = i.surface) : priceOf t q j p = priceOf s o i p := by
  have hcount : ((q.items.filterMap (Table.get? t.orderTable.items)).filter fun x => x.sizeIndex == j.sizeIndex).map
      (fun x => x.ordered) = ((o.items.filterMap (Table.get? s.orderTable.items)).filter fun x =>
        x.sizeIndex == i.sizeIndex).map fun x => x.ordered := by
    rw [hitems, hsize]
    induction o.items with
    | nil => rfl
    | cons k rest ih =>
      have hk := hkept k
      rw [List.filterMap_cons, List.filterMap_cons]
      cases ht : Table.get? t.orderTable.items k <;> cases hs : Table.get? s.orderTable.items k <;> rw [ht, hs] at hk
      · exact ih
      · cases hk
      · cases hk
      · next a b =>
        obtain ⟨hsame, hordered⟩ := Prod.mk.inj (Option.some.inj hk)
        dsimp only
        rw [List.filter_cons, List.filter_cons, hsame]
        split
        · rw [List.map_cons, List.map_cons, ih, hordered]
        · exact ih
  unfold priceOf
  rw [hcount, hsurcharges, hsurface]

/-- A copy of an item counted delivered (R125). -/
def itemDelivered (s : State) (slot n : Nat) : State :=
  { s with orderTable := s.orderTable.modifyItem slot n Item.deliver }

/-- The record of an item whose copy is delivered at a charge. -/
def chargedItem (charge : Nat) (i : Item) : Item :=
  { i with onWeb := i.onWeb - 1, delivered := i.delivered + 1, charged := i.charged + charge }

/-- R162: the charge of the next delivered copy of an item. -/
def chargeOf (s : State) (o : Order) (i : Item) (p : TariffEntry) : Nat :=
  min (if i.waived then 0 else priceOf s o i p) (9999999 - o.gross)

section
variable {s : State} {slot n r : Nat} {o : Order} {i : Item} (ho : s.order? slot = some o) (hr : o.items[n]? = some r)
  (hi : Table.get? s.orderTable.items r = some i)
include ho hr

theorem items_modifyItem (f : Item → Item) (k : Nat) : Table.get? (s.orderTable.modifyItem slot n f).items k =
    if k = r then (Table.get? s.orderTable.items r).map f else Table.get? s.orderTable.items k := by
  unfold OrderTable.modifyItem
  rw [(itemRef?_of_order ho n).trans hr]
  exact get?_modify s.orderTable.items r k f

include hi
variable {p : TariffEntry} (hp : Table.get? s.price.tariff i.sizeIndex = some p) (hweb : i.onWeb ≠ 0)
include hp hweb

theorem chargePrint_charges :
    (∀ k, ((itemDelivered s slot n).chargePrint slot n).order? k =
        if k = slot then some (o.addCharge (chargeOf s o i p)) else s.order? k)
      ∧ (∀ k, Table.get? ((itemDelivered s slot n).chargePrint slot n).orderTable.items k =
        if k = r then some (chargedItem (chargeOf s o i p) i) else Table.get? s.orderTable.items k)
      ∧ ((itemDelivered s slot n).chargePrint slot n).price.totals =
        { s.price.totals with printsCharged := min 65535 (s.price.totals.printsCharged + 1) } := by
  have hdelivered (k : Nat) : Table.get? (itemDelivered s slot n).orderTable.items k =
      if k = r then some i.deliver else Table.get? s.orderTable.items k := by
    rw [itemDelivered, items_modifyItem ho hr, hi]
    rfl
  have ho' : (itemDelivered s slot n).order? slot = some o := ho
  have hitem : (itemDelivered s slot n).orderTable.item? slot n = some i.deliver :=
    (item?_of_order ho' hr).trans (by rw [hdelivered, if_pos rfl])
  have hmoved : i.deliver = { i with onWeb := i.onWeb - 1, delivered := i.delivered + 1 } := if_neg hweb
  have hprice : (itemDelivered s slot n).quotedPrice slot i.deliver = if i.waived then 0 else priceOf s o i p := by
    have hsize : Table.get? (itemDelivered s slot n).price.tariff i.deliver.sizeIndex = some p := by rwa [hmoved]
    have hcongr := priceOf_congr (s := s) (t := itemDelivered s slot n) (o := o) (q := o) (i := i) (j := i.deliver) p rfl
      (fun k => by rw [hdelivered]; split <;> simp_all) rfl (by rw [hmoved]) (by rw [hmoved])
    rw [State.quotedPrice, unitPrice_eq ho' hsize, hcongr, hmoved]
  have hcharge : (itemDelivered s slot n).chargePrint slot n =
      { itemDelivered s slot n with
        orderTable := ((itemDelivered s slot n).orderTable.modifyItem slot n (Item.addCharge (chargeOf s o i p))).modifyOrder
          slot (Order.addCharge (chargeOf s o i p))
        price := { s.price with totals := { s.price.totals with
          printsCharged := satAdd 65535 s.price.totals.printsCharged 1 } } } := by
    unfold State.chargePrint
    rw [ho', hitem]
    dsimp only
    rw [hprice] <;> rfl
  rw [hcharge]
  refine ⟨fun k => ?_, fun k => ?_, rfl⟩
  · refine (order?_modifyOrder (itemDelivered s slot n) slot k (Order.addCharge (chargeOf s o i p))).trans ?_
    rw [ho'] <;> rfl
  · refine (items_modifyItem ho' hr (Item.addCharge (chargeOf s o i p)) k).trans ?_
    rw [hdelivered, if_pos rfl, hdelivered, hmoved]
    split
    · rfl
    · rfl

end

/-! ## The delivery, with the check of its order (R15, R125) -/

/-- R13: the copies of the item records decide whether an order has nothing left. -/
theorem completes_iff {s : State} {slot : Nat} {o p : Order} (ho : s.order? slot = some p) (hitems : p.items = o.items)
    (hstate : p.state = o.state) : completes s slot p = true ↔
      (o.state = .ready ∨ o.state = .inPrint ∨ o.state = .held)
        ∧ ∀ k ∈ o.items, ∀ j, Table.get? s.orderTable.items k = some j → j.waiting = 0 ∧ j.onWeb = 0 := by
  simp only [completes, hstate, Bool.and_eq_true, Bool.or_eq_true, beq_iff_eq, or_assoc, OrderTable.nothingLeft,
    itemsOf_of_order ho, hitems, List.all_eq_true, List.mem_filterMap, forall_exists_index, and_imp]
  exact and_congr_right fun _ => ⟨fun h k hk j hj => h j k hk hj, fun h j k hk hj => h k hk j hj⟩

/-- The record of an order whose print is placed and charged, completed or not. -/
def orderDelivered (s : State) (dest charge : Nat) (complete : Bool) (o : Order) : Order :=
  let q := (orderPlaced s dest o).addCharge charge
  if complete then completed q else q

section
variable {s : State} {slot n r : Nat} {o : Order} {i : Item} {e : SizeEntry} {p : TariffEntry} {complete : Bool}
  (ho : s.order? slot = some o) (hr : o.items[n]? = some r) (hi : Table.get? s.orderTable.items r = some i)
  (hp : Table.get? s.price.tariff i.sizeIndex = some p) (hweb : i.onWeb ≠ 0) (hok : BinsOk s) (hstate : o.state ≠ .withdrawn)
  (hcomplete : complete = true ↔ (o.state = .ready ∨ o.state = .inPrint ∨ o.state = .held)
    ∧ ∀ k ∈ o.items, ∀ j, Table.get? s.orderTable.items k = some j → j.waiting = 0 ∧ j.onWeb = if k = r then 1 else 0)
include ho hr hi hp hweb hok hstate hcomplete

theorem deliverPrint_delivers :
    (∀ k, (s.deliverPrint slot n o e).1.order? k =
        if k = slot then some (orderDelivered s (destination s o e.group) (chargeOf s o i p) complete o) else s.order? k)
      ∧ (∀ k, Table.get? (s.deliverPrint slot n o e).1.orderTable.items k =
        if k = r then some (chargedItem (chargeOf s o i p) i) else Table.get? s.orderTable.items k)
      ∧ (∀ c, (s.deliverPrint slot n o e).1.scheduler.classList c =
        if complete = true ∧ c = o.cls then (s.scheduler.classList c).filter fun k => k != slot
        else s.scheduler.classList c)
      ∧ (∀ k b, Table.get? s.sort.bins k = some b → Table.get? (s.deliverPrint slot n o e).1.sort.bins k =
        some (if complete = true ∧ k ∈ (orderPlaced s (destination s o e.group) o).bins then
          (binPlaced o slot (destination s o e.group) k b).afterCompletion s
          else binPlaced o slot (destination s o e.group) k b))
      ∧ (s.deliverPrint slot n o e).1.sort.trayCount =
        (if destination s o e.group = 21 then min 65535 (s.sort.trayCount + 1) else s.sort.trayCount)
      ∧ (s.deliverPrint slot n o e).1.price.totals =
        { s.price.totals with printsCharged := min 65535 (s.price.totals.printsCharged + 1) }
      ∧ TrailingEndsWith (fun k => k = slot ∧ complete = true) s (s.deliverPrint slot n o e).1 := by
  obtain ⟨q, hq⟩ : ∃ q, q = (s.placePrint slot o e.group).1 := ⟨_, rfl⟩
  obtain ⟨dest, hdest⟩ : ∃ dest, dest = destination s o e.group := ⟨_, rfl⟩
  have hwhere : (s.placePrint slot o e.group).2 = dest := (placePrint_destination e.group).trans hdest.symm
  have horder := placePrint_order e.group ho hok
  have hbin := @placePrint_bin s slot o e.group ho hok
  have htray := placePrint_tray e.group ho hok
  have hitems : q.orderTable.items = s.orderTable.items := by rw [hq, placePrint_orderTable_items]
  have hprice : q.price = s.price := by rw [hq, placePrint_price]
  rw [hwhere, ← hq] at horder htray
  rw [hwhere, ← hq] at hbin
  have hqo : q.order? slot = some (orderPlaced s dest o) := by rw [horder, if_pos rfl]
  have hqprice : chargeOf q (orderPlaced s dest o) i p = chargeOf s o i p := by
    have hcongr := priceOf_congr (s := s) (t := q) (o := o) (q := orderPlaced s dest o) (i := i) (j := i) p rfl
      (fun k => by rw [hitems]) (by rw [hprice]) rfl rfl
    rw [chargeOf, hcongr]
    rfl
  obtain ⟨hcorder, hcitems, hctotals⟩ := chargePrint_charges (p := p) hqo hr (by rw [hitems]; exact hi)
    (by rw [hprice]; exact hp) hweb
  rw [hqprice] at hcorder hcitems
  obtain ⟨t, ht⟩ : ∃ t, t = (itemDelivered q slot n).chargePrint slot n := ⟨_, rfl⟩
  have hresult : (s.deliverPrint slot n o e).1 = t.accountCheck slot := by rw [ht, hq]; rfl
  rw [← ht] at hcorder hcitems hctotals
  have hto : t.order? slot = some ((orderPlaced s dest o).addCharge (chargeOf s o i p)) := by rw [hcorder, if_pos rfl]
  have hcompletes : completes t slot ((orderPlaced s dest o).addCharge (chargeOf s o i p)) = complete := by
    rw [Bool.eq_iff_iff, completes_iff (o := o) hto rfl rfl, hcomplete]
    refine and_congr_right fun _ => forall₂_congr fun k _ => ?_
    rw [hcitems, hitems]
    by_cases hk : k = r
    · subst hk
      simp only [if_true, hi, Option.some.injEq, forall_eq', chargedItem]
      omega
    · simp only [hk, if_false]
  have hdrains : drains t slot ((orderPlaced s dest o).addCharge (chargeOf s o i p)) ≠ true := by
    simp [drains, Order.addCharge, Order.withFinal, orderPlaced, hstate]
  have hchecked : checkedOrder t slot ((orderPlaced s dest o).addCharge (chargeOf s o i p)) =
      some (orderDelivered s dest (chargeOf s o i p) complete o) := by
    rw [checkedOrder, hcompletes, if_neg hdrains, orderDelivered]
    cases complete <;> rfl
  have hscheduler : t.scheduler = s.scheduler := by rw [ht, hq]; simp [itemDelivered]
  have hsort : t.sort = q.sort := by rw [ht]; simp [itemDelivered]
  have hclock : t.timeBase = s.timeBase := by rw [ht, hq]; simp [itemDelivered]
  have hminutes : t.sort.uncollectedTime = s.sort.uncollectedTime := by rw [hsort, hq]; simp
  have hwork : WorkSame s t := workSame_of_eq (by rw [ht, hq]; simp [itemDelivered]) (by rw [ht, hq]; simp [itemDelivered])
  have hafter (b : Bin) : b.afterCompletion t = b.afterCompletion s := by
    unfold Bin.afterCompletion
    rw [hminutes, hclock]
  have hcheck := onlyChanges_accountCheck t slot
  rw [hresult, ← hdest]
  refine ⟨fun k => ?_, fun k => ?_, fun c => ?_, fun k b hb => ?_, ?_, ?_, ?_⟩
  · rw [order?_accountCheck hto, hchecked, hcorder, horder]
    split <;> simp [*]
  · rw [items_accountCheck hto, hchecked, if_neg (by simp), hcitems, hitems]
  · rw [classList_accountCheck hto, hcompletes, hscheduler]
    rfl
  · rw [bins_accountCheck hto, hsort, hbin hb, hcompletes, Option.map_some, hafter]
    rfl
  · rw [← htray, ← hsort]
    exact hcheck .trayCount (by decide)
  · rw [← hprice, ← hctotals, accountCheck_price]
  · have htrailing := trailing_accountCheck hto
    rw [hcompletes] at htrailing
    exact trailing_congr htrailing (fun k => Iff.rfl) hwork (workSame_refl _)

end

/-! ## The cut -/

theorem afterCompletion_popSegments (s : State) (k : Nat) (b : Bin) :
    b.afterCompletion (s.popSegments k) = b.afterCompletion s := rfl

/-- R123, R125: a cut at the reference end of a sound print at the head of the map. -/
theorem takeCut_delivers {s : State} {g : Segment} {rest : List Segment} {slot n copy : Nat} {o : Order} {i : Item}
    {e : SizeEntry} {d : Int} (hfault : s.web.fault = none) (hmap : s.web.map = g :: rest)
    (hkind : g.kind = .print slot n copy) (hclosed : g.closed = true) (hsound : g.sound = true)
    (hd : d = signedDiff s.web.odometer (g.start + BitVec.ofNat 32 (g.length + s.web.lpath)))
    (hlow : -25 ≤ d) (hhigh : d ≤ 25) (ho : s.order? slot = some o) (hstate : o.state ≠ .withdrawn)
    (hi : s.orderTable.item? slot n = some i) (he : Table.get? s.orderTable.sizes i.sizeIndex = some e) :
    s.takeCut = (((s.popSegments 1).deliverPrint slot n o e).1,
      { outcome := .matched, destination := ((s.popSegments 1).deliverPrint slot n o e).2, piece := .single g.kind
        odometer := s.web.odometer, deviation := some d, ticket := o.ticket, fate := .delivered, remade := 0
        writtenOff := 0 }) := by
  subst hd
  have hwhole : g.merged = false := by
    simp only [Segment.sound, Bool.and_eq_true, Bool.not_eq_true'] at hsound
    exact hsound.1.2
  have hsame : mergePassed s.web.lpath s.web.odometer s.web.map = s.web.map := by
    rw [hmap]
    exact mergePassed_of_stop (before := []) (by simp) hwhole (.inr hhigh)
  have hready : (s.popSegments 1).deliverable? g = some (slot, n, o, e) := by
    have ho' : (s.popSegments 1).order? slot = some o := ho
    have he' : ((s.popSegments 1).orderTable.item? slot n).bind (s.popSegments 1).orderTable.sizeOf? = some e := by
      rw [show (s.popSegments 1).orderTable.item? slot n = some i from hi]
      exact he
    unfold State.deliverable?
    rw [hkind]
    dsimp only
    rw [ho', he']
    exact if_pos (by simp [hsound, hstate])
  rw [State.takeCut, if_neg (by simp [hfault]), detectMissedCuts_of_same hsame, judgeCut_of_reference (before := [])
    hmap (by simp) hwhole hclosed]
  refine (if_pos ⟨hlow, hhigh⟩).trans ?_
  rw [State.matchedCut, hmap]
  simp only [List.length_nil, Nat.zero_add, List.take_succ_cons, List.take_zero, hready] <;> rfl

/-- R15, R142, R143, R163: the order's record field by field. -/
theorem orderDelivered_eq (s : State) (dest charge : Nat) (complete : Bool) (o : Order) :
    orderDelivered s dest charge complete o =
      { o with
        gross := o.gross + charge
        final := (max 0 (min 9999999 (((o.gross + charge : Nat) : Int) -
          ((o.gross + charge) * o.discount / 100 : Nat) + o.adjustment))).toNat
        bins := if (Table.get? s.sort.bins dest).any (fun b => b.state == .free) then o.bins ++ [dest] else o.bins
        overflow := if dest = 21 then min 255 (o.overflow + 1) else o.overflow
        shortageUnreported := o.shortageUnreported || decide (dest = 21)
        state := if complete then .complete else o.state
        completeUnreported := o.completeUnreported || complete
        paperWait := if complete then none else o.paperWait } := by
  cases complete
  · rw [Bool.or_false]
    rfl
  · rw [Bool.or_true]
    rfl

/-- Settles O48. -/
theorem cutDeliversASoundPrint : Obligations.CutDeliversASoundPrint := by
  intro s g rest slot n copy o r i e p d dest bins complete gross htaking hfault hmap hkind hclosed hsuspect hsplit hmerged
    hspoiled hd hlow hhigh ho hstate hr hi hweb he hp hok hdest hbins hgross hcomplete
  have htake := takeCut_delivers hfault hmap hkind hclosed (by simp [Segment.sound, hsuspect, hsplit, hmerged, hspoiled]) hd
    hlow hhigh ho hstate ((item?_of_order ho hr).trans hi) he
  have hdest' : destination (s.popSegments 1) o e.group = dest := by
    rw [hdest]
    exact destination_eq s o e.group
  have hcharge : gross = o.gross + chargeOf (s.popSegments 1) o i p := hgross
  obtain ⟨horders, hitems, hlists, hbin, htray, htotals, htrailing⟩ :=
    deliverPrint_delivers (s := s.popSegments 1) (complete := complete) (e := e) ho hr hi hp hweb hok hstate hcomplete
  rw [hdest'] at horders hbin htray
  obtain ⟨hexec, hreplied⟩ := exec_cut htaking htake
  have hpop := onlyChanges_popSegments s 1
  have hdeliver := onlyChanges_deliverPrint (s.popSegments 1) slot n o e
  have hplaced : ((s.popSegments 1).deliverPrint slot n o e).2 = dest :=
    (placePrint_destination e.group).trans hdest'
  have hpopped : Popped rest s (s.popSegments 1) := by
    have h := popped_popSegments s 1
    rwa [hmap, List.drop_one, List.tail_cons] at h
  have hsame := deliverPrint_web (s.popSegments 1) slot n o e
  rw [hplaced] at hexec hreplied
  obtain ⟨u, hu⟩ : ∃ u, u = ((s.popSegments 1).deliverPrint slot n o e).1 := ⟨_, rfl⟩
  rw [← hu] at horders hitems hlists htray htotals htrailing hexec hreplied hdeliver hsame
  simp only [← hu] at hbin
  refine ⟨_, _, hexec, popped_of_web hpopped (by rw [← hsame]; rfl) (by rw [← hsame]; rfl) (by rw [← hsame]; rfl), ?_,
    fun k hk => ?_, ?_, fun k hk => ?_, fun hc c => ?_, fun hc => ?_, fun k b hb => ?_, htray, htotals,
    htrailing, ?_, rfl, rfl, hreplied, ?_⟩
  · refine (hitems r).trans ?_
    rw [if_pos rfl, hcharge, Nat.add_sub_cancel_left]
    rfl
  · exact (hitems k).trans (if_neg (by simpa using hk))
  · refine (horders slot).trans ?_
    rw [if_pos rfl, hbins, hcharge]
    exact congrArg some (orderDelivered_eq _ _ _ _ _)
  · exact (horders k).trans (if_neg hk)
  · refine (hlists c).trans ?_
    rw [hc]
    simp only [true_and]
    rfl
  · have hkept (c : OrderClass) := (hlists c).trans (if_neg (not_and_of_not_left _ (by simp [hc])))
    exact ⟨hkept .express, hkept .standard, hkept .bulk⟩
  · refine (hbin k b hb).trans ?_
    rw [hbins]
    rfl
  · show satAdd 65535 u.web.cutsTaken 1 = _
    rw [hsame, (hpop .cuts (by decide)).1]
    rfl
  · exact onlyChanges_answered (onlyChanges_mono (onlyChanges_trans hpop (onlyChanges_trans hdeliver
      (onlyChanges_cutRecorded _ _))) (by decide)) (by decide) (.inl (by decide))

end Sys2Proof.Delivery

/-! Raster faults: O41. -/

namespace Sys2Proof.RasterFaults

open Sys2Proof.Machine Sys2Proof.Laws Sys2Proof.OrdersAndItems Sys2Proof.Magazines Sys2Proof.Sorting Sys2Proof.Till
open Sys2Proof.Steps Sys2Proof.WebMap Sys2Proof.Pool Sys2Proof.Registry Sys2Proof.Controls Sys2Proof.Disposal
open Sys2Proof.Delivery

/-! ## The order and the item struck (R11) -/

/-- R11: the record of a struck order that was READY, IN PRINT or HELD, before its check. -/
def orderStruck (o : Order) : Order := { o.struck with paperWait := if o.state = .held then o.paperWait else none }

theorem workEnded_voidSelectionOf {s : State} (slot : Nat) (hended : WorkEnded s) : WorkEnded (s.voidSelectionOf slot) := by
  have hidle : s.resampler.worksForSelection = false := by
    obtain ⟨hwork, -⟩ := hended
    rw [Resampler.worksForSelection, hwork]
  unfold State.voidSelectionOf State.voidSelection
  rw [hidle]
  split
  · split
    · exact hended
    · exact hended
  · exact hended

section
variable {s : State} {slot n r : Nat} {o : Order} {i : Item} (ho : s.order? slot = some o)
  (hstate : o.state = .ready ∨ o.state = .inPrint ∨ o.state = .held)
include ho hstate

/-- R11: a READY or IN PRINT order leaves its list and its selection is voided; a HELD one stays as it is. -/
theorem faultStruck_cases :
    (o.state ≠ .held ∧ faultStruck s slot n = ((struckAt s slot n).delist slot).voidSelectionOf slot)
      ∨ o.state = .held ∧ faultStruck s slot n = struckAt s slot n := by
  unfold faultStruck
  rw [ho]
  rcases hstate with h | h | h
  · exact .inl ⟨by simp [h], if_pos (.inl h)⟩
  · exact .inl ⟨by simp [h], if_pos (.inr h)⟩
  · exact .inr ⟨h, if_neg (by simp [h])⟩

theorem order?_faultStruck (k : Nat) :
    (faultStruck s slot n).order? k = if k = slot then some (orderStruck o) else s.order? k := by
  obtain ⟨hlisted, hstruck⟩ | ⟨hheld, hstruck⟩ := faultStruck_cases (n := n) ho hstate
  · rw [order?_faultStruck_of_listed n ho (by simpa [hlisted] using hstate), orderStruck, if_neg hlisted]
  · rw [hstruck, order?_struckAt, ho, orderStruck, if_pos hheld]
    rfl

theorem classList_faultStruck (c : OrderClass) : (faultStruck s slot n).scheduler.classList c =
    if o.state ≠ .held ∧ c = o.cls then (s.scheduler.classList c).filter fun k => k != slot
    else s.scheduler.classList c := by
  obtain ⟨hlisted, hstruck⟩ | ⟨hheld, hstruck⟩ := faultStruck_cases (n := n) ho hstate
  · have hslot : (struckAt s slot n).order? slot = some o.struck := by rw [order?_struckAt, if_pos rfl, ho]; rfl
    rw [hstruck, classList_voidSelectionOf, removed_delist hslot c]
    simp only [ne_eq, hlisted, not_false_eq_true, true_and]
    rfl
  · rw [hstruck, if_neg fun h => h.1 hheld]
    rfl

theorem items_faultStruck (hr : o.items[n]? = some r) (hi : Table.get? s.orderTable.items r = some i) (k : Nat) :
    Table.get? (faultStruck s slot n).orderTable.items k =
      if k = r then some i.struck else Table.get? s.orderTable.items k := by
  have hitems : (faultStruck s slot n).orderTable.items = (s.orderTable.modifyItem slot n Item.struck).items := by
    obtain ⟨-, hstruck⟩ | ⟨-, hstruck⟩ := faultStruck_cases (n := n) ho hstate
    · rw [hstruck, voidSelectionOf_orderTable, delist_orderTable_items]
      rfl
    · rw [hstruck]
      rfl
  rw [hitems, items_modifyItem ho hr, hi]
  rfl

omit hstate ho in
theorem onlyChanges_struckAt : OnlyChanges [.orders, .items] s (struckAt s slot n) := by
  intro p hp
  cases p <;> simp_all [Same, State.port, struckAt, OrderTable.modifyOrder, OrderTable.modifyItem]

theorem onlyChanges_faultStruck :
    OnlyChanges [.orders, .items, .classLists, .attemptCause, .selection, .lineQueue, .work, .rows, .fetch] s
      (faultStruck s slot n) := by
  have hstrike := onlyChanges_struckAt (s := s) (slot := slot) (n := n)
  obtain ⟨-, hstruck⟩ | ⟨-, hstruck⟩ := faultStruck_cases (n := n) ho hstate
  · rw [hstruck]
    exact onlyChanges_mono (onlyChanges_trans hstrike (onlyChanges_trans (onlyChanges_delist _ slot)
      (onlyChanges_voidSelectionOf _ slot))) (by decide)
  · rw [hstruck]
    exact onlyChanges_mono hstrike (by decide)

/-- R11, R43: of the line queue a raster fault takes at most the lines of a selection it voids. -/
theorem faultStruck_queue :
    (∀ l ∈ (faultStruck s slot n).channel.queue, l ∈ s.channel.queue)
      ∧ (s.scheduler.selection = none → (faultStruck s slot n).channel.queue = s.channel.queue
        ∧ (faultStruck s slot n).scheduler.selection = none) := by
  obtain ⟨-, hstruck⟩ | ⟨-, hstruck⟩ := faultStruck_cases (n := n) ho hstate
  · have hselection : ((struckAt s slot n).delist slot).scheduler.selection = s.scheduler.selection :=
      onlyChanges_delist (struckAt s slot n) slot .selection (by decide)
    have hqueue : ((struckAt s slot n).delist slot).channel.queue = s.channel.queue :=
      onlyChanges_delist (struckAt s slot n) slot .lineQueue (by decide)
    rw [hstruck, ← hqueue, ← hselection]
    unfold State.voidSelectionOf
    split
    · next hselects =>
      refine ⟨fun l hl => ?_, fun hnone => ?_⟩
      · unfold State.voidSelection at hl
        split at hl
        · exact List.mem_of_mem_filter hl
        · exact hl
      · rw [Scheduler.selects, hnone] at hselects
        cases hselects
    · exact ⟨fun l hl => hl, fun hnone => ⟨rfl, hnone⟩⟩
  · rw [hstruck]
    exact ⟨fun l hl => hl, fun hnone => ⟨rfl, hnone⟩⟩

theorem workEnded_faultStruck (hended : WorkEnded s) : WorkEnded (faultStruck s slot n) := by
  obtain ⟨-, hstruck⟩ | ⟨-, hstruck⟩ := faultStruck_cases (n := n) ho hstate
  · rw [hstruck]
    exact workEnded_voidSelectionOf (s := (struckAt s slot n).delist slot) slot hended
  · rw [hstruck]
    exact hended

/-! ## The check of the struck order (R11, step 5; R15) -/

theorem faultOrder_strikes (hr : o.items[n]? = some r) (hi : Table.get? s.orderTable.items r = some i)
    (hended : WorkEnded s) : ∃ left : Bool,
    (left = true ↔ ∃ k ∈ o.items, ∃ j, Table.get? (s.faultOrder slot n).orderTable.items k = some j
        ∧ (j.waiting ≠ 0 ∨ j.onWeb ≠ 0))
      ∧ WorkEnded (s.faultOrder slot n)
      ∧ (∀ k, Table.get? (s.faultOrder slot n).orderTable.items k =
        if k = r then some i.struck else Table.get? s.orderTable.items k)
      ∧ (∀ k, (s.faultOrder slot n).order? k =
        if k = slot then some (if left then orderStruck o else completed (orderStruck o)) else s.order? k)
      ∧ (∀ c, (s.faultOrder slot n).scheduler.classList c =
        if (o.state ≠ .held ∨ left = false) ∧ c = o.cls then (s.scheduler.classList c).filter fun k => k != slot
        else s.scheduler.classList c)
      ∧ (∀ k b, Table.get? s.sort.bins k = some b → Table.get? (s.faultOrder slot n).sort.bins k =
        some (if left = false ∧ k ∈ o.bins then b.afterCompletion s else b))
      ∧ (∀ l ∈ (s.faultOrder slot n).channel.queue, l ∈ s.channel.queue)
      ∧ (s.scheduler.selection = none → (s.faultOrder slot n).channel.queue = s.channel.queue
        ∧ (s.faultOrder slot n).scheduler.selection = none)
      ∧ OnlyChanges [.orders, .items, .classLists, .attemptCause, .selection, .lineQueue, .work, .rows, .fetch, .bins] s
        (s.faultOrder slot n) := by
  have hstrike := onlyChanges_faultStruck (n := n) ho hstate
  have horder := order?_faultStruck (n := n) ho hstate
  have hlist := classList_faultStruck (n := n) ho hstate
  have hitems := items_faultStruck (n := n) ho hstate hr hi
  obtain ⟨hqueue, hidle⟩ := faultStruck_queue (n := n) ho hstate
  have hwork := workEnded_faultStruck (n := n) ho hstate hended
  rw [faultOrder_eq]
  obtain ⟨u, hu⟩ : ∃ u, u = faultStruck s slot n := ⟨_, rfl⟩
  rw [← hu] at hstrike hwork hidle hqueue
  simp only [← hu] at horder hlist hitems ⊢
  have huo : u.order? slot = some (orderStruck o) := by rw [horder, if_pos rfl]
  have hheld : (orderStruck o).state = .held := by
    rcases hstate with h | h | h <;> simp [orderStruck, Order.struck, h]
  have hchecked : checkedOrder u slot (orderStruck o) =
      some (if !completes u slot (orderStruck o) then orderStruck o else completed (orderStruck o)) := by
    rw [checkedOrder, if_neg (c := drains u slot (orderStruck o) = true) (by simp [drains, hheld])]
    cases completes u slot (orderStruck o) <;> rfl
  have hcheck := onlyChanges_accountCheck u slot
  have hsort : u.sort.bins = s.sort.bins := hstrike .bins (by decide)
  have hafter (b : Bin) : b.afterCompletion u = b.afterCompletion s := by
    have hminutes : u.sort.uncollectedTime = s.sort.uncollectedTime := hstrike .uncollectedTime (by decide)
    have hclock : u.timeBase = s.timeBase := hstrike .timeBase (by decide)
    unfold Bin.afterCompletion
    rw [hminutes, hclock]
  have hkeptItems (k : Nat) : Table.get? (u.accountCheck slot).orderTable.items k = Table.get? u.orderTable.items k := by
    rw [items_accountCheck huo, hchecked, if_neg (by simp)]
  obtain ⟨-, hsamework⟩ := trailing_accountCheck huo
  refine ⟨!completes u slot (orderStruck o), ?_, ?_, fun k => ?_, fun k => ?_, fun c => ?_, fun k b hb => ?_, fun l hl => ?_,
    fun hnone => ?_, onlyChanges_mono (onlyChanges_trans hstrike hcheck) (by decide)⟩
  · rw [Bool.not_eq_true', ← Bool.not_eq_true, completes_iff huo (o := orderStruck o) rfl rfl]
    simp only [hheld, hkeptItems, true_and, or_true, not_forall, exists_prop, not_and_or]
    rfl
  · refine workEnded_of_same (hsamework fun k _ ⟨w, start, hw, _⟩ => ?_) hwork
    obtain ⟨hnone, -⟩ := hwork
    rw [hnone] at hw
    cases hw
  · rw [hkeptItems, hitems]
  · rw [order?_accountCheck huo, hchecked, horder]
    split <;> rfl
  · rw [classList_accountCheck huo, hlist]
    show (if _ ∧ c = o.cls then _ else _) = _
    by_cases hc : c = o.cls <;> by_cases hlisted : o.state = .held <;> cases completes u slot (orderStruck o) <;>
      simp [hc, hlisted]
  · rw [bins_accountCheck huo, hsort, hb, Option.map_some, hafter]
    simp only [Bool.not_eq_false']
    rfl
  · have hsame : (u.accountCheck slot).channel.queue = u.channel.queue := hcheck .lineQueue (by decide)
    exact hqueue l (hsame ▸ hl)
  · obtain ⟨hq, hsel⟩ := hidle hnone
    exact ⟨(hcheck .lineQueue (by decide)).trans hq, (hcheck .selection (by decide)).trans hsel⟩

end

/-! ## The print a fault strikes (R81, R82) -/

section
variable {s : State} {w : Work}

/-- R43, R68: the work a fault serves ends, and its fetch with it. -/
theorem workEnded_faultPrint (hw : s.resampler.work = some w) (hselects : w.owner = .selection → s.scheduler.selection.isSome = true)
    (hfetch : s.fetch.inFlight = none ∧ s.fetch.timer = none) : WorkEnded (s.faultPrint w.owner) := by
  obtain ⟨hflight, htimer⟩ := hfetch
  cases howner : w.owner with
  | selection =>
    have hserves : s.resampler.worksForSelection = true := by simp [Resampler.worksForSelection, hw, howner]
    rw [State.faultPrint, State.voidSelection, if_pos (hselects howner), hserves]
    exact ⟨rfl, rfl, rfl, rfl, rfl⟩
  | exposed => exact ⟨rfl, rfl, rfl, rfl, rfl⟩
  | trailing start => exact ⟨rfl, rfl, rfl, rfl, rfl⟩

/-- R81: before its start the selection is voided with its lines. -/
theorem faultPrint_selection (hselects : s.scheduler.selection.isSome = true) :
    (s.faultPrint .selection).scheduler.selection = none ∧ (s.faultPrint .selection).web.map = s.web.map
      ∧ (s.faultPrint .selection).channel.queue = s.channel.queue.filter fun l => l.owner != .selection := by
  rw [State.faultPrint, State.voidSelection, if_pos hselects]
  exact ⟨rfl, rfl, rfl⟩

/-- R82: a print being exposed is blanked and suspect. -/
theorem faultPrint_exposed : ExposedMarkedSuspect s (s.faultPrint .exposed)
    ∧ (∀ l ∈ (s.faultPrint .exposed).channel.queue, l.owner ≠ .exposed)
    ∧ (s.faultPrint .exposed).channel.exposure = s.channel.exposure.map fun e => { e with blanked := true } := by
  refine ⟨exposedMarkedSuspect_of_map rfl, fun l hl => ?_, rfl⟩
  simpa using (List.mem_filter.1 hl).2

/-- R81, R82: what a fault does to its print, by the print's phase. -/
theorem faultPrint_phase (hselects : w.owner = .selection → s.scheduler.selection.isSome = true) :
    (w.owner = .selection → (s.faultPrint w.owner).scheduler.selection = none ∧ (s.faultPrint w.owner).web.map = s.web.map
        ∧ (s.faultPrint w.owner).channel.queue = s.channel.queue.filter fun l => l.owner != .selection)
      ∧ (w.owner = .exposed → ExposedMarkedSuspect s (s.faultPrint w.owner)
        ∧ (∀ l ∈ (s.faultPrint w.owner).channel.queue, l.owner ≠ .exposed)
        ∧ (s.faultPrint w.owner).channel.exposure = s.channel.exposure.map fun e => { e with blanked := true })
      ∧ ∀ start, w.owner = .trailing start → (s.faultPrint w.owner).web.map =
        s.web.map.map fun g => if g.start = start then { g with suspect := true } else g := by
  cases howner : w.owner with
  | selection => exact ⟨fun _ => faultPrint_selection (hselects howner), fun h => (by cases h), fun _ h => by cases h⟩
  | exposed => exact ⟨fun h => (by cases h), fun _ => faultPrint_exposed, fun _ h => by cases h⟩
  | trailing start =>
    refine ⟨fun h => (by cases h), fun h => (by cases h), fun start' h => ?_⟩
    obtain rfl : start = start' := by injection h
    rfl

end

/-! ## The frame or the timeout that is a fault (R77, R78, R80) -/

theorem served_inFlight (s : State) : s.served.fetch.inFlight = s.fetch.inFlight := by
  have hwaiting (r : RasterFetch) (now : Word32) : (r.sendWaiting now).inFlight = r.inFlight := by
    unfold RasterFetch.sendWaiting
    split <;> rfl
  unfold State.served RasterFetch.served
  dsimp only
  split
  · rfl
  · exact hwaiting _ _
  · exact hwaiting _ _

/-- R80: a raster fault reaches the handling of the print with the raster link's record behind it. -/
theorem exec_rasterFault {s : State} {f : Fetch} {command : Instr} {cause : FaultCause} (hf : s.fetch.inFlight = some f)
    (hfault : IsRasterFault s f command cause) : ∃ fetch : RasterFetch,
      exec command s = .next (s.noteCauses (State.rasterFault { s with fetch := fetch } f cause))
        ∧ OnlyChanges [.fetch, .frameSent, .rasterLink] s { s with fetch := fetch }
        ∧ (command ≠ .fetchTimeout → LinkReleased { s with fetch := fetch })
        ∧ (command = .fetchTimeout ∨ NothingToSend s → fetch.frameSent = s.fetch.frameSent) := by
  have hflight : s.served.fetch.inFlight = some f := (served_inFlight s).trans hf
  have hkept (h : NothingToSend s) : s.served.fetch.frameSent = s.fetch.frameSent :=
    congrArg (fun t => t.fetch.frameSent) (Laws.served_of_nothingToSend h)
  cases command
  case rowFault tag reason =>
    obtain ⟨rfl, rfl⟩ := hfault
    refine ⟨s.served.fetch, ?_, served_same s, fun _ => rfl, fun h => hkept (h.resolve_left (by simp))⟩
    have hreason : recordedReason reason = if 1 ≤ reason.toNat ∧ reason.toNat ≤ 15 then reason.toNat else 15 := by
      unfold recordedReason
      split <;> split <;> omega
    show Host.Outcome.next (s.noteCauses (s.served.takeRowFault f.tag reason)) = _
    unfold State.takeRowFault
    rw [hflight]
    dsimp only
    rw [if_pos rfl, hreason] <;> rfl
  case rowData tag pixels =>
    obtain ⟨rfl, hlow, hhigh, hlength, rfl⟩ := hfault
    refine ⟨s.served.fetch, ?_, served_same s, fun _ => rfl, fun h => hkept (h.resolve_left (by simp))⟩
    show Host.Outcome.next (s.noteCauses (if _ then s.served else s.served.takeRowData f.tag pixels)) = _
    rw [if_neg (by omega)]
    unfold State.takeRowData
    rw [hflight]
    dsimp only
    rw [if_neg (by simp), if_neg hlength] <;> rfl
  case fetchTimeout =>
    obtain ⟨⟨e, he, htime⟩, rfl⟩ := hfault
    refine ⟨s.fetch, ?_, onlyChanges_refl _ s, fun h => absurd rfl h, fun _ => rfl⟩
    have hreached : reached s.timeBase e = true := by simpa [reached] using htime
    show Host.Outcome.next _ = _
    rw [hf, he]
    dsimp only
    rw [if_pos hreached] <;> rfl
  all_goals exact hfault.elim

/-- R80: the record of a fault of a print of an order. -/
def faultOf (f : Fetch) (cause : FaultCause) (w : Work) (p : PrintJob) (o : Order) : RasterFault :=
  { cause := cause, ticket := o.ticket, item := p.item, level := f.level, row := f.row, phase := w.owner.phase }

/-- R80: the fault recorded and counted, its fetch ended. -/
def faultRecorded (s : State) (fetch : RasterFetch) (fault : RasterFault) : State :=
  { s with fetch := { fetch.abandon with lastFault := some fault, faultCount := satAdd 65535 fetch.faultCount 1 } }

theorem onlyChanges_faultRecorded {s : State} {fetch : RasterFetch} (fault : RasterFault)
    (htag : fetch.nextTag = s.fetch.nextTag) :
    OnlyChanges [.fetch, .lastFault, .frameSent, .rasterLink] s (faultRecorded s fetch fault) := by
  intro p hp
  cases p <;> simp_all [Same, State.port, faultRecorded, RasterFetch.abandon]

theorem rasterFault_eq {s : State} {w : Work} {p : PrintJob} {o : Order} (f : Fetch) (cause : FaultCause)
    (fetch : RasterFetch) (hw : s.resampler.work = some w) (hjob : w.job = .print p) (ho : s.order? p.slot = some o) :
    State.rasterFault { s with fetch := fetch } f cause =
      ((faultRecorded s fetch (faultOf f cause w p o)).faultPrint w.owner).faultOrder p.slot p.item := by
  unfold State.rasterFault
  dsimp only
  rw [hw]
  dsimp only
  rw [hjob]
  dsimp only
  rw [State.ticketOf, show State.order? { s with fetch := fetch } p.slot = some o from ho] <;> rfl

/-- Settles O41. -/
theorem rasterFaultStrikesItemAndOrder : Obligations.RasterFaultStrikesItemAndOrder := by
  intro s f w p o i r command cause hf hfault hw hjob hselects ho hstate hr hi
  obtain ⟨fetch, hexec, hserved, hreleased, hframe⟩ := exec_rasterFault hf hfault
  have hlast : fetch.lastFault = s.fetch.lastFault ∧ fetch.faultCount = s.fetch.faultCount := hserved .lastFault (by decide)
  have hselected (h : w.owner = .selection) : s.scheduler.selection.isSome = true := by
    have := hselects h
    unfold Scheduler.selects at this
    split at this
    · next hsel => rw [hsel]; rfl
    · cases this
  obtain ⟨q, hq⟩ : ∃ q, q = faultRecorded s fetch (faultOf f cause w p o) := ⟨_, rfl⟩
  have hqparts : OnlyChanges [.fetch, .lastFault, .frameSent, .rasterLink] s q := by
    rw [hq]
    exact onlyChanges_faultRecorded _ (hserved .nextTag (by decide))
  obtain ⟨hqfault, hqcount, hqlink, hqframe⟩ : q.fetch.lastFault = some (faultOf f cause w p o)
      ∧ q.fetch.faultCount = min 65535 (s.fetch.faultCount + 1) ∧ q.fetch.link = fetch.link
      ∧ q.fetch.frameSent = fetch.frameSent := by
    rw [hq, ← hlast.2]
    exact ⟨rfl, rfl, rfl, rfl⟩
  have hprint := onlyChanges_faultPrint q w.owner
  have hended : WorkEnded (q.faultPrint w.owner) := by
    rw [hq]
    exact workEnded_faultPrint hw hselected ⟨rfl, rfl⟩
  have hqselected (h : w.owner = .selection) : q.scheduler.selection.isSome = true := by
    rw [hq]
    exact hselected h
  have hqsame : q.scheduler = s.scheduler ∧ q.channel = s.channel ∧ q.web = s.web ∧ q.timeBase = s.timeBase
      ∧ q.sort = s.sort := by
    rw [hq]
    exact ⟨rfl, rfl, rfl, rfl, rfl⟩
  rw [rasterFault_eq f cause fetch hw hjob ho, ← hq] at hexec
  clear hq
  obtain ⟨v, hv⟩ : ∃ v, v = q.faultPrint w.owner := ⟨_, rfl⟩
  rw [← hv] at hprint hended hexec
  obtain ⟨hbefore, hduring, htrailing⟩ := faultPrint_phase (s := q) hqselected
  rw [← hv] at hbefore hduring htrailing
  have hvparts := onlyChanges_trans hqparts hprint
  have hvtable : v.orderTable.orders = s.orderTable.orders ∧ v.orderTable.items = s.orderTable.items :=
    ⟨hvparts .orders (by decide), hvparts .items (by decide)⟩
  have hvorder (k : Nat) : v.order? k = s.order? k := congrArg (Table.get? · k) hvtable.1
  have hvlist := classList_of_same (hvparts .classLists (by decide))
  have hvbins : v.sort.bins = s.sort.bins := hvparts .bins (by decide)
  have hvafter (b : Bin) : b.afterCompletion v = b.afterCompletion s := by
    have hminutes : v.sort.uncollectedTime = s.sort.uncollectedTime := hvparts .uncollectedTime (by decide)
    have hclock : v.timeBase = s.timeBase := hvparts .timeBase (by decide)
    unfold Bin.afterCompletion
    rw [hminutes, hclock]
  obtain ⟨left, hleft, htended, hitems, horder, hlist, hbins, hqueue, hidle, hparts⟩ :=
    faultOrder_strikes (s := v) (n := p.item) (hvorder p.slot |>.trans ho) hstate hr (by rw [hvtable.2]; exact hi) hended
  obtain ⟨t, ht⟩ : ∃ t, t = v.faultOrder p.slot p.item := ⟨_, rfl⟩
  rw [← ht] at hexec
  simp only [← ht] at hleft htended hitems horder hlist hbins hqueue hidle hparts
  clear ht hv
  have hmap : t.web.map = v.web.map := hparts .map (by decide)
  have hfaults : t.fetch.lastFault = v.fetch.lastFault ∧ t.fetch.faultCount = v.fetch.faultCount :=
    hparts .lastFault (by decide)
  have hqfaults : v.fetch.lastFault = q.fetch.lastFault ∧ v.fetch.faultCount = q.fetch.faultCount :=
    hprint .lastFault (by decide)
  have hlink : t.fetch.link = fetch.link :=
    ((hparts .rasterLink (by decide)).trans (hprint .rasterLink (by decide))).trans hqlink
  have hsent : t.fetch.frameSent = fetch.frameSent :=
    ((hparts .frameSent (by decide)).trans (hprint .frameSent (by decide))).trans hqframe
  obtain ⟨hqscheduler, hqchannel, hqweb, -, -⟩ := hqsame
  refine ⟨_, left, hexec, hleft, ?_, ?_, htended, ?_, fun k hk => ?_, ?_, fun k hk => ?_, fun hcase c => ?_,
    fun hheld hl => ?_, fun k b hb => ?_, fun hsel => ?_, fun hexp => ?_, fun start htr => ?_, fun hcommand => ?_,
    fun hsame => ?_, ?_⟩
  · refine (hfaults.1.trans (hqfaults.1.trans hqfault)).trans ?_
    unfold faultOf
    cases w.owner <;> rfl
  · exact hfaults.2.trans (hqfaults.2.trans hqcount)
  · refine (hitems r).trans ?_
    rw [if_pos rfl]
    rfl
  · refine (hitems k).trans ?_
    rw [if_neg (by simpa using hk), hvtable.2]
  · refine (horder p.slot).trans ?_
    rw [if_pos rfl]
    cases left
    · simp [completed, orderStruck, Order.struck]
    · rcases hstate with h | h | h <;> simp [orderStruck, Order.struck, h]
  · exact ((horder k).trans (if_neg hk)).trans (hvorder k)
  · rw [classList_noteCauses, hlist, hvlist]
    simp only [hcase, true_and]
  · have hsame (c : OrderClass) : t.scheduler.classList c = s.scheduler.classList c := by
      rw [hlist, if_neg (by simp [hheld, hl]), hvlist]
    exact ⟨hsame .express, hsame .standard, hsame .bulk⟩
  · refine (hbins k b (by rw [hvbins]; exact hb)).trans ?_
    rw [hvafter]
  · obtain ⟨hnone, hsame, hlines⟩ := hbefore hsel
    obtain ⟨hkept, hgone⟩ := hidle hnone
    exact ⟨hgone, hmap.trans (by rw [hsame, hqweb]), hkept.trans (by rw [hlines, hqchannel])⟩
  · obtain ⟨hsuspect, hlines, hexposure⟩ := hduring hexp
    refine ⟨?_, fun l hl => hlines l (hqueue l hl), ?_⟩
    · unfold ExposedMarkedSuspect State.exposing at hsuspect ⊢
      rw [hqchannel, hqweb, ← hmap] at hsuspect
      exact hsuspect
    · exact (hparts .exposure (by decide)).trans (by rw [hexposure, hqchannel])
  · exact hmap.trans (by rw [htrailing start htr, hqweb])
  · exact hlink.trans (hreleased hcommand)
  · exact hsent.trans (hframe hsame)
  · exact onlyChanges_noted (onlyChanges_mono (onlyChanges_trans hvparts hparts) (by decide)) (.inl (by decide))

end Sys2Proof.RasterFaults

/-! Line production: O39. -/

namespace Sys2Proof.Lines

open Sys2Proof.Machine Sys2Proof.Laws Sys2Proof.OrdersAndItems
open Sys2Proof.ImageCodes Sys2Proof.Steps Sys2Proof.WebMap Sys2Proof.Controls

/-! ## The codes of a line (R62 to R72) -/

theorem get_map {α β : Type} (p : PerChannel α) (f : α → β) (c : Fin 3) : (p.map f).get c = f (p.get c) := by
  fin_cases c <;> rfl

theorem perChannel_ext {α : Type} {p q : PerChannel α} (h : ∀ c, p.get c = q.get c) : p = q := by
  cases p
  cases q
  exact PerChannel.mk.injEq .. ▸ ⟨h 0, h 1, h 2⟩

/-- The channels by their places. -/
theorem get_channels (c : Fin 3) : PerChannel.get { c0 := (0 : Fin 3), c1 := 1, c2 := 2 } c = c := by fin_cases c <;> rfl

theorem perChannel_map_eq_iff {codes : Codes} {f : Fin 3 → List Code} :
    PerChannel.map f { c0 := 0, c1 := 1, c2 := 2 } = codes ↔ ∀ c, codes.get c = f c := by
  constructor
  · rintro rfl c
    rw [get_map, get_channels]
  · exact fun h => perChannel_ext fun c => by rw [get_map, get_channels, h]

theorem code_eq_iff {code : Code} {e : Int} : code = toCode e ↔ (code.toNat : Int) = max 0 (min 1023 e) := by
  rw [← toCode_toNat, Int.ofNat_inj, BitVec.toNat_inj]

theorem line_eq_iff {codes : List Code} {width : Nat} {f : Nat → Code} : codes = (List.range width).map f ↔
    codes.length = width ∧ ∀ j code, codes[j]? = some code → code = f j := by
  constructor
  · rintro rfl
    refine ⟨by simp, fun j code h => ?_⟩
    obtain ⟨hj, hcode⟩ := List.getElem?_eq_some_iff.1 h
    simpa using hcode.symm
  · rintro ⟨hlength, hcodes⟩
    refine List.ext_getElem (by simp [hlength]) fun j hj hj' => ?_
    rw [hcodes j _ (List.getElem?_eq_getElem hj)]
    simp

/-- A line of equal codes, by their numbers. -/
theorem replicate_iff {codes : List Code} {width : Nat} {code : Code} :
    codes.map BitVec.toNat = List.replicate width code.toNat ↔ codes = List.replicate width code := by
  rw [← List.map_replicate]
  exact (List.map_injective_iff.2 fun a b h => BitVec.eq_of_toNat_eq h).eq_iff

/-- R64: the column blend of the model is the manual's. -/
theorem columnBlend_eq (row : Row) (c : Fin 3) (dim x : Nat) : row.columnBlend c dim x = columnValue row c dim x := by
  have hsample (k : Nat) : row.component c k = ((row.pixels[k]?).map fun p =>
      match c with
      | 0 => p.c0.toNat
      | 1 => p.c1.toNat
      | 2 => p.c2.toNat).getD 0 := by
    unfold Row.component
    cases row.pixels[k]? with
    | none => rfl
    | some p => fin_cases c <;> rfl
  unfold Row.columnBlend columnValue blend
  rw [hsample, hsample] <;> rfl

/-- R62 to R65, R69, R70: the code of a column. -/
theorem imageCode_iff {p : PrintJob} {lo hi : Row} {y gain j : Nat} {offset : Int} {c : Fin 3} {code : Code} :
    code = imageCode p lo hi y c gain offset j ↔
      (p.mode = .fit → ¬ Inside p.geometry.wsN (p.geometry.x j) → code = 0)
        ∧ (p.mode = .fill ∨ Inside p.geometry.wsN (p.geometry.x j) → (code.toNat : Int) = max 0 (min 1023
          (linearCode (pixelValue lo hi c p.geometry.wsN (heldPosition p.geometry.wsN (p.geometry.x j)) y) gain + offset))) := by
  rw [← code_eq_iff, imageCode, ← insideDim_iff, Bool.not_eq_true]
  by_cases hblank : p.mode = .fit ∧ insideDim p.geometry.wsN (p.geometry.x j) = false
  · obtain ⟨hfit, hout⟩ := hblank
    rw [if_pos ⟨hfit, hout⟩]
    simp [hfit, hout]
  · rw [if_neg hblank]
    have himage : p.mode = .fill ∨ insideDim p.geometry.wsN (p.geometry.x j) = true := by
      cases hmode : p.mode
      · exact .inl rfl
      · exact .inr (by simpa [hmode] using hblank)
    exact ⟨fun h => ⟨fun hfit hout => absurd ⟨hfit, hout⟩ hblank, fun _ => h⟩, fun h => h.2 himage⟩

/-- R62 to R65, R69, R70: the codes of an image line on a channel. -/
theorem imageLine_iff {p : PrintJob} {lo hi : Row} {y : Int} {gain : Nat} {offset : Int} {c : Fin 3} {codes : List Code} :
    codes = (List.range p.wp).map (imageCode p lo hi (heldPosition p.geometry.hsN y) c gain offset) ↔
      codes.length = p.wp ∧ ∀ (j : Nat) (x : Int) (f v : Nat) (code : Code), codes[j]? = some code →
        x = p.geometry.ox + j * p.geometry.step → f = held p.geometry.hsN y % 65536 / 256 →
        v = (columnValue lo c p.geometry.wsN (held p.geometry.wsN x) * (256 - f)
          + columnValue hi c p.geometry.wsN (held p.geometry.wsN x) * f + 128) / 256 →
        (p.mode = .fit → ¬ Inside p.geometry.wsN x → code = 0)
          ∧ (p.mode = .fill ∨ Inside p.geometry.wsN x →
            (code.toNat : Int) = max 0 (min 1023 ((((255 - v) * gain + 64) / 128 : Nat) + offset))) := by
  have hvalue (x : Int) : pixelValue lo hi c p.geometry.wsN (heldPosition p.geometry.wsN x) (heldPosition p.geometry.hsN y) =
      (columnValue lo c p.geometry.wsN (held p.geometry.wsN x) * (256 - held p.geometry.hsN y % 65536 / 256)
        + columnValue hi c p.geometry.wsN (held p.geometry.wsN x) * (held p.geometry.hsN y % 65536 / 256) + 128) / 256 := by
    rw [pixelValue, columnBlend_eq, columnBlend_eq] <;> rfl
  rw [line_eq_iff]
  refine and_congr_right fun _ => forall_congr' fun j => ?_
  constructor
  · rintro h x f v code hcode rfl rfl rfl
    rw [← hvalue]
    exact imageCode_iff.1 (h code hcode)
  · intro h code hcode
    have hcolumn := h _ _ _ code hcode rfl rfl rfl
    rw [← hvalue] at hcolumn
    exact imageCode_iff.2 hcolumn

/-- R66: the row a slot holds, by its index. -/
theorem row?_eq_some {s : State} {k : Nat} {row : Row} : s.resampler.row? k = some row ↔ RowHeld s k row := by
  unfold Resampler.row? RowHeld holds
  rcases s.resampler.rowA with _ | a <;> rcases s.resampler.rowB with _ | b
  · simp
  · by_cases hb : b.index = k <;> simp [hb] <;> grind
  · by_cases ha : a.index = k <;> simp [ha] <;> grind
  · by_cases ha : a.index = k <;> by_cases hb : b.index = k <;> simp [ha, hb] <;> grind

/-- R67: the codes of the next line are those of the manual. -/
theorem nextCodes_eq_some {s : State} {w : Work} {codes : Codes} : s.nextCodes w = some codes ↔ LineCodes s w codes := by
  unfold State.nextCodes LineCodes
  dsimp only
  cases hjob : w.job with
  | patch width =>
    dsimp only
    rw [Option.some_inj, perChannel_map_eq_iff]
    refine forall_congr' fun c => ?_
    have hcode := toCode_toNat ((s.density.targets.get c : Int) + s.density.offsets.get c)
    rw [← replicate_iff, patchCode, show (toCode ((s.density.targets.get c : Int) + s.density.offsets.get c)).toNat =
      (max 0 (min 1023 ((s.density.targets.get c : Int) + s.density.offsets.get c))).toNat by omega]
  | print p =>
    dsimp only
    rw [← borderRow_iff]
    by_cases hborder : p.borderRow w.nextLine = true
    · rw [if_pos hborder, Option.some_inj, perChannel_map_eq_iff]
      simp only [hborder, true_implies, not_true_eq_false, false_implies, and_true]
      exact forall_congr' fun c => (replicate_iff (code := 0)).symm
    · rw [if_neg hborder]
      refine Iff.trans ?_ ⟨fun h => ⟨fun hb => absurd hb hborder, fun _ => h⟩, fun h => h.2 hborder⟩
      constructor
      · intro h
        split at h
        · next lo hi hlo hhi =>
          refine ⟨lo, hi, row?_eq_some.1 hlo, row?_eq_some.1 hhi, fun c => ?_⟩
          exact imageLine_iff.1 (perChannel_map_eq_iff.1 (Option.some.inj h) c)
        · cases h
      · rintro ⟨lo, hi, hlo, hhi, hline⟩
        rw [rowsOf_eq, row?_eq_some.2 hlo, row?_eq_some.2 hhi]
        exact congrArg some (perChannel_map_eq_iff.2 fun c => imageLine_iff.2 (hline c))

/-! ## The line produced (R56, R67, R85) -/

/-- R85: the queue once Channel Output has acted on a line. -/
theorem queue_accept (c : ChannelOutput) (w : Work) (codes : Codes) : (c.accept w codes).queue =
    (match w.owner, c.exposure with
      | .selection, _ => c.queue ++ [{ owner := .selection, number := w.nextLine, kind := w.job.kind, codes := codes }]
      | .exposed, some e =>
        if w.nextLine < e.linesExposed then c.queue
        else c.queue ++ [{ owner := .exposed, number := w.nextLine, kind := w.job.kind, codes := codes }]
      | .exposed, none => c.queue
      | .trailing _, _ => c.queue) := by
  unfold ChannelOutput.accept
  cases w.owner with
  | selection => rfl
  | exposed =>
    cases c.exposure with
    | none => rfl
    | some e =>
      dsimp only
      split
      · rw [if_neg (by omega)]
      · rw [if_pos (by omega)]
  | trailing start => rfl

theorem onlyChanges_accept (s : State) (w : Work) (codes : Codes) :
    OnlyChanges [.lineQueue] s { s with channel := s.channel.accept w codes } := by
  have hchannel : ∃ queue, s.channel.accept w codes = { s.channel with queue := queue } := by
    unfold ChannelOutput.accept
    split
    · exact ⟨_, rfl⟩
    · split
      · split
        · exact ⟨_, rfl⟩
        · exact ⟨_, rfl⟩
      · exact ⟨_, rfl⟩
    · exact ⟨_, rfl⟩
  obtain ⟨queue, hchannel⟩ := hchannel
  rw [hchannel]
  intro p hp
  cases p <;> simp_all [Same, State.port]

section
variable {s : State} {w : Work}

/-- R67: after a line that is not the last the rows of the next image line are seen to. -/
theorem advanceWork_goesOn (hmore : w.nextLine + 1 < w.job.lineCount) :
    (s.advanceWork w).resampler.work = some { w with nextLine := w.nextLine + 1 }
      ∧ RowsSeenTo { w with nextLine := w.nextLine + 1 } s (s.advanceWork w) := by
  rw [State.advanceWork, if_neg (by omega)]
  exact ⟨planRows_resampler_work _, rowsSeenTo_planRows rfl⟩

/-- R56: the last line ends the work. -/
theorem advanceWork_ends (hlast : w.job.lineCount ≤ w.nextLine + 1) : s.advanceWork w =
    { s with resampler := s.resampler.idle, scheduler := { s.scheduler with attemptCause := true } } := if_pos hlast

end

/-- Settles O39. -/
theorem lineProductionQueuesOrDiscards : Obligations.LineProductionQueuesOrDiscards := by
  refine ⟨fun s w codes hw hcodes hroom => ?_, fun s hnone => ?_⟩
  · obtain ⟨c, hc⟩ : ∃ c, c = s.channel.accept w codes := ⟨_, rfl⟩
    have hexec : exec .lineProduced s = .next (s.noteCauses (State.advanceWork { s with channel := c } w)) := by
      show Host.Outcome.next (match s.producible with
        | some (w, codes) => s.noteCauses (State.advanceWork { s with channel := s.channel.accept w codes } w)
        | none => s) = _
      rw [State.producible, hw, hc]
      dsimp only
      rw [if_pos hroom, nextCodes_eq_some.2 hcodes] <;> rfl
    have haccept := onlyChanges_accept s w codes
    rw [← hc] at haccept
    have hadvance := onlyChanges_advanceWork { s with channel := c } w
    have hqueue := queue_accept s.channel w codes
    rw [← hc] at hqueue
    refine ⟨_, hexec, ?_, fun hmore => ?_, fun hlast => ?_, ?_⟩
    · exact (hadvance .lineQueue (by decide)).trans hqueue
    · exact advanceWork_goesOn (s := { s with channel := c }) hmore
    · rw [advanceWork_ends hlast]
      exact ⟨rfl, rfl, rfl, ⟨rfl, rfl⟩, rfl, rfl⟩
    · exact onlyChanges_noted (onlyChanges_mono (onlyChanges_trans haccept hadvance) (by decide)) (.inl (by decide))
  · have hpaused : s.producible = none := by
      unfold State.producible
      rcases hnone with hidle | hfull | ⟨w, hw, hcodes⟩
      · rw [hidle]
      · split
        · rw [if_neg (by omega)]
        · rfl
      · rw [hw]
        dsimp only
        split
        · rw [Option.map_eq_none_iff, Option.eq_none_iff_forall_ne_some]
          exact fun codes h => hcodes codes (nextCodes_eq_some.1 h)
        · rfl
    show Host.Outcome.next (match s.producible with
      | some (w, codes) => s.noteCauses (State.advanceWork { s with channel := s.channel.accept w codes } w)
      | none => s) = _
    rw [hpaused]

end Sys2Proof.Lines

/-! Row fetches and the rows placed: O40. -/

namespace Sys2Proof.RowFetches

open Sys2Proof.Machine Sys2Proof.Laws Sys2Proof.OrdersAndItems
open Sys2Proof.Frames Sys2Proof.Resets Sys2Proof.Steps Sys2Proof.WebMap Sys2Proof.Controls Sys2Proof.Lines Sys2Proof.RasterFaults

/-! ## The reading of a reply frame's bytes (R205) -/

theorem pixelsOf_bytes (pixels : List Pixel) : pixelsOf (pixels.flatMap fun p => [p.c0, p.c1, p.c2]) = some pixels := by
  induction pixels with
  | nil => rfl
  | cons p rest ih =>
    show (pixelsOf (rest.flatMap fun p => [p.c0, p.c1, p.c2])).map (fun ps => p :: ps) = _
    rw [ih]
    rfl

theorem decode_rowData (tag : Byte) {pixels : List Pixel} (hlow : 1 ≤ pixels.length) (hhigh : pixels.length ≤ 16384) :
    decodeReplyFrame ([0x81#8, tag] ++ n16 pixels.length ++ pixels.flatMap fun p => [p.c0, p.c1, p.c2]) =
      some (.rowData tag pixels) := by
  have hcount : (word16 ((BitVec.ofNat 16 pixels.length).extractLsb' 8 8) ((BitVec.ofNat 16 pixels.length).extractLsb' 0 8)).toNat
      = pixels.length := by
    rw [word16_be16, BitVec.toNat_ofNat]
    omega
  have hreadable : unreadableHeader 0x81#8 (word16 ((BitVec.ofNat 16 pixels.length).extractLsb' 8 8)
      ((BitVec.ofNat 16 pixels.length).extractLsb' 0 8)) = false := by
    refine Bool.eq_false_iff.2 fun hunread => ?_
    have hbad := (unreadableHeader_iff _ _).1 hunread
    unfold CannotBeRead at hbad
    rw [hcount] at hbad
    rcases hbad with ⟨hcode, -⟩ | ⟨-, hzero | hlong⟩
    · exact hcode rfl
    · omega
    · omega
  show decodeReplyFrame (0x81#8 :: tag :: (BitVec.ofNat 16 pixels.length).extractLsb' 8 8 ::
    (BitVec.ofNat 16 pixels.length).extractLsb' 0 8 :: pixels.flatMap fun p => [p.c0, p.c1, p.c2]) = _
  rw [decodeReplyFrame, hreadable, pixelsOf_bytes]
  simp [hcount]

theorem decode_rowFault (tag : Byte) (reason : Word16) :
    decodeReplyFrame ([0x82#8, tag] ++ be16 reason) = some (.rowFault tag reason) := by
  show decodeReplyFrame [0x82#8, tag, reason.extractLsb' 8 8, reason.extractLsb' 0 8] = _
  rw [decodeReplyFrame, word16_be16]
  rfl

theorem decode_unreadable (tag : Byte) {code : Byte} {count : Word16} (h : CannotBeRead code count) :
    decodeReplyFrame ([code, tag] ++ be16 count) = some (.rasterFrameUnreadable code count) := by
  show decodeReplyFrame [code, tag, count.extractLsb' 8 8, count.extractLsb' 0 8] = _
  rw [decodeReplyFrame, word16_be16, (unreadableHeader_iff code count).2 h]
  rfl

/-! ## Fetches sent (R76, R205) -/

theorem noteCauses_same {s t : State} (hscheduler : t.scheduler = s.scheduler) (hstart : t.startConditions = s.startConditions)
    (hdue : t.patchDue = s.patchDue) : s.noteCauses t = t := by
  unfold State.noteCauses
  rw [hscheduler, hstart, hdue]
  simp [← hscheduler]

/-- The state once the raster link's record has become another. -/
theorem noteCauses_fetch_same (s : State) (fetch : RasterFetch) :
    s.noteCauses { s with fetch := fetch } = { s with fetch := fetch } := noteCauses_same rfl rfl rfl

theorem exec_rowFetch_sending {s : State} {frame : List Byte} (h : s.fetch.link.phase = .sending frame) :
    exec .rowFetch s = .next { s with fetch := s.fetch.sent s.timeBase frame } := by
  rw [← noteCauses_fetch_same]
  show Host.Outcome.next _ = _
  rw [h]

theorem exec_rowFetch_idle {s : State} (h : s.fetch.link.phase = .idle) :
    exec .rowFetch s = .next { s with fetch := s.fetch.sendWaiting s.timeBase } := by
  rw [← noteCauses_fetch_same]
  show Host.Outcome.next _ = _
  rw [h]

theorem exec_rowFetch_receiving {s : State} (h : s.fetch.link.phase = .receiving) : exec .rowFetch s = .next s := by
  show Host.Outcome.next _ = _
  rw [h]

theorem sendWaiting_of_none {r : RasterFetch} (now : Word32) (h : r.waiting? = none) : r.sendWaiting now = r := by
  rw [RasterFetch.sendWaiting, h]

theorem phase_sendWaiting {r : RasterFetch} {now : Word32} (h : r.link.phase = .idle) :
    (r.sendWaiting now).link.phase = .idle := by
  unfold RasterFetch.sendWaiting
  split
  · rfl
  · exact h

/-- R76: a waiting fetch once sent waits no longer. -/
theorem waiting?_sendWaiting (r : RasterFetch) (now : Word32) : (r.sendWaiting now).waiting? = none := by
  cases hwaiting : r.waiting? with
  | none => rw [sendWaiting_of_none now hwaiting, hwaiting]
  | some f =>
    rw [RasterFetch.sendWaiting, hwaiting]
    dsimp only
    rw [RasterFetch.sent, hwaiting, RasterFetch.waiting?, Option.map_some, if_pos rfl]

/-- R205: a fetch sent before a reply frame, by its own command or as the frame's last byte is read, leaves the same. -/
theorem served_of_sent {s u : State} (hphase : s.fetch.link.phase ≠ .receiving) (hu : exec .rowFetch s = .next u) :
    u.served = s.served ∧ ∃ fetch, u = { s with fetch := fetch } := by
  cases hlink : s.fetch.link.phase with
  | receiving => exact absurd hlink hphase
  | sending frame =>
    obtain rfl := Host.Outcome.next.inj (hu.symm.trans (exec_rowFetch_sending hlink))
    refine ⟨?_, _, rfl⟩
    unfold State.served RasterFetch.served
    rw [hlink] <;> rfl
  | idle =>
    obtain rfl := Host.Outcome.next.inj (hu.symm.trans (exec_rowFetch_idle hlink))
    refine ⟨?_, _, rfl⟩
    have hidle : (s.fetch.sendWaiting s.timeBase).link.phase = .idle := phase_sendWaiting hlink
    unfold State.served RasterFetch.served
    dsimp only
    rw [hidle, hlink]
    dsimp only
    rw [sendWaiting_of_none _ (waiting?_sendWaiting _ _)]

/-- R205: what a reply frame does is the same after a fetch that goes before it. -/
theorem exec_reply_congr {s u : State} (hserved : u.served = s.served) (hfetch : ∃ fetch, u = { s with fetch := fetch }) :
    (∀ tag pixels, exec (.rowData tag pixels) s = exec (.rowData tag pixels) u)
      ∧ (∀ tag reason, exec (.rowFault tag reason) s = exec (.rowFault tag reason) u)
      ∧ (∀ code count, CannotBeRead code count →
        exec (.rasterFrameUnreadable code count) s = exec (.rasterFrameUnreadable code count) u) := by
  have hnoted (t : State) : u.noteCauses t = s.noteCauses t := by
    obtain ⟨fetch, rfl⟩ := hfetch
    rfl
  refine ⟨fun tag pixels => ?_, fun tag reason => ?_, fun code count hunread => ?_⟩
  · show Host.Outcome.next _ = Host.Outcome.next _
    rw [hnoted, hserved]
  · show Host.Outcome.next _ = Host.Outcome.next _
    rw [hnoted, hserved]
  · show Host.Outcome.next (if _ then _ else _) = Host.Outcome.next (if _ then _ else _)
    rw [if_pos ((unreadableHeader_iff code count).2 hunread), if_pos ((unreadableHeader_iff code count).2 hunread), hnoted,
      hserved]

theorem onlyChanges_sent (s : State) (frame : List Byte) :
    OnlyChanges [.fetch, .frameSent, .rasterLink] s { s with fetch := s.fetch.sent s.timeBase frame } := by
  intro p hp
  cases p <;> simp_all [Same, State.port, RasterFetch.sent]

theorem exec_rowFetch_waiting {s : State} {f : Fetch} (hidle : s.fetch.link.phase = .idle) (hf : s.fetch.inFlight = some f)
    (htimer : s.fetch.timer = none) : ∃ t, exec .rowFetch s = .next t ∧ t.fetch.inFlight = some f
      ∧ t.fetch.timer = some (s.timeBase + 250) ∧ t.fetch.frameSent = some f.frame
      ∧ OnlyChanges [.fetch, .frameSent] s t := by
  have hwaiting : s.fetch.waiting? = some f := by rw [RasterFetch.waiting?, htimer, hf]
  have hsend : s.fetch.sendWaiting s.timeBase = s.fetch.sent s.timeBase f.frame := by rw [RasterFetch.sendWaiting, hwaiting]
  have hexec := exec_rowFetch_idle hidle
  rw [hsend] at hexec
  refine ⟨_, hexec, hf, ?_, rfl, fun p hp => ?_⟩
  · show (if s.fetch.waiting?.map Fetch.frame = some f.frame then some (later s.timeBase 250) else s.fetch.timer) = _
    rw [hwaiting]
    exact if_pos rfl
  · by_cases hlink : p = .rasterLink
    · subst hlink
      show { s.fetch.link with phase := .idle } = s.fetch.link
      rw [← hidle]
    · exact onlyChanges_sent s f.frame p (by simp_all)

theorem exec_rowFetch_sends {s : State} {frame : List Byte} (hsending : s.fetch.link.phase = .sending frame) :
    ∃ t, exec .rowFetch s = .next t ∧ t.fetch.frameSent = some frame
      ∧ t.fetch.link = { s.fetch.link with phase := .idle } ∧ t.fetch.inFlight = s.fetch.inFlight
      ∧ (∀ f, s.fetch.inFlight = some f → s.fetch.timer = none → frame = f.frame → t.fetch.timer = some (s.timeBase + 250))
      ∧ (s.fetch.inFlight = none ∨ s.fetch.timer.isSome = true ∨ (∀ f, s.fetch.inFlight = some f → frame ≠ f.frame) →
        Same s t .fetch)
      ∧ OnlyChanges [.fetch, .frameSent, .rasterLink] s t := by
  refine ⟨_, exec_rowFetch_sending hsending, rfl, rfl, rfl, fun f hf htimer hframe => ?_, fun hother => ⟨rfl, ?_⟩,
    onlyChanges_sent s frame⟩
  · have hwaiting : s.fetch.waiting? = some f := by rw [RasterFetch.waiting?, htimer, hf]
    show (if s.fetch.waiting?.map Fetch.frame = some frame then some (later s.timeBase 250) else s.fetch.timer) = _
    rw [hwaiting, hframe]
    exact if_pos rfl
  · refine if_neg fun hmatch => ?_
    obtain ⟨f, hwaiting, hframe⟩ := Option.map_eq_some_iff.1 hmatch
    unfold RasterFetch.waiting? at hwaiting
    split at hwaiting
    · next htimer =>
      rcases hother with hnone | hrunning | hdifferent
      · simp [hnone] at hwaiting
      · simp [htimer] at hrunning
      · exact hdifferent f hwaiting hframe.symm
    · cases hwaiting

theorem exec_rowFetch_nothing {s : State} (h : NothingToSend s) : exec .rowFetch s = .next s := by
  rcases h with hreceiving | ⟨hidle, hnone⟩
  · exact exec_rowFetch_receiving hreceiving
  · rw [exec_rowFetch_idle hidle, sendWaiting_of_none _ ((waiting?_eq_none_iff s.fetch).2 hnone)]

/-! ## Reply frames taken (R77, R205) -/

/-- The rows of a Resampler with a further row put in an empty slot (log entry 24). -/
def rowPlaced (r : Resampler) (row : Row) : Resampler :=
  match r.rowA with
  | none => { r with rowA := some row }
  | some _ => { r with rowB := some row }

theorem placeRow_eq (s : State) (row : Row) : s.placeRow row =
    State.planRows { s with fetch := s.fetch.abandon, resampler := rowPlaced s.resampler row } := rfl

theorem work_rowPlaced (r : Resampler) (row : Row) : (rowPlaced r row).work = r.work := by
  unfold rowPlaced
  split <;> rfl

theorem exec_rowData_taken {s : State} {f : Fetch} {pixels : List Pixel} (hnothing : NothingToSend s)
    (hf : s.fetch.inFlight = some f) (hlength : pixels.length = f.expected) (hlow : 1 ≤ f.expected)
    (hhigh : f.expected ≤ 16384) : exec (.rowData f.tag pixels) s =
      .next (s.noteCauses (s.served.placeRow { index := f.row, pixels := pixels })) := by
  have hflight : s.served.fetch.inFlight = some f := (served_inFlight s).trans hf
  show Host.Outcome.next (s.noteCauses (if _ then _ else s.served.takeRowData f.tag pixels)) = _
  rw [if_neg (by omega), State.takeRowData, hflight]
  dsimp only
  rw [if_neg (by simp), if_pos hlength]

theorem pair_eq (i j k : Nat) : (k == min i j || k == max i j) = (k == i || k == j) := by
  rcases Nat.le_total i j with h | h
  · rw [Nat.min_eq_left h, Nat.max_eq_right h]
  · rw [Nat.min_eq_right h, Nat.max_eq_left h, Bool.or_comm]

/-- R66: a held row that is needed stays. -/
theorem rowHeld_of_filter {s t : State} {needed : Row → Bool} {index : Nat} {row : Row}
    (hA : t.resampler.rowA = s.resampler.rowA.filter needed) (hB : t.resampler.rowB = s.resampler.rowB.filter needed)
    (hheld : RowHeld s index row) (hneeded : needed row = true) : RowHeld t index row := by
  obtain ⟨hindex, hrow | ⟨hrow, hfirst⟩⟩ := hheld
  · exact ⟨hindex, .inl (by rw [hA, hrow, Option.filter_some_pos hneeded])⟩
  · refine ⟨hindex, .inr ⟨by rw [hB, hrow, Option.filter_some_pos hneeded], fun a ha => ?_⟩⟩
    rw [hA, Option.filter_eq_some_iff] at ha
    exact hfirst a ha.1

/-- R66, R77: the rows and the next request once a row of the pair is placed. -/
theorem placeRow_places {s : State} {w : Work} {p : PrintJob} {row : Row} {other : Nat} (hw : s.resampler.work = some w)
    (hjob : w.job = .print p) (hneeds : NeedsRows w (min row.index other) (max row.index other))
    (hempty : s.resampler.rowA = none ∨ (s.resampler.rowB = none ∧ (∃ a, s.resampler.rowA = some a ∧ a.index = other)
      ∧ row.index ≠ other)) :
    RowHeld (s.placeRow row) row.index row
      ∧ (∀ k, RowHeld s other k → row.index ≠ other → RowHeld (s.placeRow row) other k)
      ∧ (row.index = other → ∃ a b, (s.placeRow row).resampler.rowA = some a ∧ (s.placeRow row).resampler.rowB = some b
        ∧ a.index = row.index ∧ b.index = row.index)
      ∧ ((∃ k, RowHeld s other k) ∨ row.index = other →
        (s.placeRow row).fetch.inFlight = none ∧ (s.placeRow row).fetch.timer = none
          ∧ (s.placeRow row).fetch.nextTag = s.fetch.nextTag)
      ∧ ((∀ k, ¬ RowHeld s other k) → row.index ≠ other →
        (s.placeRow row).fetch.inFlight = some { tag := s.fetch.nextTag, handle := p.handle, level := p.geometry.level
                                                 row := other, expected := p.geometry.wsN }
          ∧ (s.placeRow row).fetch.timer = none ∧ (s.placeRow row).fetch.nextTag = s.fetch.nextTag + 1) := by
  obtain ⟨u, hu⟩ : ∃ u : State, u = { s with fetch := s.fetch.abandon, resampler := rowPlaced s.resampler row } := ⟨_, rfl⟩
  have hwork : u.resampler.work = some w := by rw [hu]; exact (work_rowPlaced s.resampler row).trans hw
  have hidle : u.fetch.inFlight = none ∧ u.fetch.timer = none ∧ u.fetch.nextTag = s.fetch.nextTag := by
    rw [hu]
    exact ⟨rfl, rfl, rfl⟩
  have hslots : u.resampler.rowA = some row ∧ u.resampler.rowB = s.resampler.rowB ∧ s.resampler.rowA = none
      ∨ row.index ≠ other ∧ u.resampler.rowB = some row ∧ u.resampler.rowA = s.resampler.rowA
        ∧ s.resampler.rowB = none ∧ ∃ a, s.resampler.rowA = some a ∧ a.index = other := by
    rw [hu]
    unfold rowPlaced
    rcases hempty with h | ⟨hB, ⟨a, hA, ha⟩, hne⟩
    · rw [h]
      exact .inl ⟨rfl, rfl, rfl⟩
    · rw [hA]
      exact .inr ⟨hne, rfl, rfl, hB, a, rfl, ha⟩
  rw [placeRow_eq, ← hu]
  clear hu
  obtain ⟨-, hseen⟩ := rowsSeenTo_planRows hwork
  obtain ⟨hA, hB, hkept, hrequested⟩ := hseen p _ _ _ _ hjob hneeds rfl rfl
  simp only [pair_eq] at hA hB
  have hplaced : RowHeld u row.index row := by
    rcases hslots with ⟨huA, -, -⟩ | ⟨hne, huB, huA, -, a, hsA, ha⟩
    · exact ⟨rfl, .inl huA⟩
    · refine ⟨rfl, .inr ⟨huB, fun x hx => ?_⟩⟩
      obtain rfl : a = x := Option.some.inj (hsA.symm.trans (huA.symm.trans hx))
      omega
  have hother (hne : row.index ≠ other) (k : Row) : RowHeld u other k ↔ RowHeld s other k := by
    unfold RowHeld
    rcases hslots with ⟨huA, huB, hsA⟩ | ⟨-, huB, huA, hsB, a, hsA, ha⟩
    · rw [huA, huB, hsA]
      grind
    · rw [huA, huB, hsA, hsB]
      grind
  obtain ⟨t, ht⟩ : ∃ t, t = u.planRows := ⟨_, rfl⟩
  rw [← ht] at hA hB hkept hrequested ⊢
  by_cases heq : row.index = other
  · subst heq
    obtain ⟨huA, -, -⟩ | ⟨hne, -⟩ := hslots
    · rw [if_pos (by simp), huA, Option.filter_some_pos (by simp)] at hA hB
      have hsame := hkept (.inr ⟨⟨row, by simpa using hplaced⟩, ⟨row, by simpa using hplaced⟩⟩)
      obtain ⟨⟨hflight, htimer⟩, htag⟩ := hsame
      obtain ⟨hnone, hstopped, hnext⟩ := hidle
      refine ⟨⟨rfl, .inl hA⟩, fun k _ hne => absurd rfl hne, fun _ => ?_, fun _ =>
        ⟨hflight.trans hnone, htimer.trans hstopped, htag.trans hnext⟩, fun _ hne => absurd rfl hne⟩
      cases hlow : u.resampler.rowB.filter fun r => r.index == row.index || r.index == row.index with
      | none => exact ⟨row, row, hA, by rw [hB, hlow] <;> rfl, rfl, rfl⟩
      | some b =>
        have hb := (Option.filter_eq_some_iff.1 hlow).2
        exact ⟨row, b, hA, by rw [hB, hlow] <;> rfl, rfl, by simpa using hb⟩
    · exact absurd rfl hne
  · have hspread : min row.index other ≠ max row.index other := by omega
    rw [if_neg hspread] at hA hB
    refine ⟨rowHeld_of_filter hA hB hplaced (by simp), fun k hk _ => ?_, fun h => absurd h heq, fun h => ?_, fun hnot _ => ?_⟩
    · obtain ⟨hindex, -⟩ := id hk
      exact rowHeld_of_filter hA hB ((hother heq k).2 hk) (by simp [hindex])
    · obtain ⟨k, hk⟩ := h.resolve_right heq
      have hk' := (hother heq k).2 hk
      have hboth : (∃ r, RowHeld u (min row.index other) r) ∧ ∃ r, RowHeld u (max row.index other) r := by
        rcases Nat.le_total row.index other with hle | hle
        · rw [Nat.min_eq_left hle, Nat.max_eq_right hle]
          exact ⟨⟨row, hplaced⟩, k, hk'⟩
        · rw [Nat.min_eq_right hle, Nat.max_eq_left hle]
          exact ⟨⟨k, hk'⟩, row, hplaced⟩
      obtain ⟨⟨hflight, htimer⟩, htag⟩ := hkept (.inr hboth)
      obtain ⟨hnone, hstopped, hnext⟩ := hidle
      exact ⟨hflight.trans hnone, htimer.trans hstopped, htag.trans hnext⟩
    · obtain ⟨hnone, -, hnext⟩ := hidle
      have hmissing : other = min row.index other ∨ (other = max row.index other ∧ ∃ r, RowHeld u (min row.index other) r) := by
        rcases Nat.le_total row.index other with hle | hle
        · rw [Nat.min_eq_left hle, Nat.max_eq_right hle]
          exact .inr ⟨rfl, row, hplaced⟩
        · exact .inl (Nat.min_eq_right hle).symm
      obtain ⟨hflight, htimer, htag⟩ :=
        hrequested other hnone (fun r hr => hnot r ((hother heq r).1 hr)) hmissing
      rw [hnext] at hflight htag
      exact ⟨hflight, htimer, htag⟩

theorem exec_reply_discarded {s : State} {tag : Byte} (hnothing : NothingToSend s)
    (hother : ∀ f, s.fetch.inFlight = some f → f.tag ≠ tag) :
    (∀ pixels, ∃ t, exec (.rowData tag pixels) s = .next t ∧ LinkReleased t ∧ OnlyChanges [.rasterLink] s t)
      ∧ ∀ reason, ∃ t, exec (.rowFault tag reason) s = .next t ∧ LinkReleased t ∧ OnlyChanges [.rasterLink] s t := by
  have hserved := Laws.served_of_nothingToSend hnothing
  have hparts : OnlyChanges [.rasterLink] s s.served := by
    rw [hserved]
    intro p hp
    cases p <;> simp_all [Same, State.port]
  have hkept : OnlyChanges [.rasterLink] s (s.noteCauses s.served) := onlyChanges_noted hparts (.inr ⟨rfl, rfl, rfl⟩)
  have hdata (pixels : List Pixel) : s.served.takeRowData tag pixels = s.served := by
    unfold State.takeRowData
    rw [served_inFlight]
    split
    · next f hf => exact if_pos (hother f hf)
    · rfl
  have hfault (reason : Word16) : s.served.takeRowFault tag reason = s.served := by
    unfold State.takeRowFault
    rw [served_inFlight]
    split
    · next f hf => exact if_neg (hother f hf)
    · rfl
  refine ⟨fun pixels => ⟨s.noteCauses s.served, ?_, rfl, hkept⟩, fun reason => ⟨s.noteCauses s.served, ?_, rfl, hkept⟩⟩
  · show Host.Outcome.next (s.noteCauses (if _ then _ else s.served.takeRowData tag pixels)) = _
    rw [hdata, ite_self]
  · show Host.Outcome.next (s.noteCauses (s.served.takeRowFault tag reason)) = _
    rw [hfault]

/-- Settles O40. -/
theorem rowsAreFetchedAndPlaced : Obligations.RowsAreFetchedAndPlaced := by
  refine ⟨fun s => ⟨fun f hidle hf htimer => exec_rowFetch_waiting hidle hf htimer, fun frame hsending =>
      exec_rowFetch_sends hsending, exec_rowFetch_nothing, fun u hphase hu => ?_⟩, fun tag pixels hlow hhigh =>
      decode_rowData tag hlow hhigh, fun tag reason => decode_rowFault tag reason, fun tag code count h =>
      decode_unreadable tag h, fun s f pixels p w other hnothing hf hlength hlow hhigh hw hjob hneeds hempty => ?_,
    fun s tag hnothing hother => exec_reply_discarded hnothing hother⟩
  · obtain ⟨hserved, hfetch⟩ := served_of_sent hphase hu
    exact exec_reply_congr hserved hfetch
  · have hserved := Laws.served_of_nothingToSend hnothing
    have hexec := exec_rowData_taken hnothing hf hlength hlow hhigh
    have hrelease : OnlyChanges [.rasterLink] s s.served := by
      rw [hserved]
      intro p hp
      cases p <;> simp_all [Same, State.port]
    have hplace := onlyChanges_placeRow s.served { index := f.row, pixels := pixels }
    have hlink : (s.served.placeRow { index := f.row, pixels := pixels }).fetch.link = { phase := .idle, ready := false } :=
      hplace .rasterLink (by decide)
    obtain ⟨hheld, hkept, htwice, hended, hnext⟩ := placeRow_places (s := s.served) (row := { index := f.row, pixels := pixels })
      (p := p) hw hjob hneeds hempty
    have htag : s.served.fetch.nextTag = s.fetch.nextTag := hrelease .nextTag (by decide)
    rw [htag] at hended hnext
    exact ⟨_, hexec, hheld, hkept, htwice, hended, hnext, hlink, onlyChanges_noted
      (onlyChanges_mono (onlyChanges_trans hrelease hplace) (by decide)) (.inl (by decide))⟩

end Sys2Proof.RowFetches

/-! Selection attempts: O37, and what an attempt without a fitting print does. -/

namespace Sys2Proof.Attempts

open Sys2Proof.Machine Sys2Proof.Laws Sys2Proof.OrdersAndItems Sys2Proof.Magazines Sys2Proof.Sorting Sys2Proof.Till
open Sys2Proof.Steps Sys2Proof.WebMap Sys2Proof.Controls Sys2Proof.Image Sys2Proof.Exposing

/-! ## What the scan looks at (R37 to R39) -/

/-- Two states that the scan of the classes finds alike. -/
def ScanSame (s t : State) : Prop :=
  (∀ c, t.scheduler.classList c = s.scheduler.classList c) ∧ (∀ m, t.scheduler.magazine m = s.scheduler.magazine m)
    ∧ t.scheduler.endReserve = s.scheduler.endReserve
    ∧ ∀ k, t.orderTable.nextPrint? k = s.orderTable.nextPrint? k

theorem firstPrintable_congr {T U : OrderTable} (h : U.items = T.items) (n : Nat) (refs : List Nat) :
    firstPrintable U n refs = firstPrintable T n refs := by
  induction refs generalizing n with
  | nil => rfl
  | cons r rest ih => rw [firstPrintable, firstPrintable, h, ih]

theorem refsOf_markPaper (s : State) (slot : Nat) (need : Option PaperNeed) (k : Nat) :
    (s.markPaper slot need).orderTable.refsOf k = s.orderTable.refsOf k := by
  have horder : (s.markPaper slot need).order? k = _ := order?_modifyOrder s slot k fun o => { o with paperWait := need }
  cases ho : s.order? k with
  | none =>
    have hnone : (s.markPaper slot need).order? k = none := by
      rw [horder]
      split
      · next h => rw [← h, ho] <;> rfl
      · exact ho
    unfold OrderTable.refsOf
    rw [show Table.get? (s.markPaper slot need).orderTable.orders k = none from hnone,
      show Table.get? s.orderTable.orders k = none from ho]
  | some o =>
    obtain ⟨q, hq, hitems⟩ : ∃ q, (s.markPaper slot need).order? k = some q ∧ q.items = o.items := by
      rw [horder]
      split
      · next h =>
        rw [← h, ho]
        exact ⟨_, rfl, rfl⟩
      · exact ⟨o, ho, rfl⟩
    rw [refsOf_of_order ho, refsOf_of_order hq, hitems]

theorem scanSame_markPaper (s : State) (slot : Nat) (need : Option PaperNeed) : ScanSame s (s.markPaper slot need) := by
  refine ⟨fun c => rfl, fun m => rfl, rfl, fun k => ?_⟩
  unfold OrderTable.nextPrint?
  rw [refsOf_markPaper, firstPrintable_congr (T := s.orderTable) (U := (s.markPaper slot need).orderTable) rfl] <;> rfl

section
variable {s t u : State} {active : Magazine} {c : OrderClass} {slot n : Nat} {i : Item} {e : SizeEntry}

theorem ScanSame.trans (h : ScanSame s t) (k : ScanSame t u) : ScanSame s u := by
  obtain ⟨hlist, hmagazine, hreserve, hnext⟩ := h
  obtain ⟨klist, kmagazine, kreserve, knext⟩ := k
  exact ⟨fun c => (klist c).trans (hlist c), fun m => (kmagazine m).trans (hmagazine m), kreserve.trans hreserve,
    fun x => (knext x).trans (hnext x)⟩

theorem hasNextPrint_congr (h : ScanSame s t) : HasNextPrint t slot n i e ↔ HasNextPrint s slot n i e := by
  obtain ⟨-, -, -, hnext⟩ := h
  rw [← nextPrint?_eq_some, ← nextPrint?_eq_some, hnext]

theorem leads_congr (h : ScanSame s t) : Leads t c slot n i e ↔ Leads s c slot n i e := by
  unfold Leads
  simp only [hasNextPrint_congr h, h.1]

theorem noneFits_congr (h : ScanSame s t) (slots : List Nat) : NoneFits t active slots ↔ NoneFits s active slots := by
  obtain ⟨hlist, hmagazine, hreserve, hnext⟩ := id h
  unfold NoneFits
  simp only [hasNextPrint_congr h, hmagazine, hreserve]

theorem passedOver_congr (h : ScanSame s t) : PassedOver t active c ↔ PassedOver s active c := by
  obtain ⟨hlist, hmagazine, hreserve, hnext⟩ := id h
  unfold PassedOver
  simp only [noneFits_congr h, leads_congr h, hlist, hmagazine, hreserve]

/-! ## The fitting and the leading order of a class -/

theorem firstFitting_of_noneFits {m : Magazine} {passed : List Nat} (rest : List Nat) (h : NoneFits s m passed) :
    s.firstFitting (s.scheduler.magazine m) (passed ++ rest) = s.firstFitting (s.scheduler.magazine m) rest := by
  induction passed with
  | nil => rfl
  | cons k passed ih =>
    have hrest := ih fun x hx => h x (by simp [hx])
    rw [List.cons_append, State.firstFitting]
    split
    · next n i e hnext =>
      have hmisfit := h k (by simp) n i e ((nextPrint?_eq_some ..).1 hnext)
      rw [if_neg (by rwa [fits_iff]), hrest]
    · exact hrest

theorem firstFitting_eq_none {m : Magazine} {slots : List Nat} (h : NoneFits s m slots) :
    s.firstFitting (s.scheduler.magazine m) slots = none := by
  have := firstFitting_of_noneFits [] h
  rwa [List.append_nil] at this

theorem firstFitting_eq_some {m : Magazine} {passed rest : List Nat} (h : NoneFits s m passed)
    (hnext : HasNextPrint s slot n i e) (hfits : FitsPaper (s.scheduler.magazine m) s.scheduler.endReserve i e) :
    s.firstFitting (s.scheduler.magazine m) (passed ++ slot :: rest) = some (slot, n, i, e) := by
  rw [firstFitting_of_noneFits _ h, State.firstFitting, (nextPrint?_eq_some ..).2 hnext]
  exact if_pos ((fits_iff ..).2 hfits)

theorem leading_eq_some {slots : List Nat} : s.leading slots = some (slot, n, i, e) ↔
    ∃ ahead rest, slots = ahead ++ slot :: rest ∧ (∀ k ∈ ahead, ∀ m j d, ¬ HasNextPrint s k m j d)
      ∧ HasNextPrint s slot n i e := by
  induction slots with
  | nil => simp [State.leading]
  | cons k slots ih =>
    unfold State.leading
    split
    · next m j d hnext =>
      have hk := (nextPrint?_eq_some ..).1 hnext
      constructor
      · intro h
        simp only [Option.some.injEq, Prod.mk.injEq] at h
        obtain ⟨rfl, rfl, rfl, rfl⟩ := h
        exact ⟨[], slots, rfl, by simp, hk⟩
      · rintro ⟨ahead, rest, hslots, hahead, hhas⟩
        cases ahead with
        | nil =>
          obtain ⟨rfl, -⟩ := List.cons.inj hslots
          rw [← nextPrint?_eq_some, hnext] at hhas
          simpa using hhas
        | cons x ahead =>
          obtain ⟨rfl, -⟩ := List.cons.inj hslots
          exact absurd hk (hahead k (by simp) m j d)
    · next hnext =>
      have hk (m : Nat) (j : Item) (d : SizeEntry) : ¬ HasNextPrint s k m j d := fun h => by
        rw [← nextPrint?_eq_some, hnext] at h
        cases h
      rw [ih]
      constructor
      · rintro ⟨ahead, rest, rfl, hahead, hhas⟩
        exact ⟨k :: ahead, rest, rfl, by simpa using ⟨hk, hahead⟩, hhas⟩
      · rintro ⟨ahead, rest, hslots, hahead, hhas⟩
        cases ahead with
        | nil =>
          obtain ⟨rfl, -⟩ := List.cons.inj hslots
          exact absurd hhas (hk n i e)
        | cons x ahead =>
          obtain ⟨rfl, rfl⟩ := List.cons.inj hslots
          exact ⟨ahead, rest, rfl, fun y hy => hahead y (by simp [hy]), hhas⟩

theorem leads_iff : Leads s c slot n i e ↔ s.leading (s.scheduler.classList c) = some (slot, n, i, e) := leading_eq_some.symm

/-! ## The marks of the leading orders (R40) -/

/-- R40: the state once the leading order of a class, if it has one, has taken its paper-wait mark. -/
def leaderMarked (s : State) (c : OrderClass) : State :=
  match s.leading (s.scheduler.classList c) with
  | some (slot, _, i, e) => s.markPaper slot (some { width := e.paperWidth, surface := i.surface })
  | none => s

/-- R40: the state once the leading orders of several classes have taken their marks. -/
def leadersMarked (s : State) (classes : List OrderClass) : State := classes.foldl leaderMarked s

theorem scanSame_refl (s : State) : ScanSame s s := ⟨fun _ => rfl, fun _ => rfl, rfl, fun _ => rfl⟩

theorem scanSame_leaderMarked (s : State) (c : OrderClass) : ScanSame s (leaderMarked s c) := by
  unfold leaderMarked
  split
  · exact scanSame_markPaper s _ _
  · exact scanSame_refl s

theorem scanSame_leadersMarked (s : State) (classes : List OrderClass) : ScanSame s (leadersMarked s classes) := by
  induction classes generalizing s with
  | nil => exact scanSame_refl s
  | cons c classes ih => exact (scanSame_leaderMarked s c).trans (ih _)

theorem onlyChanges_leadersMarked (s : State) (classes : List OrderClass) :
    OnlyChanges [.orders] s (leadersMarked s classes) := by
  induction classes generalizing s with
  | nil => exact onlyChanges_refl _ s
  | cons c classes ih =>
    have hone : OnlyChanges [.orders] s (leaderMarked s c) := by
      unfold leaderMarked
      split
      · intro p hp
        cases p <;> simp_all [Same, State.port]
      · exact onlyChanges_refl _ s
    exact onlyChanges_mono (onlyChanges_trans hone (ih _)) (by decide)

/-- R39: past the classes the scan goes past it goes on with their leading orders marked. -/
theorem scanClasses_passed {above : List OrderClass} (rest : List OrderClass) (h : ∀ c ∈ above, PassedOver s active c) :
    s.scanClasses active (above ++ rest) = (leadersMarked s above).scanClasses active rest := by
  induction above generalizing s with
  | nil => rfl
  | cons c above ih =>
    have hone : s.scanClasses active (c :: (above ++ rest)) = (leaderMarked s c).scanClasses active (above ++ rest) := by
      obtain ⟨hnone, hother⟩ := h c (by simp)
      rw [State.scanClasses, firstFitting_eq_none hnone, leaderMarked]
      dsimp only
      split
      · next hleading => rw [hleading]
      · next slot n i e hleading =>
        rw [hleading]
        exact if_neg fun hfits => hother slot n i e (leads_iff.2 hleading) ((fits_iff ..).1 hfits)
    rw [List.cons_append, hone]
    exact ih fun d hd => (passedOver_congr (scanSame_leaderMarked s c)).2 (h d (by simp [hd]))

theorem leads_unique {m : Nat} {j : Item} {d : SizeEntry} {b : OrderClass} (h : Leads s c slot n i e)
    (h' : Leads s b slot m j d) : i = j ∧ e = d := by
  obtain ⟨-, -, -, -, hhas⟩ := h
  obtain ⟨-, -, -, -, hhas'⟩ := h'
  rw [← nextPrint?_eq_some] at hhas hhas'
  have hsame := hhas.symm.trans hhas'
  simp only [Option.some.injEq, Prod.mk.injEq] at hsame
  exact ⟨hsame.2.1, hsame.2.2⟩

theorem order?_markPaper (s : State) (slot : Nat) (need : Option PaperNeed) (k : Nat) : (s.markPaper slot need).order? k =
    if k = slot then (s.order? k).map fun o => { o with paperWait := need } else s.order? k := by
  refine (order?_modifyOrder s slot k fun o => { o with paperWait := need }).trans ?_
  split
  · next h => rw [h]
  · rfl

theorem leaderMarked_marks (s : State) (c : OrderClass) (k : Nat) :
    (∀ n i e, Leads s c k n i e → (leaderMarked s c).order? k =
        (s.order? k).map fun o => { o with paperWait := some { width := e.paperWidth, surface := i.surface } })
      ∧ ((∀ n i e, ¬ Leads s c k n i e) → (leaderMarked s c).order? k = s.order? k) := by
  simp only [leads_iff]
  unfold leaderMarked
  cases hleading : s.leading (s.scheduler.classList c) with
  | none => exact ⟨fun n i e h => (by cases h), fun _ => rfl⟩
  | some x =>
    obtain ⟨slot, m, j, d⟩ := x
    dsimp only
    rw [order?_markPaper]
    refine ⟨fun n i e h => ?_, fun hnone => if_neg ?_⟩
    · simp only [Option.some.injEq, Prod.mk.injEq] at h
      obtain ⟨rfl, -, rfl, rfl⟩ := h
      exact if_pos rfl
    · rintro rfl
      exact hnone m j d rfl

theorem leadersMarked_marks (s : State) (classes : List OrderClass) : LeadersMarked classes [] s (leadersMarked s classes) := by
  induction classes generalizing s with
  | nil => exact ⟨by simp, fun k _ _ => rfl⟩
  | cons c classes ih =>
    obtain ⟨hmarked, hother⟩ := ih (leaderMarked s c)
    simp only [leads_congr (scanSame_leaderMarked s c)] at hmarked hother
    refine ⟨fun b hb k n i e hleads => ?_, fun k _ hnone => ?_⟩
    · obtain ⟨hfirst, hpassed⟩ := leaderMarked_marks s c k
      by_cases hlater : ∃ d ∈ classes, ∃ m j f, Leads s d k m j f
      · obtain ⟨d, hd, m, j, f, hagain⟩ := hlater
        obtain ⟨rfl, rfl⟩ := leads_unique hleads hagain
        refine (hmarked d hd k m i e hagain).trans ?_
        by_cases hhere : ∃ m j f, Leads s c k m j f
        · obtain ⟨m', j, f, hhere⟩ := hhere
          obtain ⟨rfl, rfl⟩ := leads_unique hleads hhere
          rw [hfirst m' i e hhere, Option.map_map]
          rfl
        · rw [hpassed fun m j f h => hhere ⟨m, j, f, h⟩]
      · refine (hother k (by simp) fun d hd m j f h => hlater ⟨d, hd, m, j, f, h⟩).trans ?_
        obtain rfl | hin := List.mem_cons.1 hb
        · exact hfirst n i e hleads
        · exact absurd ⟨b, hin, n, i, e, hleads⟩ hlater
    · refine (hother k (by simp) fun d hd => hnone d (by simp [hd])).trans ?_
      exact (leaderMarked_marks s c k).2 (hnone c (by simp))

theorem leadersMarked_congr {classes : List OrderClass} {others : List Nat} (hscan : ScanSame s u)
    (horder : ∀ k, u.order? k = s.order? k) (h : LeadersMarked classes others u t) : LeadersMarked classes others s t := by
  obtain ⟨hmarked, hother⟩ := h
  simp only [leads_congr hscan, horder] at hmarked hother
  exact ⟨hmarked, hother⟩

/-- R40: the marks with a further order, that leads no class the scan goes past, changed after them. -/
theorem leadersMarked_except {classes : List OrderClass} (hnone : ∀ c ∈ classes, ∀ n i e, ¬ Leads s c slot n i e)
    (hslot : ∀ k, k ≠ slot → t.order? k = (leadersMarked s classes).order? k) : LeadersMarked classes [slot] s t := by
  obtain ⟨hmarked, hother⟩ := leadersMarked_marks s classes
  refine ⟨fun c hc k n i e hleads => ?_, fun k hk hfree => ?_⟩
  · have hk : k ≠ slot := fun h => hnone c hc n i e (h ▸ hleads)
    exact (hslot k hk).trans (hmarked c hc k n i e hleads)
  · exact (hslot k (by simpa using hk)).trans (hother k (by simp) hfree)

end

/-! ## The work taken (R56, R66, R72) -/

/-- R56: the work of a selection, at its first line. -/
def selectionWork (job : Job) : Work := { owner := .selection, job := job, nextLine := 0 }

theorem takeWork_takes (s : State) (job : Job) :
    (s.takeWork job).resampler.work = some (selectionWork job) ∧ (s.takeWork job).resampler.rowA = none
      ∧ (s.takeWork job).resampler.rowB = none
      ∧ ((∀ lo hi, ¬ NeedsRows (selectionWork job) lo hi) ∨ s.fetch.inFlight.isSome = true →
        Same s (s.takeWork job) .fetch ∧ Same s (s.takeWork job) .nextTag)
      ∧ ∀ p lo hi, job = .print p → NeedsRows (selectionWork job) lo hi → s.fetch.inFlight = none →
        (s.takeWork job).fetch.inFlight = some { tag := s.fetch.nextTag, handle := p.handle, level := p.geometry.level
                                                 row := lo, expected := p.geometry.wsN }
          ∧ (s.takeWork job).fetch.timer = none ∧ (s.takeWork job).fetch.nextTag = s.fetch.nextTag + 1 := by
  obtain ⟨u, hu⟩ : ∃ u : State, u = { s with resampler :=
      { s.resampler with work := some (selectionWork job), rowA := none, rowB := none } } := ⟨_, rfl⟩
  have hplan : s.takeWork job = u.planRows := by rw [hu]; rfl
  have hfetch : u.fetch = s.fetch := by rw [hu]
  have hwork : u.resampler.work = some (selectionWork job) := by rw [hu]
  have hempty : u.resampler.rowA = none ∧ u.resampler.rowB = none := by
    rw [hu]
    exact ⟨rfl, rfl⟩
  obtain ⟨hA, hB⟩ := hempty
  have hnotHeld (k : Nat) (row : Row) : ¬ RowHeld u k row := by
    rintro ⟨-, h | ⟨h, -⟩⟩
    · rw [hA] at h
      cases h
    · rw [hB] at h
      cases h
  obtain ⟨hquiet, hneeding⟩ := rowsSeenTo_planRows hwork
  rw [hplan, ← hfetch]
  have hkept : Same s u.planRows .fetch ↔ Same u u.planRows .fetch := by
    unfold Same
    rw [hfetch]
  have htag : Same s u.planRows .nextTag ↔ Same u u.planRows .nextTag := by
    unfold Same
    rw [hfetch]
  rw [hkept, htag]
  by_cases hneeds : ∃ lo hi, NeedsRows (selectionWork job) lo hi
  · obtain ⟨lo, hi, hneeds⟩ := hneeds
    have hrows (p : PrintJob) (hjob : job = .print p) := hneeding p lo hi _ _ hjob hneeds rfl rfl
    obtain ⟨q, -, hjob, -⟩ := id hneeds
    obtain ⟨hrowA, hrowB, hsame, -⟩ := hrows q hjob
    rw [hA, hB] at hrowA hrowB
    refine ⟨(planRows_resampler_work u).trans hwork, by simpa using hrowA, by simpa using hrowB, fun h => ?_,
      fun p lo' hi' hp hneeds' hnone => ?_⟩
    · rcases h with hnone | hflight
      · exact absurd hneeds (hnone lo hi)
      · exact hsame (.inl hflight)
    · obtain ⟨-, -, -, hrequest⟩ := hneeding p lo' hi' _ _ hp hneeds' rfl rfl
      exact hrequest lo' hnone (hnotHeld lo') (.inl rfl)
  · obtain ⟨hrowA, hrowB, hsame⟩ := hquiet fun lo hi h => hneeds ⟨lo, hi, h⟩
    exact ⟨(planRows_resampler_work u).trans hwork, hrowA, hrowB, fun _ => hsame, fun p lo hi _ h => absurd ⟨lo, hi, h⟩ hneeds⟩

/-! ## The attempt (R33 to R41) -/

/-- R35: the state in which what called for an attempt is used up. -/
def attemptUsed (s : State) : State := { s with scheduler := { s.scheduler with attemptCause := false } }

theorem scanSame_attemptUsed (s : State) : ScanSame s (attemptUsed s) := ⟨fun _ => rfl, fun _ => rfl, rfl, fun _ => rfl⟩

theorem onlyChanges_attemptUsed (s : State) : OnlyChanges [.attemptCause] s (attemptUsed s) := by
  intro p hp
  cases p <;> simp_all [Same, State.port, attemptUsed]

section
variable {s : State} {active : Magazine} (hactive : s.scheduler.active = some active) (hmade : AttemptMade s)

theorem exec_attempt_notMade (h : ¬ AttemptMade s) : exec .selectionAttempt s = .next s := by
  rw [← attemptDue_iff] at h
  show Host.Outcome.next _ = _
  split
  · rw [if_neg h]
  · rfl

include hactive hmade

theorem exec_attempt : exec .selectionAttempt s = .next (s.noteCauses (s.attempt active)) := by
  rw [← attemptDue_iff] at hmade
  show Host.Outcome.next _ = _
  rw [hactive]
  dsimp only
  rw [if_pos hmade]

/-- R36: a due patch that fits is taken. -/
theorem exec_attempt_patch (hdue : PatchDue s) (hfits : 100 + s.scheduler.endReserve ≤ (s.scheduler.magazine active).remaining) :
    exec .selectionAttempt s = .next (s.noteCauses ((attemptUsed s).selectPatch (s.scheduler.magazine active).width)) := by
  rw [exec_attempt hactive hmade]
  refine congrArg (fun t => Host.Outcome.next (s.noteCauses t)) (if_pos ?_)
  exact Bool.and_eq_true_iff.2 ⟨(patchDue_iff s).2 hdue, decide_eq_true hfits⟩

/-- R36, R39: otherwise the classes are scanned. -/
theorem exec_attempt_scan (hno : NoPatchTaken s active) : exec .selectionAttempt s =
    .next (s.noteCauses ((attemptUsed s).scanClasses active [.express, .standard, .bulk])) := by
  rw [exec_attempt hactive hmade]
  refine congrArg (fun t => Host.Outcome.next (s.noteCauses t)) (if_neg fun h => ?_)
  obtain ⟨hdue, hfits⟩ := Bool.and_eq_true_iff.1 h
  rcases hno with hno | hshort
  · exact hno ((patchDue_iff s).1 hdue)
  · exact absurd (of_decide_eq_true hfits) (not_le.2 hshort)

end

/-- The classes in the order of the scan, about one of them. -/
theorem classes_eq (c : OrderClass) : ∃ below, [OrderClass.express, .standard, .bulk] = c.above ++ c :: below := by
  cases c
  · exact ⟨[.standard, .bulk], rfl⟩
  · exact ⟨[.bulk], rfl⟩
  · exact ⟨[], rfl⟩

/-- Settles O37. -/
theorem selectionAttemptChooses : Obligations.SelectionAttemptChooses := by
  refine ⟨fun s h => exec_attempt_notMade h, fun s active hactive hmade => ⟨fun hdue hfits => ?_,
    fun c passed slot rest n i e hno hpassed hlist hnone hnext hfits => ?_⟩⟩
  · obtain ⟨u, hu⟩ : ∃ u : State, u = { attemptUsed s with scheduler :=
        { (attemptUsed s).scheduler with selection := some .patch } } := ⟨_, rfl⟩
    have hexec := exec_attempt_patch hactive hmade hdue hfits
    rw [State.selectPatch, ← hu] at hexec
    have hparts : OnlyChanges [.selection, .attemptCause] s u := by
      rw [hu]
      intro p hp
      cases p <;> simp_all [Same, State.port, attemptUsed]
    have htake := onlyChanges_takeWork u (.patch (patchWidth (s.scheduler.magazine active).width))
    obtain ⟨hwork, hrowA, hrowB, hkept, -⟩ := takeWork_takes u (.patch (patchWidth (s.scheduler.magazine active).width))
    obtain ⟨hfetch, htag⟩ := hkept (.inl fun lo hi ⟨p, _, hjob, _⟩ => by cases hjob)
    have hselection : (u.takeWork (.patch (patchWidth (s.scheduler.magazine active).width))).scheduler.selection = some .patch := by
      rw [takeWork_scheduler, hu]
    have hmost := onlyChanges_trans hparts htake
    have hsent := onlyChanges_except (parts' := [.selection, .work, .rows, .nextTag, .attemptCause]) hmost
      (same_trans (hparts .fetch (by decide)) hfetch) (by decide)
    have hall := onlyChanges_except (parts' := [.selection, .work, .rows, .attemptCause]) hsent
      (same_trans (hparts .nextTag (by decide)) htag) (by decide)
    exact ⟨_, hexec, hselection, hwork, hrowA, hrowB, hall .fetch (by decide), hall .nextTag (by decide),
      onlyChanges_noted hall (.inl (by decide))⟩
  · obtain ⟨below, hclasses⟩ := classes_eq c
    have hscan := scanSame_attemptUsed s
    obtain ⟨v, hv⟩ : ∃ v, v = leadersMarked (attemptUsed s) c.above := ⟨_, rfl⟩
    have hvscan : ScanSame s v := hv ▸ hscan.trans (scanSame_leadersMarked _ _)
    have hfirst : v.firstFitting (v.scheduler.magazine active) (v.scheduler.classList c) = some (slot, n, i, e) := by
      obtain ⟨hlists, hmagazines, hreserve, -⟩ := id hvscan
      rw [hlists, hlist]
      exact firstFitting_eq_some ((noneFits_congr hvscan passed).2 hnone) ((hasNextPrint_congr hvscan).2 hnext)
        (by rw [hmagazines, hreserve]; exact hfits)
    have hexec := exec_attempt_scan hactive hmade hno
    rw [hclasses, scanClasses_passed _ fun d hd => (passedOver_congr hscan).2 (hpassed d hd), ← hv, State.scanClasses,
      hfirst] at hexec
    have hvparts : OnlyChanges [.orders, .attemptCause] s v := hv ▸ onlyChanges_mono
      (onlyChanges_trans (onlyChanges_attemptUsed s) (onlyChanges_leadersMarked _ _)) (by decide)
    obtain ⟨u, hu⟩ : ∃ u : State, u = { v.markPaper slot none with scheduler :=
        { (v.markPaper slot none).scheduler with selection := some (.print slot n i.nextCopy) } } := ⟨_, rfl⟩
    have hselect : v.selectPrint slot n i e = u.takeWork (.print (printJob slot n i e)) := by
      rw [hu]
      rfl
    have hexec' : exec .selectionAttempt s = .next (s.noteCauses (u.takeWork (.print (printJob slot n i e)))) := by
      rw [← hselect]
      exact hexec
    have hmarkparts : OnlyChanges [.orders] v (v.markPaper slot none) := by
      intro p hp
      cases p <;> simp_all [Same, State.port]
    have huparts : OnlyChanges [.orders, .selection, .attemptCause] s u := by
      have hone : OnlyChanges [.selection] (v.markPaper slot none) u := by
        rw [hu]
        intro p hp
        cases p <;> simp_all [Same, State.port]
      exact onlyChanges_mono (onlyChanges_trans hvparts (onlyChanges_trans hmarkparts hone)) (by decide)
    have hunmarked : ∀ d ∈ c.above, ∀ m j f, ¬ Leads s d slot m j f := fun d hd m j f ⟨ahead, behind, hin, _, _⟩ =>
      (hpassed d hd).1 slot (by rw [hin]; simp) n i e hnext hfits
    have huorder (k : Nat) : u.order? k = if k = slot then (v.order? k).map fun o => { o with paperWait := none }
        else v.order? k := by
      rw [← order?_markPaper, hu] <;> rfl
    have hmarks : LeadersMarked c.above [slot] s (u.takeWork (.print (printJob slot n i e))) := by
      refine leadersMarked_congr hscan (fun _ => rfl) (leadersMarked_except (fun d hd m j f h =>
        hunmarked d hd m j f ((leads_congr hscan).1 h)) fun k hk => ?_)
      rw [State.order?, takeWork_orderTable, ← hv]
      exact (huorder k).trans (if_neg hk)
    have hslot : (u.takeWork (.print (printJob slot n i e))).order? slot =
        (s.order? slot).map fun o => { o with paperWait := none } := by
      have hvslot : v.order? slot = s.order? slot := by
        rw [hv]
        exact (leadersMarked_marks (attemptUsed s) c.above).2 slot (by simp) fun d hd m j f h =>
          hunmarked d hd m j f ((leads_congr hscan).1 h)
      rw [State.order?, takeWork_orderTable, ← hvslot]
      exact (huorder slot).trans (if_pos rfl)
    have htake := onlyChanges_takeWork u (.print (printJob slot n i e))
    obtain ⟨hwork, hrowA, hrowB, hkept, hrequested⟩ := takeWork_takes u (.print (printJob slot n i e))
    have hflight : u.fetch.inFlight = s.fetch.inFlight := (huparts .fetch (by decide)).1
    have htag : u.fetch.nextTag = s.fetch.nextTag := huparts .nextTag (by decide)
    have hselection : (u.takeWork (.print (printJob slot n i e))).scheduler.selection =
        some (.print slot n (i.ordered - i.waiting + 1)) := by
      rw [takeWork_scheduler, hu] <;> rfl
    rw [hflight, htag] at hrequested
    rw [hflight] at hkept
    refine ⟨_, geometryOf i.mode i.ws i.hs e.wp e.lp, _, _, hexec', hselection, fun hwp hlp => (isGeometry_iff hwp hlp).2 rfl,
      rfl, rfl, hwork, hrowA, hrowB, fun lo hi hneeds hidle => hrequested _ lo hi rfl hneeds hidle, fun hcase => ?_, hslot,
      hmarks, onlyChanges_noted (onlyChanges_mono (onlyChanges_trans huparts htake) (by decide)) (.inl (by decide))⟩
    obtain ⟨hfetch, hnextTag⟩ := hkept hcase
    exact ⟨same_trans (huparts .fetch (by decide)) hfetch, same_trans (huparts .nextTag (by decide)) hnextTag⟩

end Sys2Proof.Attempts

/-! What calls for a new attempt (R35): the operations that take orders from the class lists and void the selection. -/

namespace Sys2Proof.Causes

open Sys2Proof.Machine Sys2Proof.Laws Sys2Proof.OrdersAndItems Sys2Proof.Magazines Sys2Proof.Sorting Sys2Proof.Till
open Sys2Proof.Steps Sys2Proof.WebMap Sys2Proof.Pool Sys2Proof.Registry Sys2Proof.Controls Sys2Proof.Disposal

/-! ## Orders and selections that go -/

/-- R35: from one scheduler to another orders leave the class lists and a selection goes, and an attempt is called for exactly
where one does or `besides` holds. -/
def Retires (besides : Prop) (a b : Scheduler) : Prop :=
  (∀ c, (b.classList c).Sublist (a.classList c)) ∧ (b.selection = a.selection ∨ b.selection = none)
    ∧ (b.attemptCause = true ↔ a.attemptCause = true ∨ (∃ c, b.classList c ≠ a.classList c)
      ∨ (a.selection.isSome = true ∧ b.selection = none) ∨ besides)

section
variable {p q : Prop} {a b c : Scheduler}

theorem Retires.same (hlists : ∀ k, b.classList k = a.classList k) (hselection : b.selection = a.selection)
    (hcause : b.attemptCause = a.attemptCause) : Retires False a b := by
  refine ⟨fun k => by rw [hlists k], .inl hselection, ?_⟩
  rw [hselection, hcause]
  refine ⟨.inl, fun h => ?_⟩
  rcases h with h | ⟨k, h⟩ | ⟨hsome, hnone⟩ | h
  · exact h
  · exact absurd (hlists k) h
  · rw [hnone] at hsome
    cases hsome
  · exact h.elim

theorem Retires.refl (a : Scheduler) : Retires False a a := .same (fun _ => rfl) rfl rfl

theorem Retires.congr (h : Retires p a b) (hpq : p ↔ q) : Retires q a b := by
  unfold Retires at h ⊢
  rwa [← hpq]

theorem Retires.trans (h : Retires p a b) (k : Retires q b c) : Retires (p ∨ q) a c := by
  obtain ⟨hlists, hselection, hcause⟩ := h
  obtain ⟨klists, kselection, kcause⟩ := k
  refine ⟨fun x => (klists x).trans (hlists x), ?_, ?_⟩
  · rcases kselection with k | k
    · rcases hselection with h | h
      · exact .inl (k.trans h)
      · exact .inr (k.trans h)
    · exact .inr k
  · have hlist : (∃ x, c.classList x ≠ a.classList x) ↔
        (∃ x, b.classList x ≠ a.classList x) ∨ ∃ x, c.classList x ≠ b.classList x := by
      constructor
      · rintro ⟨x, hx⟩
        by_cases hb : b.classList x = a.classList x
        · exact .inr ⟨x, fun hc => hx (hc.trans hb)⟩
        · exact .inl ⟨x, hb⟩
      · rintro (⟨x, hx⟩ | ⟨x, hx⟩)
        · exact ⟨x, fun hc => hx ((hlists x).antisymm (hc ▸ klists x))⟩
        · exact ⟨x, fun hc => hx ((klists x).antisymm (hc ▸ hlists x))⟩
    have hgone : (a.selection.isSome = true ∧ c.selection = none) ↔
        (a.selection.isSome = true ∧ b.selection = none) ∨ (b.selection.isSome = true ∧ c.selection = none) := by
      cases ha : a.selection with
      | none =>
        have hb : b.selection = none := hselection.elim (fun h => h.trans ha) id
        simp [hb]
      | some x =>
        rcases hselection with hb | hb
        · simp [hb, ha]
        · have hc : c.selection = none := kselection.elim (fun h => h.trans hb) id
          simp [hb, hc]
    rw [kcause, hcause, hlist, hgone]
    simp only [or_assoc, or_left_comm]

end

/-- A change that leaves the lists, the selection and the cause alone. -/
theorem Retires.of_frame {parts : List Machine.Part} {s t : State} (h : OnlyChanges parts s t)
    (hparts : ∀ p ∈ ([.classLists, .selection, .attemptCause] : List Machine.Part), p ∉ parts) :
    Retires False s.scheduler t.scheduler := by
  simp only [List.forall_mem_cons] at hparts
  obtain ⟨hlists, hselection, hcause, -⟩ := hparts
  exact .same (classList_of_same (h _ hlists)) (h _ hselection) (h _ hcause)

theorem Retires.and {p : Prop} {a b c : Scheduler} (h : Retires False a b) (k : Retires p b c) : Retires p a c :=
  (h.trans k).congr (by simp)

theorem Retires.then {p : Prop} {a b c : Scheduler} (h : Retires p a b) (k : Retires False b c) : Retires p a c :=
  (h.trans k).congr (by simp)

/-! ## The operations -/

section
variable (s : State) (slot n : Nat)

theorem classList_remove (sch : Scheduler) (c k : OrderClass) : (sch.remove c slot).classList k =
    if k = c then (sch.classList k).filter fun x => x != slot else sch.classList k := by
  cases c <;> cases k <;> simp [Scheduler.remove, Scheduler.classList]

theorem retires_remove (sch : Scheduler) (c : OrderClass) : Retires False sch (sch.remove c slot) := by
  refine ⟨fun k => ?_, .inl rfl, ?_⟩
  · rw [classList_remove]
    split
    · exact List.filter_sublist
    · exact List.Sublist.refl _
  · have hmoved : (∃ k, (sch.remove c slot).classList k ≠ sch.classList k) ↔ slot ∈ sch.classList c := by
      constructor
      · rintro ⟨k, hk⟩
        rw [classList_remove] at hk
        split at hk
        · next h =>
          subst h
          by_contra hout
          exact hk (List.filter_eq_self.2 fun x hx => by
            simp only [bne_iff_ne, ne_eq]
            rintro rfl
            exact hout hx)
        · exact absurd rfl hk
      · refine fun hin => ⟨c, fun hsame => ?_⟩
        rw [classList_remove, if_pos rfl] at hsame
        have := List.filter_eq_self.1 hsame slot hin
        simp at this
    have hgone : ¬ (sch.selection.isSome = true ∧ (sch.remove c slot).selection = none) := fun ⟨hsome, hnone⟩ => by
      rw [show sch.selection = none from hnone] at hsome
      cases hsome
    rw [hmoved, Scheduler.remove]
    simp only [Bool.or_eq_true, List.contains_iff_mem, or_false]
    tauto

theorem retires_delist : Retires False s.scheduler (s.delist slot).scheduler := by
  unfold State.delist
  dsimp only
  split
  · exact retires_remove slot _ _
  · exact .refl _

theorem retires_voidSelection : Retires False s.scheduler s.voidSelection.scheduler := by
  unfold State.voidSelection
  split
  · next h => exact ⟨fun c => by cases c <;> exact List.Sublist.refl _, .inr rfl, by simp [h]⟩
  · exact .refl _

theorem retires_voidSelectionOf : Retires False s.scheduler (s.voidSelectionOf slot).scheduler := by
  unfold State.voidSelectionOf
  split
  · exact retires_voidSelection s
  · exact .refl _

theorem retires_flush : Retires False s.scheduler s.flush.scheduler := by
  refine ⟨fun c => by cases c <;> exact List.Sublist.refl _, .inr rfl, ?_⟩
  have hsame : ¬ ∃ c, s.flush.scheduler.classList c ≠ s.scheduler.classList c := by
    rintro ⟨c, hc⟩
    cases c <;> exact hc rfl
  show (s.scheduler.attemptCause || s.scheduler.selection.isSome) = true ↔ _
  rw [Bool.or_eq_true]
  have hnone : s.flush.scheduler.selection = none := rfl
  simp only [hnone, hsame]
  tauto

end

/-! ## Operations that remake no copy -/

/-- R14: no item record in use has come about or has a copy remade. -/
def ItemsKept (s t : State) : Prop :=
  ∀ r j, Table.get? t.orderTable.items r = some j →
    ∃ i, Table.get? s.orderTable.items r = some i ∧ j.remakesUsed = i.remakesUsed

/-- R35: orders leave the class lists and a selection goes, an attempt is called for where one does, and no copy is remade. -/
def Quiet (s t : State) : Prop := Retires False s.scheduler t.scheduler ∧ ItemsKept s t

section
variable {s t u : State}

theorem itemsKept_of_same (h : t.orderTable.items = s.orderTable.items) : ItemsKept s t := by
  intro r j hj
  rw [h] at hj
  exact ⟨j, hj, rfl⟩

theorem Quiet.trans (h : Quiet s t) (k : Quiet t u) : Quiet s u := by
  refine ⟨h.1.and k.1, fun r j hj => ?_⟩
  obtain ⟨i, hi, hij⟩ := k.2 r j hj
  obtain ⟨i', hi', hii⟩ := h.2 r i hi
  exact ⟨i', hi', hij.trans hii⟩

theorem Quiet.of_items (h : Retires False s.scheduler t.scheduler) (hitems : t.orderTable.items = s.orderTable.items) :
    Quiet s t := ⟨h, itemsKept_of_same hitems⟩

/-- A change that leaves the scheduler and the items alone. -/
theorem Quiet.of_same (hsch : t.scheduler = s.scheduler) (hitems : t.orderTable.items = s.orderTable.items) : Quiet s t :=
  .of_items (hsch ▸ .refl _) hitems

theorem Quiet.refl (s : State) : Quiet s s := .of_same rfl rfl

/-- A change that leaves the lists, the selection, the cause and the items alone. -/
theorem Quiet.of_frame {parts : List Machine.Part} (h : OnlyChanges parts s t)
    (hparts : ∀ p ∈ ([.classLists, .selection, .attemptCause, .items] : List Machine.Part), p ∉ parts) : Quiet s t :=
  .of_items (.of_frame h fun p hp => hparts p (by simp_all; tauto)) (h .items (hparts _ (by simp)))

theorem remakesUsed_modify {T : Table Item} {k r : Nat} {f : Item → Item} (hf : ∀ i, (f i).remakesUsed = i.remakesUsed)
    {j : Item} (hj : Table.get? (Table.modify T k f) r = some j) :
    ∃ i, Table.get? T r = some i ∧ j.remakesUsed = i.remakesUsed := by
  rw [get?_modify] at hj
  split at hj
  · next hk =>
    obtain ⟨i, hi, rfl⟩ := Option.map_eq_some_iff.1 hj
    exact ⟨i, hk ▸ hi, hf i⟩
  · exact ⟨j, hj, rfl⟩

theorem itemsKept_modifyItem {slot n : Nat} {f : Item → Item} (hf : ∀ i, (f i).remakesUsed = i.remakesUsed)
    (h : t.orderTable.items = (s.orderTable.modifyItem slot n f).items) : ItemsKept s t := by
  intro r j hj
  rw [h] at hj
  unfold OrderTable.modifyItem at hj
  dsimp only at hj
  split at hj
  · exact remakesUsed_modify hf hj
  · exact ⟨j, hj, rfl⟩

theorem itemsKept_freeRecord (s : State) (slot : Nat) : ItemsKept s (s.freeRecord slot) := by
  intro r j hj
  rw [item_freeRecord] at hj
  split at hj
  · cases hj
  · exact ⟨j, hj, rfl⟩

end

section
variable (s : State) (slot n : Nat)

theorem quiet_delist : Quiet s (s.delist slot) := .of_items (retires_delist s slot) (by simp)

theorem quiet_voidSelection : Quiet s s.voidSelection := .of_items (retires_voidSelection s) (by simp)

theorem quiet_voidSelectionOf : Quiet s (s.voidSelectionOf slot) := .of_items (retires_voidSelectionOf s slot) (by simp)

theorem quiet_flush : Quiet s s.flush := .of_items (retires_flush s) rfl

theorem quiet_freeRecord : Quiet s (s.freeRecord slot) := ⟨.refl _, itemsKept_freeRecord s slot⟩

theorem quiet_releaseBins : Quiet s (s.releaseBins slot) := .of_same (by simp) (by simp)

theorem quiet_completeOrder : Quiet s (s.completeOrder slot) := by
  have habort (t : State) : Quiet t (t.abortTrailingWorkOf slot) := .of_same (by simp) (by simp)
  unfold State.completeOrder
  exact .trans (.trans (.trans (t := s.modifyOrder slot fun o => { o with state := .complete, completeUnreported := true })
    (.of_same rfl rfl) (quiet_delist _ slot)) (.of_same rfl rfl)) (habort _)

theorem quiet_drainOrder (o : Order) : Quiet s (s.drainOrder slot o) := by
  unfold State.drainOrder
  split
  · exact .of_same rfl rfl
  · split
    · exact quiet_freeRecord s slot
    · exact .refl s

theorem quiet_accountCheck : Quiet s (s.accountCheck slot) := by
  cases ho : s.order? slot with
  | none =>
    rw [accountCheck_of_free ho]
    exact .refl _
  | some o =>
    rw [accountCheck_of_order ho]
    split
    · exact quiet_completeOrder s slot
    · split
      · exact quiet_drainOrder s slot o
      · exact .refl _

theorem quiet_withdraw (requester : Requester) (partially : Bool) : Quiet s (s.withdraw slot requester partially) := by
  have hbegun : Quiet s (withdrawalBegun s slot requester partially) := by
    refine ⟨.refl _, fun r j hj => ?_⟩
    unfold withdrawalBegun OrderTable.modifyItems at hj
    dsimp only at hj
    rw [get?_modifyAll] at hj
    split at hj
    · obtain ⟨i, hi, rfl⟩ := Option.map_eq_some_iff.1 hj
      exact ⟨i, hi, rfl⟩
    · exact ⟨j, hj, rfl⟩
  have hstopped (t : State) : Quiet t (((t.abortBegunWorkOf slot).blankOf slot).releaseBins slot) :=
    .of_same (by simp) (by simp)
  rw [withdraw_eq]
  exact ((hbegun.trans (quiet_delist _ slot)).trans (quiet_voidSelectionOf _ slot)).trans
    ((hstopped _).trans (quiet_accountCheck _ slot))

theorem remakesUsed_struck (i : Item) : i.struck.remakesUsed = i.remakesUsed := rfl

theorem remakesUsed_deliver (i : Item) : i.deliver.remakesUsed = i.remakesUsed := by
  unfold Item.deliver
  split <;> rfl

theorem remakesUsed_expose (i : Item) : i.expose.remakesUsed = i.remakesUsed := by
  unfold Item.expose
  split <;> rfl

theorem quiet_faultOrder : Quiet s (s.faultOrder slot n) := by
  have hstruck : Quiet s (struckAt s slot n) := ⟨.refl _, itemsKept_modifyItem remakesUsed_struck rfl⟩
  rw [faultOrder_eq]
  refine .trans ?_ (quiet_accountCheck _ slot)
  unfold faultStruck
  split
  · split
    · exact (hstruck.trans (quiet_delist _ slot)).trans (quiet_voidSelectionOf _ slot)
    · exact hstruck
  · exact hstruck

theorem quiet_faultPrint (owner : WorkOwner) : Quiet s (s.faultPrint owner) := by
  cases owner with
  | selection => exact quiet_voidSelection s
  | exposed => exact .of_same (by simp [State.faultPrint]) (by simp [State.faultPrint])
  | trailing start => exact .of_same (by simp [State.faultPrint]) (by simp [State.faultPrint])

theorem quiet_rasterFault (f : Fetch) (cause : FaultCause) : Quiet s (s.rasterFault f cause) := by
  unfold State.rasterFault
  split
  · split
    · dsimp only
      refine .trans (.trans ?_ (quiet_faultPrint _ _)) (quiet_faultOrder _ _ _)
      exact .of_same rfl rfl
    · exact .refl s
  · exact .refl s

theorem quiet_raiseWebFault (cause : WebFaultCause) : Quiet s (s.raiseWebFault cause) := by
  unfold State.raiseWebFault
  split
  · exact .refl s
  · exact (quiet_flush s).trans (.of_items (.same (fun c => by cases c <;> rfl) rfl rfl) rfl)

theorem quiet_detectMissedCuts : Quiet s s.detectMissedCuts := by
  unfold State.detectMissedCuts
  split
  · exact .refl s
  · dsimp only
    split
    · exact .trans (.of_same rfl rfl) (quiet_raiseWebFault _ _)
    · exact .of_same rfl rfl

theorem quiet_deliverPrint (o : Order) (e : SizeEntry) : Quiet s (s.deliverPrint slot n o e).1 := by
  have hcharged (t : State) : Quiet t (t.chargePrint slot n) := by
    unfold State.chargePrint
    split
    · exact ⟨.refl _, itemsKept_modifyItem (f := Item.addCharge _) (fun _ => rfl) rfl⟩
    · exact .refl t
  unfold State.deliverPrint
  dsimp only
  refine .trans (.trans (.trans (t := (s.placePrint slot o e.group).1) ?_ ?_) (hcharged _)) (quiet_accountCheck _ slot)
  · unfold State.placePrint
    split
    · exact .of_same rfl rfl
    · split <;> exact .of_same rfl rfl
  · exact ⟨.refl _, itemsKept_modifyItem remakesUsed_deliver rfl⟩

theorem quiet_popSegments (k : Nat) : Quiet s (s.popSegments k) := .of_same rfl rfl

theorem quiet_earlyCut (d : Option Int) : Quiet s (s.earlyCut d).1 := .of_same rfl rfl

theorem quiet_stallSecond : Quiet s s.stallSecond := by
  unfold State.stallSecond
  exact .trans (quiet_raiseWebFault _ _) (.of_same rfl rfl)

end

end Sys2Proof.Causes

/-! What calls for a new attempt (R35): copies remade, and the operations that dispose of copies. -/

namespace Sys2Proof.Causes

open Sys2Proof.Machine Sys2Proof.Laws Sys2Proof.OrdersAndItems Sys2Proof.Magazines Sys2Proof.Sorting Sys2Proof.Till
open Sys2Proof.Steps Sys2Proof.WebMap Sys2Proof.Pool Sys2Proof.Registry Sys2Proof.Controls Sys2Proof.Disposal

/-- R14: a copy of an item is remade. -/
def Remade (s t : State) : Prop :=
  ∃ r i j, Table.get? s.orderTable.items r = some i ∧ Table.get? t.orderTable.items r = some j
    ∧ i.remakesUsed < j.remakesUsed

/-- R35: orders leave the class lists, a selection goes and copies are remade, and an attempt is called for exactly where one
of this is so. -/
def Calls (s t : State) : Prop := Retires (Remade s t) s.scheduler t.scheduler

section
variable {s s' t t' : State}

theorem not_remade_of_kept (h : ItemsKept s t) : ¬ Remade s t := by
  rintro ⟨r, i, j, hi, hj, hmore⟩
  obtain ⟨i', hi', hsame⟩ := h r j hj
  obtain rfl : i = i' := Option.some.inj (hi.symm.trans hi')
  exact hmore.ne hsame.symm

theorem Quiet.calls (h : Quiet s t) : Calls s t :=
  h.1.congr (by simp [not_remade_of_kept h.2])

/-- Changes before and after that leave the items alone and call for an attempt as they must. -/
theorem Calls.between (hbefore : Retires False s.scheduler s'.scheduler) (hitems : s'.orderTable.items = s.orderTable.items)
    (h : Calls s' t') (hafter : Retires False t'.scheduler t.scheduler)
    (hitems' : t.orderTable.items = t'.orderTable.items) : Calls s t := by
  have hsame : Remade s' t' ↔ Remade s t := by rw [Remade, Remade, hitems, hitems']
  exact hbefore.and ((h.congr hsame).then hafter)

/-! ## Disposing of copies -/

theorem retires_disposeCopy (s : State) (slot n : Nat) (rejected : Bool) :
    Retires ((s.disposeCopy slot n rejected).2 = true) s.scheduler (s.disposeCopy slot n rejected).1.scheduler := by
  rw [disposeCopy_eq]
  refine Retires.then (b := (copyDisposed s slot n (qualifies s slot n) rejected).scheduler)
    ⟨fun c => by cases c <;> exact List.Sublist.refl _, .inl rfl, ?_⟩ (quiet_accountCheck _ slot).1
  have hlists : ¬ ∃ c, (copyDisposed s slot n (qualifies s slot n) rejected).scheduler.classList c
      ≠ s.scheduler.classList c := by
    rintro ⟨c, hc⟩
    cases c <;> exact hc rfl
  have hselection : ¬ (s.scheduler.selection.isSome = true
      ∧ (copyDisposed s slot n (qualifies s slot n) rejected).scheduler.selection = none) := by
    rintro ⟨hsome, hnone⟩
    rw [show s.scheduler.selection = none from hnone] at hsome
    cases hsome
  have hcause : (copyDisposed s slot n (qualifies s slot n) rejected).scheduler.attemptCause =
    (s.scheduler.attemptCause || qualifies s slot n) := rfl
  simp only [hcause, Bool.or_eq_true, hlists, hselection, false_or]

theorem retires_disposeSegments (rejected : Bool) (segments : List Segment) (s : State) :
    Retires (0 < (s.disposeSegments rejected segments).2.1) s.scheduler (s.disposeSegments rejected segments).1.scheduler := by
  induction segments generalizing s with
  | nil => exact (Retires.refl _).congr (by simp [State.disposeSegments])
  | cons g rest ih =>
    rw [State.disposeSegments]
    split
    · next slot n copy hkind =>
      refine ((retires_disposeCopy s slot n rejected).trans (ih _)).congr ?_
      dsimp only
      split
      · next hagain => simp [hagain]
      · next hnot => simp [hnot]
    · exact ih s

theorem remadeIn_pos {segs : List Segment} : 0 < remadeIn s segs ↔ ∃ p ∈ s.orderTable.orders, ∃ n r i, p.2.items[n]? = some r
    ∧ Table.get? s.orderTable.items r = some i
    ∧ 0 < i.remadeOf s.orderTable.remakeLimit p.2.state (segs.countP (Segment.isPrintOf p.1 n)) := by
  rw [remadeIn, Nat.pos_iff_ne_zero, ne_eq, List.sum_eq_zero_iff]
  simp only [List.mem_map, forall_exists_index, and_imp, forall_apply_eq_imp_iff₂, List.sum_eq_zero_iff, List.mem_range,
    not_forall, exists_prop]
  refine exists_congr fun p => and_congr_right fun _ => ?_
  constructor
  · rintro ⟨n, hn, hpos⟩
    split at hpos
    · next i hi =>
      obtain ⟨r, hr, hi⟩ := Option.bind_eq_some_iff.1 hi
      exact ⟨n, r, i, hr, hi, Nat.pos_of_ne_zero hpos⟩
    · exact absurd rfl hpos
  · rintro ⟨n, r, i, hr, hi, hpos⟩
    refine ⟨n, (List.getElem?_eq_some_iff.1 hr).1, ?_⟩
    rw [hr, Option.bind_some, hi]
    exact hpos.ne'

theorem orderAfter_isSome {segs : List Segment} {slot : Nat} {o : Order} (h : o.state ≠ .withdrawn) :
    (orderAfter s segs slot o).isSome = true := by
  have hdrains : ¬ drainsBy s segs slot o = true := by simp [drainsBy, h]
  unfold orderAfter
  rw [if_neg hdrains]
  split <;> rfl

/-- R14: where copies leave the web undelivered, one is remade exactly where their count says so. -/
theorem remade_iff {segs : List Segment} (hpool : PoolAndGross s) (h : CopiesDisposed segs s t) :
    Remade s t ↔ 0 < remadeIn s segs := by
  obtain ⟨-, hitems, -⟩ := h
  have horder {p : Nat × Order} (hp : p ∈ s.orderTable.orders) : s.order? p.1 = some p.2 :=
    get?_of_mem (rising_of_pool hpool) hp
  rw [remadeIn_pos]
  constructor
  · rintro ⟨r, i, j, hi, hj, hmore⟩
    have hmem : r ∈ s.orderTable.orders.flatMap fun p => p.2.items :=
      hpool.2.2.2.1.symm.subset (get?_isSome_iff.1 (by rw [hi]; rfl))
    obtain ⟨p, hp, hr⟩ := List.mem_flatMap.1 hmem
    obtain ⟨n, hn⟩ := List.mem_iff_getElem?.1 hr
    have hafter := hitems p.1 p.2 n r i (horder hp) hn hi
    rw [hj] at hafter
    split at hafter
    · cases hafter
      exact ⟨p, hp, n, r, i, hn, hi, Nat.lt_add_right_iff_pos.1 hmore⟩
    · cases hafter
  · rintro ⟨p, hp, n, r, i, hn, hi, hpos⟩
    have hstate : p.2.state ≠ .withdrawn := by
      intro hwithdrawn
      simp [Item.remadeOf, hwithdrawn] at hpos
    refine ⟨r, i, _, hi, (hitems p.1 p.2 n r i (horder hp) hn hi).trans (if_pos (orderAfter_isSome hstate)), ?_⟩
    exact Nat.lt_add_of_pos_right hpos

theorem calls_disposeSegments (rejected : Bool) (segs : List Segment) (hpool : PoolAndGross s) (hweb : CopiesOnWeb segs s) :
    Calls s (s.disposeSegments rejected segs).1 := by
  obtain ⟨hdisposed, -, hcount⟩ := disposeSegments_disposes rejected segs s hpool hweb
  exact (retires_disposeSegments rejected segs s).congr (by rw [hcount, remade_iff hpool hdisposed])

end

section
variable {s : State}

theorem calls_clearMap (hpool : PoolAndGross s) (hweb : CopiesOnWeb s.web.map s) : Calls s s.clearMap.1 :=
  .between (s' := { s with web := { s.web with map := [], unlisted := none } }) (.refl _) rfl
    (calls_disposeSegments false s.web.map hpool hweb) (.refl _) rfl

theorem calls_rejectPiece {piece : List Segment} (hpool : PoolAndGross s) (hweb : CopiesOnWeb piece s) (k : Nat) :
    Calls s ((s.popSegments k).rejectPiece piece).1 :=
  .between (s' := (s.popSegments k).countReject.notePatches piece) (.refl _) rfl
    (calls_disposeSegments true piece hpool hweb) (.refl _) rfl

theorem calls_matchedCut (hpool : PoolAndGross s) (hcounted : CopiesCounted s) (k : Nat) (d : Int) :
    Calls s (s.matchedCut k d).1 := by
  have hweb : CopiesOnWeb (s.web.map.take (k + 1)) s := copiesOnWeb_of_counted hcounted hpool (List.take_sublist _ _)
  unfold State.matchedCut
  split
  · next g hg =>
    rw [hg] at hweb
    split
    · exact ((quiet_popSegments s 1).trans (quiet_deliverPrint _ _ _ _ _)).calls
    · exact calls_rejectPiece hpool hweb 1
  · exact calls_rejectPiece hpool hweb _

theorem calls_judgeCut (hpool : PoolAndGross s) (hcounted : CopiesCounted s) : Calls s s.judgeCut.1 := by
  unfold State.judgeCut
  split
  · dsimp only
    split
    · exact calls_matchedCut hpool hcounted _ _
    · exact (quiet_earlyCut s _).calls
  · exact (quiet_earlyCut s _).calls

theorem calls_faultCut (hpool : PoolAndGross s) (hcounted : CopiesCounted s) : Calls s s.faultCut.1 := by
  have hcount : Quiet s s.countReject := .of_same rfl rfl
  unfold State.faultCut
  split
  · next g rest hmap =>
    split
    · refine calls_rejectPiece hpool (copiesOnWeb_of_counted hcounted hpool ?_) 1
      rw [hmap]
      simp
    · exact hcount.calls
  · exact hcount.calls

theorem orderTable_detectMissedCuts : s.detectMissedCuts.orderTable = s.orderTable := by
  unfold State.detectMissedCuts
  split
  · rfl
  · dsimp only
    split
    · unfold State.raiseWebFault
      split <;> rfl
    · rfl

theorem counted_detectMissedCuts (h : CopiesCounted s) : CopiesCounted s.detectMissedCuts := by
  rw [copiesCounted_iff] at h ⊢
  rw [copies_detectMissedCuts]
  unfold Counted State.order? at h ⊢
  rwa [orderTable_detectMissedCuts]

theorem pool_detectMissedCuts (h : PoolAndGross s) : PoolAndGross s.detectMissedCuts := by
  unfold PoolAndGross at h ⊢
  rwa [orderTable_detectMissedCuts]

/-- R14, R35, R123: a cut taken calls for an attempt as it must. -/
theorem calls_cutTaken (hpool : PoolAndGross s) (hcounted : CopiesCounted s) : Calls s (cutTaken s) := by
  have htake : Calls s s.takeCut.1 := by
    unfold State.takeCut
    split
    · exact calls_faultCut hpool hcounted
    · exact .between (quiet_detectMissedCuts s).1 (by rw [orderTable_detectMissedCuts])
        (calls_judgeCut (pool_detectMissedCuts hpool) (counted_detectMissedCuts hcounted)) (.refl _) rfl
  exact .between (.refl _) rfl htake (.refl _) rfl

theorem calls_warmReset (hpool : PoolAndGross s) (hcounted : CopiesCounted s) : Calls s s.warmReset := by
  have hweb : CopiesOnWeb s.flush.web.map s.flush :=
    (Clearing.disposal_congr (kinds_flush s).symm s s).1 (copiesOnWeb_of_counted hcounted hpool (List.Sublist.refl _))
  exact .between (retires_flush s) rfl (calls_clearMap hpool hweb) (.same (fun c => by cases c <;> rfl) rfl rfl) rfl

end

end Sys2Proof.Causes

/-! What calls for a new attempt (R35): the requests. -/

namespace Sys2Proof.Causes

open Sys2Proof.Machine Sys2Proof.Laws Sys2Proof.OrdersAndItems Sys2Proof.Magazines Sys2Proof.Sorting Sys2Proof.Till
open Sys2Proof.Steps Sys2Proof.WebMap Sys2Proof.Pool Sys2Proof.Registry Sys2Proof.Controls Sys2Proof.Disposal

/-! ## Orders that gain items -/

/-- R35: an item is added to a listed order. -/
def Enlarged (s t : State) : Prop :=
  ∃ k slot o o', slot ∈ s.scheduler.classList k ∧ s.order? slot = some o ∧ t.order? slot = some o'
    ∧ o.items.length < o'.items.length

/-- No order has gained items. -/
def OrdersKept (s t : State) : Prop :=
  ∀ k o', t.order? k = some o' → ∃ o, s.order? k = some o ∧ o'.items = o.items

section
variable {s t u : State}

theorem not_enlarged_of_kept (h : OrdersKept s t) : ¬ Enlarged s t := by
  rintro ⟨k, slot, o, o', -, ho, ho', hmore⟩
  obtain ⟨p, hp, hitems⟩ := h slot o' ho'
  obtain rfl : o = p := Option.some.inj (ho.symm.trans hp)
  rw [hitems] at hmore
  exact lt_irrefl _ hmore

theorem ordersKept_of_moves (h : Moves s t) : OrdersKept s t := by
  induction h with
  | recast horders _ _ _ =>
    intro k o' ho'
    obtain ⟨o, ho, -, hitems, -⟩ := order?_back horders ho'
    exact ⟨o, ho, hitems⟩
  | free s slot =>
    intro k o' ho'
    rw [order?_freeRecord] at ho'
    split at ho'
    · cases ho'
    · exact ⟨o', ho', rfl⟩
  | @charge s slot n c o i p _ _ _ =>
    intro k o' ho'
    have hview := (order?_modifyOrder s slot k (Order.addCharge c)).symm.trans ho'
    split at hview
    · next hk =>
      obtain ⟨o, ho, rfl⟩ := Option.map_eq_some_iff.1 hview
      exact ⟨o, hk ▸ ho, rfl⟩
    · exact ⟨o', hview, rfl⟩
  | trans _ _ ih ih' =>
    intro k o' ho'
    obtain ⟨p, hp, hitems⟩ := ih' k o' ho'
    obtain ⟨o, ho, hitems'⟩ := ih k p hp
    exact ⟨o, ho, hitems.trans hitems'⟩

/-- R35: what adds an item to a listed order calls for an attempt. -/
theorem called_of_enlarged (h : Change s u) (hlists : ListsAgree s) (henlarged : Enlarged s u) :
    u.scheduler.attemptCause = true := by
  obtain ⟨c, slot, o, o', hlisted, ho, ho', hmore⟩ := henlarged
  rcases moves_or_of_change h with hmoves | rfl | ⟨x, k, hfree, rfl⟩ | ⟨x, r, p, i, hp, -, -, -, -, rfl⟩ | ⟨x, p, a, hp, rfl⟩
  · exact absurd ⟨c, slot, o, o', hlisted, ho, ho', hmore⟩ (not_enlarged_of_kept (ordersKept_of_moves hmoves))
  · cases ho'
  · rw [order?_opened] at ho'
    split at ho'
    · cases ho'
      simp [Order.opened] at hmore
    · rw [Option.some.inj (ho.symm.trans ho')] at hmore
      exact absurd hmore (lt_irrefl _)
  · have hslot : slot = x := by
      by_contra hne
      rw [order?_itemAdded, if_neg hne, ho] at ho'
      cases ho'
      exact lt_irrefl _ hmore
    subst hslot
    obtain rfl : o = p := Option.some.inj (ho.symm.trans hp)
    obtain ⟨q, hq, hclass, -⟩ := (hlists.2.1 c slot).1 hlisted
    obtain rfl : o = q := Option.some.inj (ho.symm.trans hq)
    have hin : (s.scheduler.classList o.cls).contains slot = true := by simpa [hclass] using hlisted
    show (s.scheduler.attemptCause || (s.scheduler.classList o.cls).contains slot) = true
    rw [hin, Bool.or_true]
  · rw [order?_committed] at ho'
    split at ho'
    · next hslot =>
      obtain ⟨q, hq, rfl⟩ := Option.map_eq_some_iff.1 ho'
      rw [← hslot, ho] at hq
      cases hq
      exact absurd hmore (lt_irrefl _)
    · rw [Option.some.inj (ho.symm.trans ho')] at hmore
      exact absurd hmore (lt_irrefl _)

end

/-! ## What a request does -/

/-- R35: orders join or leave the class lists, a selection goes, copies are remade and items are added, and an attempt is
called for exactly where one of this is so. -/
def Fair (s u : State) : Prop :=
  u.scheduler.attemptCause = true ↔ s.scheduler.attemptCause = true ∨ (∃ k, u.scheduler.classList k ≠ s.scheduler.classList k)
    ∨ (s.scheduler.selection.isSome = true ∧ u.scheduler.selection = none) ∨ Remade s u ∨ Enlarged s u

section
variable {s u : State}

theorem Fair.of_calls (h : Calls s u) (hlarger : Enlarged s u → u.scheduler.attemptCause = true) : Fair s u := by
  obtain ⟨-, -, hcause⟩ := h
  refine ⟨fun h => ?_, fun h => ?_⟩
  · have := hcause.1 h
    tauto
  · rcases h with h | h | h | h | h
    · exact hcause.2 (.inl h)
    · exact hcause.2 (.inr (.inl h))
    · exact hcause.2 (.inr (.inr (.inl h)))
    · exact hcause.2 (.inr (.inr (.inr h)))
    · exact hlarger h

/-- R32: an order that joins a class list calls for an attempt. -/
theorem Fair.of_joining (hcause : u.scheduler.attemptCause = true) (k : OrderClass)
    (hk : u.scheduler.classList k ≠ s.scheduler.classList k) : Fair s u := ⟨fun _ => .inr (.inl ⟨k, hk⟩), fun _ => hcause⟩

theorem classList_append_ne (sch : Scheduler) (c : OrderClass) (slot : Nat) :
    (sch.append c slot).classList c ≠ sch.classList c := by
  have hne (l : List Nat) : l ++ [slot] ≠ l := by simp
  cases c <;> simp only [Scheduler.append, Scheduler.classList, if_pos] <;> exact hne _

theorem fair_enlist {slot : Nat} {o : Order} (ho : u.order? slot = some o) (hsch : u.scheduler = s.scheduler) :
    Fair s (u.enlist slot) := by
  have hjoined : (u.enlist slot).scheduler = s.scheduler.append o.cls slot := by
    rw [State.enlist, ho, ← hsch]
  refine .of_joining (k := o.cls) ?_ ?_
  · rw [hjoined]
    rfl
  · rw [hjoined]
    exact classList_append_ne _ _ _

theorem withOrder_cases {P : State × Reply → Prop} {ticket : Word16} {serve : Nat → Order → State × Reply}
    (hrefuse : ∀ status, P (refuse s status)) (h : ∀ slot o, s.order? slot = some o → P (serve slot o)) :
    P (withOrder s ticket serve) := by
  unfold withOrder
  split
  · exact hrefuse _
  · split
    · exact hrefuse _
    · split
      · exact hrefuse _
      · next o ho => exact h _ o ho

theorem quiet_withOrder {ticket : Word16} {serve : Nat → Order → State × Reply}
    (h : ∀ slot o, s.order? slot = some o → Quiet s (serve slot o).1) : Quiet s (withOrder s ticket serve).1 :=
  withOrder_cases (P := fun r => Quiet s r.1) (fun _ => .refl s) h

theorem quiet_withAmendment {ticket : Word16} {serve : Nat → Order → Amendment → State × Reply}
    (h : ∀ slot o a, s.order? slot = some o → Quiet s (serve slot o a).1) : Quiet s (withAmendment s ticket serve).1 := by
  refine quiet_withOrder fun slot o ho => ?_
  split
  · split
    · exact h slot o _ ho
    · exact .refl s
  · exact .refl s

end

/-- The requests that may remake a copy, add an item, enlist an order, or call for an attempt of themselves. -/
def mayCall : Instr → Bool
  | .addItem _ _ _ _ _ _ _ _ _ | .submit _ _ | .release _ _ | .loadRoll _ _ _ _ _ | .magazineSwitched _ _ | .cut _
  | .webCleared _ => true
  | _ => false

theorem quiet_committed (s : State) (slot : Nat) (a : Amendment) : Quiet s (committed s slot a) := by
  refine ⟨.refl _, fun r j hj => ?_⟩
  rw [item_committed] at hj
  split at hj
  · obtain ⟨i, hi, rfl⟩ := Option.map_eq_some_iff.1 hj
    exact ⟨i, hi, rfl⟩
  · exact ⟨j, hj, rfl⟩

theorem quiet_collected (s : State) (slot : Nat) (p : PriceUnit) : Quiet s (((repriced s p).releaseBins slot).freeRecord slot) :=
  .trans (.trans (t := repriced s p) (.of_same rfl rfl) (quiet_releaseBins _ slot)) (quiet_freeRecord _ slot)

theorem quiet_rescheduled {s : State} {sch : Scheduler} (h : Retires False s.scheduler sch) (voids : Prop) [Decidable voids] :
    Quiet s (rescheduled s sch voids) := by
  have hsch : Quiet s { s with scheduler := sch } := .of_items h rfl
  unfold rescheduled
  split
  · exact hsch.trans (quiet_voidSelection _)
  · exact hsch

theorem quiet_clearCause (s : State) (link : Link) (c : Cause) : Quiet s (s.clearCause link c) := by
  have hflag (slot : Nat) : Quiet s (s.modifyOrder slot c.clearFlag) := .of_same rfl rfl
  unfold State.clearCause
  split
  case h_4 =>
    split
    · exact .trans (hflag _) (quiet_freeRecord _ _)
    · exact .refl s
  case h_5 => exact .of_same rfl rfl
  case h_1 | h_2 | h_3 =>
    split
    · exact hflag _
    · exact .refl s
  all_goals exact .refl s

theorem quiet_serveUnloadRoll (s : State) (magazine : Byte) : Quiet s (serveUnloadRoll magazine s).1 := by
  have hunloaded (m : Magazine) : Retires False s.scheduler (rollUnloaded s.scheduler m) :=
    .same (fun c => by cases m <;> cases c <;> rfl) (by cases m <;> rfl) (by cases m <;> rfl)
  cases hm : Magazine.ofByte? magazine with
  | none =>
    rw [show serveUnloadRoll magazine s = refuse s .malformed by simp [serveUnloadRoll, hm]]
    exact .refl s
  | some m =>
    by_cases hbusy : s.scheduler.active = some m ∧ s.exposing = true
    · rw [serveUnloadRoll_wrongState hm hbusy.1 hbusy.2]
      exact .refl s
    · rw [serveUnloadRoll_taken hm (by rw [← Bool.not_eq_true]; exact not_and_or.1 hbusy)]
      exact quiet_rescheduled (hunloaded m) _

theorem quiet_serve {i : Instr} (h : mayCall i = false) (s : State) : Quiet s (serveRequest i s).1 := by
  have hrepriced (p : PriceUnit) : Quiet s (repriced s p) := .of_same rfl rfl
  cases i
  case hold =>
    refine quiet_withOrder fun slot o _ => ?_
    split
    · exact .refl s
    · exact .trans (.trans (t := s.modifyOrder slot fun o => { o with state := .held }) (.of_same rfl rfl)
        (quiet_delist _ slot)) (quiet_voidSelectionOf _ slot)
  case cancel =>
    refine quiet_withOrder fun slot o _ => ?_
    split
    · exact quiet_freeRecord s slot
    · exact .refl s
    all_goals exact .trans (hrepriced _) (quiet_withdraw _ slot _ _)
  case collect =>
    refine quiet_withOrder fun slot o _ => ?_
    split
    · exact .refl s
    · split
      · exact .refl s
      · exact quiet_collected s slot _
  case collectPartial =>
    refine quiet_withOrder fun slot o _ => ?_
    split
    · exact .refl s
    · split
      · exact .refl s
      · split
        · exact quiet_collected s slot _
        · exact .trans (hrepriced _) (quiet_withdraw _ slot _ _)
  case amendSet =>
    refine quiet_withAmendment fun slot o a _ => ?_
    split
    · exact .refl s
    · exact hrepriced _
  case amendCommit => exact quiet_withAmendment fun slot o a _ => quiet_committed s slot a
  case amendDrop => exact quiet_withAmendment fun slot o a _ => hrepriced _
  case readItem | readPrice | amendOpen | readOrder =>
    refine quiet_withOrder fun slot o _ => ?_
    (repeat' split) <;> exact .of_same rfl rfl
  case unloadRoll magazine => exact quiet_serveUnloadRoll s magazine
  case densityReset => exact .trans (.of_frame (onlyChanges_densityCleared s) (by decide)) (quiet_voidSelection (densityCleared s))
  case setWeb => exact .of_items (.same (fun c => by cases c <;> rfl) rfl rfl) rfl
  case transport =>
    dsimp only [serveRequest, serveTransport]
    split
    · exact .of_frame (onlyChanges_transportRun s) (by decide)
    · exact .of_frame (onlyChanges_transportStop s) (by decide)
    · exact .refl s
  case readAttention link =>
    dsimp only [serveRequest, serveReadAttention]
    split
    · exact .refl s
    · exact quiet_clearCause s link _
  case openOrder | writeSize | readSize | patchReading | headFault | headReady | binEmptied | setBin | readWeb | writeTariff
      | closeDay | readBin | setMask =>
    dsimp only [serveRequest, serveOpenOrder, serveWriteSize, serveReadSize, servePatchReading, serveHeadFault,
      serveHeadReady, serveBinEmptied, serveSetBin, serveReadWeb, serveWriteTariff, serveCloseDay, serveReadBin, serveSetMask]
    (repeat' split) <;> exact .of_same rfl rfl
  case setWindows | setRemakeLimit | trayEmptied | setDensity | readMagazine | lockTariff | readClosedDay | readTotals
      | setUncollectedTime => exact .of_same rfl rfl
  case addItem | submit | release | loadRoll | magazineSwitched | cut | webCleared => cases h
  all_goals exact .refl s

section
variable {s : State} {slot : Nat} {o : Order}

theorem fair_itemAdded {r : Nat} (i : Item) (ho : s.order? slot = some o)
    (hfree : Table.lowestFree s.orderTable.items 512 = some r)
    (hlarger : Enlarged s (itemAdded s slot o.cls r i) → (itemAdded s slot o.cls r i).scheduler.attemptCause = true) :
    Fair s (itemAdded s slot o.cls r i) := by
  refine ⟨fun h => ?_, fun h => ?_⟩
  · change (s.scheduler.attemptCause || (s.scheduler.classList o.cls).contains slot) = true at h
    rw [Bool.or_eq_true, List.contains_iff_mem] at h
    refine h.imp_right fun hlisted => .inr (.inr (.inr ⟨o.cls, slot, o, { o with items := o.items ++ [r] }, hlisted, ho, ?_, ?_⟩))
    · rw [order?_itemAdded, if_pos rfl, ho]
      rfl
    · simp
  · rcases h with h | ⟨k, hk⟩ | ⟨hsome, hnone⟩ | ⟨k, i', j, hi, hj, hmore⟩ | h
    · show (s.scheduler.attemptCause || _) = true
      rw [h, Bool.true_or]
    · exact absurd (by cases k <;> rfl) hk
    · rw [show s.scheduler.selection = none from hnone] at hsome
      cases hsome
    · rw [item_itemAdded] at hj
      split at hj
      · next hk =>
        rw [hk, (lowestFree_spec hfree).2.1] at hi
        cases hi
      · rw [Option.some.inj (hi.symm.trans hj)] at hmore
        exact absurd hmore (lt_irrefl _)
    · exact hlarger h

/-- What a request leaves calls for an attempt as it must, if it does so for the orders that gain items. -/
def Served (s : State) (r : State × Reply) : Prop :=
  (Enlarged s r.1 → r.1.scheduler.attemptCause = true) → Fair s r.1

theorem served_of_quiet {r : State × Reply} (h : Quiet s r.1) : Served s r := .of_calls h.calls

theorem served_refuse (status : Status) : Served s (refuse s status) := served_of_quiet (.refl s)

theorem served_addItem (ticket : Word16) (handle : Word32) (ws hs : Word16) (sizeIndex surface mode copies : Byte) :
    Served s (serveAddItem ticket handle ws hs sizeIndex surface mode copies s) := by
  refine withOrder_cases served_refuse fun slot o ho => ?_
  split
  · exact served_refuse _
  · split
    · exact served_refuse _
    · split
      · next hfree =>
        split
        · exact served_refuse _
        · exact fair_itemAdded _ ho hfree
      · exact served_refuse _
      · exact served_refuse _

theorem served_submit (ticket : Word16) : Served s (serveSubmit ticket s) := by
  refine withOrder_cases served_refuse fun slot o ho => ?_
  split
  · exact served_refuse _
  · dsimp only
    generalize s.orderTable.windows.ofClass o.cls * 1000 = ms
    split
    · rw [expireWindow_of_ready (o := { o with state := .ready, eligibleAt := some (later s.timeBase ms) })
        (by simp [order?_modifyOrder, ho]) rfl]
      exact fun _ => fair_enlist (o := { o with state := .ready, eligibleAt := some (later s.timeBase ms), windowEnded := true })
        (by simp [order?_modifyOrder, ho]) rfl
    · exact served_of_quiet (.of_same rfl rfl)

theorem served_release (ticket : Word16) : Served s (serveRelease ticket s) := by
  refine withOrder_cases served_refuse fun slot o ho => ?_
  split
  · exact served_refuse _
  · dsimp only
    generalize (if o.started = true then OrderState.inPrint else OrderState.ready) = state
    split
    · exact fun _ => fair_enlist (o := { o with state := state }) (by simp [order?_modifyOrder, ho]) rfl
    · exact served_of_quiet (.of_same rfl rfl)

theorem served_webCleared (hpool : PoolAndGross s) (hcounted : CopiesCounted s) : Served s (serveWebCleared s) := by
  unfold serveWebCleared
  split
  · exact served_refuse _
  · exact .of_calls (.between (.refl _) rfl
      (calls_clearMap hpool (copiesOnWeb_of_counted hcounted hpool (List.Sublist.refl _))) (.refl _) rfl)

/-- The requests but for LOAD ROLL and MAGAZINE SWITCHED call for an attempt by what they do to orders, items and the
selection. -/
theorem served_request {i : Instr} {link : Link} {c : RequestCode} {fields : List Byte}
    (h : i.request = some (link, c, fields)) (hc : c ≠ .loadRoll ∧ c ≠ .magazineSwitched) (hpool : PoolAndGross s)
    (hcounted : CopiesCounted s) : Served s (serveRequest i s) := by
  cases hcalls : mayCall i with
  | false => exact served_of_quiet (quiet_serve hcalls s)
  | true =>
    cases i
    case addItem => exact served_addItem _ _ _ _ _ _ _ _
    case submit => exact served_submit _
    case release => exact served_release _
    case cut => exact .of_calls (calls_cutTaken hpool hcounted)
    case webCleared => exact served_webCleared hpool hcounted
    case loadRoll => cases h; exact absurd rfl hc.1
    case magazineSwitched => cases h; exact absurd rfl hc.2
    all_goals cases hcalls

/-- R35: LOAD ROLL and MAGAZINE SWITCHED, where they are taken, call for an attempt. -/
theorem called_of_roll {i : Instr} {link : Link} {c : RequestCode} {fields : List Byte}
    (h : i.request = some (link, c, fields)) (hc : c = .loadRoll ∨ c = .magazineSwitched) :
    (∃ status, status ≠ .ok ∧ status ≠ .clamped ∧ serveRequest i s = refuse s status)
      ∨ (serveRequest i s).1.scheduler.attemptCause = true := by
  have hvoided (t : State) (ht : t.scheduler.attemptCause = true) : t.voidSelection.scheduler.attemptCause = true := by
    unfold State.voidSelection
    split
    · rfl
    · exact ht
  rcases hc with rfl | rfl <;> cases i <;> cases h
  · dsimp only [serveRequest, serveLoadRoll]
    split
    · split
      · exact .inl ⟨_, by decide, by decide, rfl⟩
      · split
        · exact .inl ⟨_, by decide, by decide, rfl⟩
        · right
          split
          · exact hvoided _ rfl
          · rfl
    · exact .inl ⟨_, by decide, by decide, rfl⟩
  · dsimp only [serveRequest, serveMagazineSwitched]
    split
    · split
      · exact .inl ⟨_, by decide, by decide, rfl⟩
      · exact .inr (hvoided _ rfl)
    · exact .inl ⟨_, by decide, by decide, rfl⟩

end

end Sys2Proof.Causes

/-! What calls for a new attempt (R35): every command. -/

namespace Sys2Proof.Causes

open Sys2Proof.Machine Sys2Proof.Laws Sys2Proof.OrdersAndItems Sys2Proof.Magazines Sys2Proof.Sorting Sys2Proof.Till
open Sys2Proof.Steps Sys2Proof.WebMap Sys2Proof.Pool Sys2Proof.Registry Sys2Proof.Controls Sys2Proof.Ports
open Sys2Proof.Attempts Sys2Proof.IdleStrobes

/-! ## The causes a command brings about itself, and those noted after it (log entry 20) -/

/-- R35: LOAD ROLL or MAGAZINE SWITCHED is taken. -/
def RollTaken (c : Instr) (s t : State) : Prop :=
  ∃ code fields status out, c.request = some (.engine, code, fields) ∧ (code = .loadRoll ∨ code = .magazineSwitched)
    ∧ Taking s .engine code fields ∧ Replied t .engine status out ∧ (status = .ok ∨ status = .clamped)

/-- R35: what a command does that calls for an attempt, but for the end reserve, the patch due and the start conditions. -/
def BroughtAbout (c : Instr) (s t : State) : Prop :=
  (∃ k, t.scheduler.classList k ≠ s.scheduler.classList k) ∨ Remade s t ∨ Enlarged s t ∨ RollTaken c s t
    ∨ (s.scheduler.selection.isSome = true ∧ t.scheduler.selection = none ∧ ¬ (c = .lineStrobe ∧ SelectionTested s true))
    ∨ (c = .lineProduced ∧ s.resampler.work.isSome = true ∧ t.resampler.work = none)

/-- R35: after what a command does, and before its comparisons, an attempt is called for exactly where the command brings a
cause about or one stood that it has not used up. -/
def Accounts (c : Instr) (s u : State) : Prop :=
  u.scheduler.attemptCause = true ↔
    BroughtAbout c s u ∨ (s.scheduler.attemptCause = true ∧ ¬ (c = .selectionAttempt ∧ AttemptMade s))

section
variable {c : Instr} {s u : State}

theorem calledFor_noteCauses : AttemptCalledFor c s (s.noteCauses u) ↔ BroughtAbout c s u
    ∨ (¬ StartConditions s ∧ StartConditions u) ∨ (¬ PatchDue s ∧ PatchDue u)
    ∨ u.scheduler.endReserve ≠ s.scheduler.endReserve := by
  have hlists : (∃ k, (s.noteCauses u).scheduler.classList k ≠ s.scheduler.classList k)
      ↔ ∃ k, u.scheduler.classList k ≠ s.scheduler.classList k := by simp only [classList_noteCauses]
  have hstart : StartConditions (s.noteCauses u) ↔ StartConditions u := Iff.rfl
  have hdue : PatchDue (s.noteCauses u) ↔ PatchDue u := Iff.rfl
  unfold AttemptCalledFor BroughtAbout
  rw [hlists, hstart, hdue]
  show _ ∨ Remade s u ∨ Enlarged s u ∨ RollTaken c s u ∨ u.scheduler.endReserve ≠ s.scheduler.endReserve ∨ _ ∨ _ ∨ _ ∨ _ ↔ _
  constructor
  · rintro (h | h | h | h | h | h | h | h | h)
    · exact .inl (.inl h)
    · exact .inl (.inr (.inl h))
    · exact .inl (.inr (.inr (.inl h)))
    · exact .inl (.inr (.inr (.inr (.inl h))))
    · exact .inr (.inr (.inr h))
    · exact .inr (.inr (.inl h))
    · exact .inl (.inr (.inr (.inr (.inr (.inl h)))))
    · exact .inr (.inl h)
    · exact .inl (.inr (.inr (.inr (.inr (.inr h)))))
  · rintro ((h | h | h | h | h | h) | h | h | h)
    · exact .inl h
    · exact .inr (.inl h)
    · exact .inr (.inr (.inl h))
    · exact .inr (.inr (.inr (.inl h)))
    · exact .inr (.inr (.inr (.inr (.inr (.inr (.inl h))))))
    · exact .inr (.inr (.inr (.inr (.inr (.inr (.inr (.inr h)))))))
    · exact .inr (.inr (.inr (.inr (.inr (.inr (.inr (.inl h)))))))
    · exact .inr (.inr (.inr (.inr (.inr (.inl h)))))
    · exact .inr (.inr (.inr (.inr (.inl h))))

/-- R35, log entry 20: the causes that a command brings about and those that its comparisons find. -/
theorem noted_of_accounts (h : Accounts c s u) : (s.noteCauses u).scheduler.attemptCause = true ↔
    AttemptCalledFor c s (s.noteCauses u)
      ∨ (s.scheduler.attemptCause = true ∧ ¬ (c = .selectionAttempt ∧ AttemptMade s)) := by
  have hcame (p q : Bool) : (!p && q) = true ↔ ¬ p = true ∧ q = true := by cases p <;> simp
  rw [attemptCause_noteCauses, calledFor_noteCauses]
  unfold Accounts at h
  simp only [Bool.or_eq_true, hcame, startConditions_iff, patchDue_iff, bne_iff_ne, ne_comm (a := s.scheduler.endReserve), h]
  simp only [or_assoc, or_left_comm, or_comm]

/-- A command that changes nothing that is compared has no cause noted. -/
theorem noteCauses_of_same (hstart : u.startConditions = s.startConditions) (hdue : u.patchDue = s.patchDue)
    (hreserve : u.scheduler.endReserve = s.scheduler.endReserve) : s.noteCauses u = u := by
  unfold State.noteCauses
  rw [hstart, hdue, hreserve]
  simp

/-- The commands that call for an attempt by what they do to orders, items and the selection only. -/
theorem accounts_of_fair (hstrobe : c ≠ .lineStrobe) (hline : c ≠ .lineProduced) (hattempt : c ≠ .selectionAttempt)
    (hroll : ¬ RollTaken c s u) (h : Fair s u) : Accounts c s u := by
  unfold Fair at h
  unfold Accounts BroughtAbout
  simp only [hstrobe, hline, hattempt, hroll, false_and, not_false_iff, and_true, false_or, or_false]
  rw [h]
  tauto

theorem fair_of_change (hcalls : Calls s u) (h : Change s u) (hlists : ListsAgree s) : Fair s u :=
  .of_calls hcalls (called_of_enlarged h hlists)

theorem fair_refl (s : State) : Fair s s :=
  .of_calls (Quiet.refl s).calls fun h => absurd h (not_enlarged_of_kept (ordersKept_of_moves (.refl s)))

/-! ## Requests -/

theorem not_rollTaken_of_refused {link : Link} {status : Status} (hok : status ≠ .ok) (hclamped : status ≠ .clamped)
    {code : RequestCode} {fields : List Byte} (hc : c.request = some (link, code, fields)) :
    ¬ RollTaken c s (s.setPort link (.reply (Reply.refused status).bytes 0)) := by
  rintro ⟨code', fields', status', out, hc', -, -, hreplied, hstatus⟩
  obtain ⟨rfl, -⟩ : link = .engine ∧ True := ⟨by rw [hc] at hc'; cases hc'; rfl, trivial⟩
  have hreplied : Replied (s.answered .engine (refuse s status)) .engine status' out := hreplied
  obtain ⟨hsame, -⟩ := answered_replied_iff.1 hreplied
  rcases hstatus with rfl | rfl
  · exact hok hsame
  · exact hclamped hsame

/-- R35: what a request does. -/
theorem exec_request_accounts {link : Link} {code : RequestCode} {fields : List Byte} {t : State}
    (hc : c.request = some (link, code, fields)) (hlists : ListsAgree s) (hpool : PoolAndGross s) (hcounted : CopiesCounted s)
    (hexec : exec c s = .next t) : ∃ u, t = s.noteCauses u ∧ Accounts c s u := by
  have hstrobe : c ≠ .lineStrobe := by rintro rfl; cases hc
  have hline : c ≠ .lineProduced := by rintro rfl; cases hc
  have hattempt : c ≠ .selectionAttempt := by rintro rfl; cases hc
  rw [exec_of_request hc, takeRequest] at hexec
  cases hexec
  split
  · next htaking =>
    refine ⟨_, rfl, ?_⟩
    have hrefused {status : Status} (hok : status ≠ .ok) (hclamped : status ≠ .clamped) :
        Accounts c s (s.setPort link (.reply (Reply.refused status).bytes 0)) :=
      accounts_of_fair hstrobe hline hattempt (not_rollTaken_of_refused hok hclamped hc) (fair_refl s)
    obtain ⟨status, hok, hclamped, hrefuse⟩ | ⟨code', hcode, hbelongs, hlen, hserve⟩ := answerFrame_cases (link := link)
      (code := code.toByte) (len := fields.length) (serve := serveRequest c) (s := s)
    · rw [hrefuse]
      exact hrefused hok hclamped
    · obtain rfl : code = code' := by simpa using hcode
      rw [hserve]
      have hanswers := serveRequest_answers hc (s := s) fun _ => hlen
      by_cases hroll : code ≠ .loadRoll ∧ code ≠ .magazineSwitched
      · refine accounts_of_fair hstrobe hline hattempt ?_ ?_
        · rintro ⟨code', fields', status, out, hc', hcode', -⟩
          rw [hc] at hc'
          cases hc'
          tauto
        · have hfair := served_request hc hroll hpool hcounted fun henlarged => by
            obtain ⟨status, -, -, hr⟩ | ⟨u, clamped, bytes, hr, -, hchange⟩ := hanswers
            · rw [hr] at henlarged
              exact absurd henlarged (not_enlarged_of_kept (ordersKept_of_moves (.refl s)))
            · rw [hr] at henlarged ⊢
              exact called_of_enlarged hchange hlists henlarged
          exact hfair
      · have hroll : code = .loadRoll ∨ code = .magazineSwitched := by tauto
        obtain ⟨status, hok, hclamped, hr⟩ | hcalled := called_of_roll hc hroll (s := s)
        · rw [hr]
          exact hrefused hok hclamped
        · obtain ⟨status, hok, hclamped, hr⟩ | ⟨u, clamped, bytes, hr, -, -⟩ := hanswers
          · rw [hr]
            exact hrefused hok hclamped
          · refine ⟨fun _ => .inl (.inr (.inr (.inr (.inl ?_)))), fun _ => hcalled⟩
            have hlink : link = .engine := by rcases hroll with rfl | rfl <;> cases link <;> simp_all [RequestCode.belongs]
            subst hlink
            refine ⟨code, fields, _, bytes, hc, hroll, htaking, ?_, taken_status clamped bytes⟩
            have hreplied : Replied (s.answered .engine (u, .taken clamped bytes)) .engine
                (Reply.taken clamped bytes).status bytes := answered_replied_iff.2 ⟨rfl, rfl⟩
            rw [hr]
            exact hreplied
  · next hidle =>
    refine ⟨s, (noteCauses_of_same rfl rfl rfl).symm, accounts_of_fair hstrobe hline hattempt ?_ (fair_refl s)⟩
    rintro ⟨code', fields', status, out, hc', -, htaking, -⟩
    rw [hc] at hc'
    cases hc'
    exact hidle htaking

/-! ## Strobes, lines and attempts -/

theorem itemsKept_beginSelection (s : State) : ItemsKept s s.beginSelection := by
  unfold State.beginSelection
  split
  · exact itemsKept_of_same rfl
  · exact itemsKept_modifyItem remakesUsed_expose rfl
  · exact itemsKept_of_same rfl

theorem selection_beginSelection (s : State) : s.beginSelection.scheduler.selection = none := by
  unfold State.beginSelection
  split
  · rfl
  · rfl
  · next h => exact h

/-- What a strobe does before a selection begins or waits. -/
def strobeOpened (s : State) : State :=
  let t := if s.dropZeroLeader.startVerdict = .misfit then s.dropZeroLeader.voidSelection else s.dropZeroLeader
  { t with web := { t.web with odometer := t.web.odometer + 1, mark := false } }

theorem quiet_strobeOpened (s : State) : Quiet s (strobeOpened s) := by
  have hdropped : Quiet s s.dropZeroLeader := .of_items (.same (fun c => by cases c <;> rfl) rfl rfl) rfl
  have hodometer (t : State) : Quiet t { t with web := { t.web with odometer := t.web.odometer + 1, mark := false } } :=
    .of_same rfl rfl
  unfold strobeOpened
  dsimp only
  split
  · exact (hdropped.trans (quiet_voidSelection _)).trans (hodometer _)
  · exact hdropped.trans (hodometer _)

/-- What a strobe does after the paper is placed. -/
theorem quiet_strobe_placed (s : State) : Quiet (strobePlaced s) s.strobe :=
  ((Quiet.of_frame (onlyChanges_exposeStrobe _) (by decide)).trans
    (.of_frame (onlyChanges_rolled _ s.web.map.isEmpty) (by decide))).trans (quiet_detectMissedCuts (strobeLined s))

/-- R42, R43: no selection begins: the strobe calls for an attempt where it voids one. -/
theorem quiet_strobe (hverdict : s.dropZeroLeader.startVerdict ≠ .begins) : Quiet s s.strobe := by
  refine .trans (.trans (quiet_strobeOpened s) (?_ : Quiet (strobeOpened s) (strobePlaced s))) (quiet_strobe_placed s)
  show Quiet (strobeOpened s) ((strobeOpened s).placeStrobe s.dropZeroLeader.startVerdict)
  rw [State.placeStrobe, if_neg hverdict]
  split
  · exact .of_items (.same (fun c => by cases c <;> rfl) rfl rfl) rfl
  · exact .of_same rfl rfl

/-- R42: a selection begins: it goes without a cause, and only orders that leave their list call for an attempt. -/
theorem begun_strobe (hverdict : s.dropZeroLeader.startVerdict = .begins) :
    (s.strobe.scheduler.attemptCause = true ↔ s.scheduler.attemptCause = true
      ∨ ∃ k, s.strobe.scheduler.classList k ≠ s.scheduler.classList k) ∧ ItemsKept s s.strobe := by
  have hopened : strobeOpened s = { s.dropZeroLeader with web := { s.web with odometer := s.web.odometer + 1, mark := false } } := by
    rw [strobeOpened, if_neg (by rw [hverdict]; decide)] <;> rfl
  have hplaced : strobePlaced s = (strobeOpened s).beginSelection := by
    show (strobeOpened s).placeStrobe _ = _
    rw [State.placeStrobe, if_pos hverdict]
  obtain ⟨⟨-, -, hafter⟩, hitems⟩ := quiet_strobe_placed s
  have hbegun := onlyChanges_beginSelection (strobeOpened s)
  have hlists (k : OrderClass) : (strobePlaced s).scheduler.classList k = s.scheduler.classList k := by
    rw [hplaced, classList_of_same (hbegun .classLists (by decide)) k, hopened]
    cases k <;> rfl
  have hcause : (strobePlaced s).scheduler.attemptCause = s.scheduler.attemptCause := by
    rw [hplaced, hbegun .attemptCause (by decide), hopened]
    rfl
  have hselection : (strobePlaced s).scheduler.selection = none := by rw [hplaced, selection_beginSelection]
  refine ⟨?_, ?_⟩
  · rw [hafter, hcause, hselection]
    simp [hlists]
  · intro r j hj
    obtain ⟨i, hi, hij⟩ := hitems r j hj
    rw [hplaced] at hi
    obtain ⟨i', hi', hij'⟩ := itemsKept_beginSelection _ r i hi
    rw [hopened] at hi'
    exact ⟨i', hi', hij.trans hij'⟩

/-- R42, R35: a strobe calls for an attempt where it voids the selection, but not where it begins it. -/
theorem accounts_strobe (s : State) : Accounts .lineStrobe s s.strobe := by
  have hroll : ¬ RollTaken .lineStrobe s s.strobe := by
    rintro ⟨code, fields, status, out, hc, -⟩
    cases hc
  have henlarged : ¬ Enlarged s s.strobe := not_enlarged_of_kept (ordersKept_of_moves (moves_strobe s))
  have hbegins : s.dropZeroLeader.startVerdict = .begins ↔ SelectionTested s true := startVerdict_eq_iff s true
  unfold Accounts BroughtAbout
  by_cases hverdict : s.dropZeroLeader.startVerdict = .begins
  · obtain ⟨hcause, hitems⟩ := begun_strobe hverdict
    rw [hcause]
    simp [not_remade_of_kept hitems, henlarged, hroll, hbegins.1 hverdict, or_comm]
  · have hquiet := quiet_strobe hverdict
    obtain ⟨-, -, hcause⟩ := hquiet.1
    rw [hcause]
    simp [not_remade_of_kept hquiet.2, henlarged, hroll, mt hbegins.2 hverdict]
    tauto

/-- R35, R56: a line produced calls for an attempt where it is the last of its work. -/
theorem accounts_lineProduced {w : Work} {codes : Codes} (hproducible : s.producible = some (w, codes)) :
    Accounts .lineProduced s (State.advanceWork { s with channel := s.channel.accept w codes } w) := by
  have hwork : s.resampler.work.isSome = true := by
    unfold State.producible at hproducible
    split at hproducible
    · next h => simp [h]
    · cases hproducible
  obtain ⟨u, hu⟩ : ∃ u : State, u = { s with channel := s.channel.accept w codes } := ⟨_, rfl⟩
  have hframe := onlyChanges_advanceWork u w
  have hlists (k : OrderClass) : (u.advanceWork w).scheduler.classList k = s.scheduler.classList k := by
    rw [classList_of_same (hframe .classLists (by decide)) k, hu]
  have hselection : (u.advanceWork w).scheduler.selection = s.scheduler.selection := by
    rw [hframe .selection (by decide), hu]
  have hvoided : ¬ (s.scheduler.selection.isSome = true ∧ s.scheduler.selection = none) := by
    rintro ⟨hsome, hnone⟩
    rw [hnone] at hsome
    cases hsome
  have hremade : ¬ Remade s (u.advanceWork w) :=
    not_remade_of_kept (itemsKept_of_same ((hframe .items (by decide)).trans (by rw [hu])))
  have henlarged : ¬ Enlarged s (u.advanceWork w) := by
    refine not_enlarged_of_kept fun k o' ho' => ⟨o', ?_, rfl⟩
    unfold State.order? at ho' ⊢
    rwa [hframe .orders (by decide), hu] at ho'
  have hroll : ¬ RollTaken .lineProduced s (u.advanceWork w) := by
    rintro ⟨code, fields, status, out, hc, -⟩
    cases hc
  have hended : (u.advanceWork w).scheduler.attemptCause = true ↔
      s.scheduler.attemptCause = true ∨ (u.advanceWork w).resampler.work = none := by
    unfold State.advanceWork
    split
    · simp [Resampler.idle]
    · simp [hu]
  rw [← hu]
  unfold Accounts BroughtAbout
  simp only [hlists, ne_eq, not_true_eq_false, exists_false, hremade, henlarged, hroll, hselection, hended, hwork,
    false_or, true_and, reduceCtorEq, false_and, not_false_iff, and_true, hvoided, or_comm]

/-- R35: an attempt made uses up what called for it. -/
theorem accounts_attempt (active : Magazine) (hmade : AttemptMade s) : Accounts .selectionAttempt s (s.attempt active) := by
  have hframe := onlyChanges_attempt s active
  have hselection : s.scheduler.selection = none := hmade.1
  have hused : (s.attempt active).scheduler.attemptCause = false := by
    unfold State.attempt
    dsimp only
    split
    · simp [State.selectPatch]
    · exact onlyChanges_scanClasses _ _ _ .attemptCause (by decide)
  have hremade : ¬ Remade s (s.attempt active) := not_remade_of_kept (itemsKept_of_same (hframe .items (by decide)))
  have henlarged : ¬ Enlarged s (s.attempt active) := not_enlarged_of_kept (ordersKept_of_moves (moves_attempt s active))
  have hroll : ¬ RollTaken .selectionAttempt s (s.attempt active) := by
    rintro ⟨code, fields, status, out, hc, -⟩
    cases hc
  unfold Accounts BroughtAbout
  simp [hused, hselection, hremade, henlarged, hroll, hmade, classList_of_same (hframe .classLists (by decide))]

/-! ## The other commands -/

theorem fair_windowExpired {slot : Nat} {o : Order} {e : Word32} (ho : s.order? slot = some o) (he : o.eligibleAt = some e)
    (hrunning : o.windowEnded = false) (hlists : ListsAgree s) : Fair s (s.expireWindow slot) := by
  by_cases hready : o.state = .ready
  · rw [expireWindow_of_ready ho hready]
    exact fair_enlist (o := { o with windowEnded := true }) (by simp [order?_modifyOrder, ho]) rfl
  · refine fair_of_change (Quiet.calls ?_) (.windowExpired ho he hrunning) hlists
    unfold State.expireWindow
    rw [ho]
    dsimp only
    rw [if_neg hready]
    exact .of_same rfl rfl

theorem fair_of_quiet (hquiet : Quiet s u) (h : Change s u) (hlists : ListsAgree s) : Fair s u :=
  fair_of_change hquiet.calls h hlists

/-- R35: what a command does that is no request, no strobe, no line and no attempt. -/
theorem exec_other_fair {t : State} (hc : c.request = none) (hpower : c ≠ .powerOnReset)
    (hbyte : ∀ link byte, c ≠ .linkByteComplete link byte) (hstrobe : c ≠ .lineStrobe) (hline : c ≠ .lineProduced)
    (hattempt : c ≠ .selectionAttempt) (hlists : ListsAgree s) (hpool : PoolAndGross s) (hcounted : CopiesCounted s)
    (hexec : exec c s = .next t) : ∃ u, t = s.noteCauses u ∧ Fair s u := by
  have hidle : ∃ u, s = s.noteCauses u ∧ Fair s u := ⟨s, (noteCauses_of_same rfl rfl rfl).symm, fair_refl s⟩
  have hport (link : Link) (p : Port) : ∃ u, s.setPort link p = s.noteCauses u ∧ Fair s u :=
    ⟨s.setPort link p, (noteCauses_of_same rfl rfl rfl).symm, fair_refl s⟩
  have hfetch (fetch : RasterFetch) : Fair s { s with fetch := fetch } := fair_refl s
  have hfault (fetch : RasterFetch) (f : Fetch) (cause : FaultCause) :
      Fair s (State.rasterFault { s with fetch := fetch } f cause) :=
    fair_of_quiet (.trans (.of_same rfl rfl) (quiet_rasterFault { s with fetch := fetch } f cause)) (.rasterFault fetch f cause)
      hlists
  cases c <;> cases hc
  case powerOnReset => exact absurd rfl hpower
  case linkByteComplete link byte => exact absurd rfl (hbyte link byte)
  case lineStrobe => exact absurd rfl hstrobe
  case lineProduced => exact absurd rfl hline
  case selectionAttempt => exact absurd rfl hattempt
  all_goals cases hexec
  case warmReset => exact ⟨_, rfl, fair_of_change (calls_warmReset hpool hcounted) .warmReset hlists⟩
  case selectAsserted link =>
    split
    · exact hport link _
    · exact hidle
  case selectReleased link => exact hport link _
  case unknownRequest link code len fields =>
    split
    · exact ⟨_, rfl, fair_refl s⟩
    · exact hidle
  case windowExpiry slot =>
    split
    · next o ho =>
      split
      · next e he =>
        split
        · next hdue =>
          simp only [Bool.and_eq_true, Bool.not_eq_true'] at hdue
          exact ⟨_, rfl, fair_windowExpired ho he hdue.2 hlists⟩
        · exact hidle
      · exact hidle
    · exact hidle
  case fetchTimeout =>
    split
    · next f e _ _ =>
      split
      · exact ⟨_, rfl, hfault s.fetch f .timeout⟩
      · exact hidle
    · exact hidle
  case stallFirstExpiry =>
    split
    · next hstage =>
      split
      · exact ⟨_, rfl, fair_of_quiet (.of_frame (onlyChanges_stallFirst s) (by decide)) (.stallFirst hstage) hlists⟩
      · exact hidle
    · exact hidle
  case stallSecondExpiry =>
    split
    · next hstage =>
      split
      · exact ⟨_, rfl, fair_of_quiet (quiet_stallSecond s) (.stallSecond hstage) hlists⟩
      · exact hidle
    · exact hidle
  case uncollectedExpiry bin =>
    split
    · split
      · split
        · exact ⟨_, rfl, fair_refl s⟩
        · exact hidle
      · exact hidle
    · exact hidle
  case rowFetch =>
    split
    · exact ⟨_, rfl, hfetch _⟩
    · exact ⟨_, rfl, hfetch _⟩
    · exact hidle
  case rowData tag pixels =>
    refine ⟨_, rfl, ?_⟩
    split
    · exact hfetch _
    · unfold State.takeRowData
      split
      · next f _ =>
        split
        · exact hfetch _
        · split
          · exact fair_of_quiet (.trans (t := s.served) (.of_same rfl rfl) (.of_frame (onlyChanges_placeRow s.served _) (by decide)))
              (.rowPlaced _ _) hlists
          · exact hfault _ f .wrongLength
      · exact hfetch _
  case rowFault tag reason =>
    refine ⟨_, rfl, ?_⟩
    unfold State.takeRowFault
    split
    · next f _ =>
      split
      · exact hfault _ f _
      · exact hfetch _
    · exact hfetch _
  case rasterFrameUnreadable =>
    split
    · exact ⟨_, rfl, hfetch _⟩
    · exact hidle
  case timeBaseTick => exact ⟨_, (noteCauses_of_same rfl rfl rfl).symm, fair_refl s⟩

end

end Sys2Proof.Causes

/-! An attempt without a fitting print, and what calls for a new attempt: O38. -/

namespace Sys2Proof.Causes

open Sys2Proof.Machine Sys2Proof.Laws Sys2Proof.OrdersAndItems Sys2Proof.Magazines Sys2Proof.Sorting Sys2Proof.Till
open Sys2Proof.Steps Sys2Proof.WebMap Sys2Proof.Pool Sys2Proof.Registry Sys2Proof.Controls Sys2Proof.Attempts

/-! ## An attempt without a fitting print (R39, R40, R50) -/

section
variable {s : State} {active : Magazine} (hactive : s.scheduler.active = some active) (hmade : AttemptMade s)
    (hno : NoPatchTaken s active)

/-- R39, R50: the magazine requested for the leading order of a class of which no order fits the active one. -/
def switchAsked (v : State) (slot : Nat) (m : Magazine) : State :=
  { v.markPaper slot none with scheduler := { (v.markPaper slot none).scheduler with switchRequested := some m } }

theorem onlyChanges_switchAsked (v : State) (slot : Nat) (m : Magazine) :
    OnlyChanges [.orders, .switchRequest] v (switchAsked v slot m) := by
  intro p hp
  cases p <;> simp_all [Same, State.port, switchAsked]

include hactive hmade hno

theorem attempt_requests {c : OrderClass} {slot n : Nat} {i : Item} {e : SizeEntry}
    (hpassed : ∀ h ∈ c.above, PassedOver s active h) (hnone : NoneFits s active (s.scheduler.classList c))
    (hleads : Leads s c slot n i e) (hfits : FitsPaper (s.scheduler.magazine active.other) s.scheduler.endReserve i e) :
    ∃ t, exec .selectionAttempt s = .next t ∧ t.scheduler.switchRequested = some active.other
      ∧ t.order? slot = (s.order? slot).map (fun o => { o with paperWait := none })
      ∧ LeadersMarked c.above [slot] s t ∧ OnlyChanges [.orders, .switchRequest, .attemptCause] s t := by
  obtain ⟨below, hclasses⟩ := classes_eq c
  have hscan := scanSame_attemptUsed s
  obtain ⟨v, hv⟩ : ∃ v, v = leadersMarked (attemptUsed s) c.above := ⟨_, rfl⟩
  have hvscan : ScanSame s v := hv ▸ hscan.trans (scanSame_leadersMarked _ _)
  have hunmarked : ∀ d ∈ c.above, ∀ m j f, ¬ Leads s d slot m j f := fun d hd m j f h => by
    obtain ⟨rfl, rfl⟩ := leads_unique hleads h
    exact (hpassed d hd).2 slot m i e h hfits
  have hexec : exec .selectionAttempt s = .next (s.noteCauses (switchAsked v slot active.other)) := by
    obtain ⟨hlists, hmagazines, hreserve, -⟩ := id hvscan
    have hnofit : v.firstFitting (v.scheduler.magazine active) (v.scheduler.classList c) = none := by
      rw [hlists]
      exact firstFitting_eq_none ((noneFits_congr hvscan _).2 hnone)
    rw [exec_attempt_scan hactive hmade hno, hclasses,
      scanClasses_passed _ fun d hd => (passedOver_congr hscan).2 (hpassed d hd), ← hv, State.scanClasses, hnofit,
      leads_iff.1 ((leads_congr hvscan).2 hleads)]
    dsimp only
    rw [if_pos ((fits_iff ..).2 (by rw [hmagazines, hreserve]; exact hfits))]
    rfl
  have horder (k : Nat) : (switchAsked v slot active.other).order? k =
      if k = slot then (v.order? k).map fun o => { o with paperWait := none } else v.order? k := order?_markPaper v slot none k
  refine ⟨_, hexec, rfl, ?_, ?_, onlyChanges_noted (onlyChanges_mono (onlyChanges_trans (onlyChanges_trans
    (onlyChanges_attemptUsed s) (hv ▸ onlyChanges_leadersMarked _ c.above : OnlyChanges [.orders] _ v))
    (onlyChanges_switchAsked v slot active.other)) (by decide)) (.inl (by decide))⟩
  · have hvslot : v.order? slot = s.order? slot := by
      rw [hv]
      exact (leadersMarked_marks (attemptUsed s) c.above).2 slot (by simp) fun d hd m j f h =>
        hunmarked d hd m j f ((leads_congr hscan).1 h)
    rw [← hvslot]
    exact (horder slot).trans (if_pos rfl)
  · refine leadersMarked_congr hscan (fun _ => rfl) (leadersMarked_except (fun d hd m j f h =>
      hunmarked d hd m j f ((leads_congr hscan).1 h)) fun k hk => ?_)
    rw [← hv]
    exact (horder k).trans (if_neg hk)

theorem attempt_passes (hpassed : ∀ c, PassedOver s active c) : ∃ t, exec .selectionAttempt s = .next t
    ∧ LeadersMarked [.express, .standard, .bulk] [] s t ∧ OnlyChanges [.orders, .attemptCause] s t := by
  have hscan := scanSame_attemptUsed s
  have hall := scanClasses_passed (s := attemptUsed s) (active := active) (above := [.express, .standard, .bulk]) []
    fun c _ => (passedOver_congr hscan).2 (hpassed c)
  rw [List.append_nil, State.scanClasses] at hall
  refine ⟨_, exec_attempt_scan hactive hmade hno, ?_, ?_⟩
  · rw [hall]
    exact leadersMarked_congr hscan (fun _ => rfl) (leadersMarked_marks (attemptUsed s) _)
  · rw [hall]
    exact onlyChanges_noted (onlyChanges_mono (onlyChanges_trans (onlyChanges_attemptUsed s) (onlyChanges_leadersMarked _ _))
      (by decide)) (.inl (by decide))

end

/-! ## What calls for an attempt (R35) -/

/-- A command that is no request and changes nothing accounts for what was called for before it. -/
theorem accounts_idle {c : Instr} {s : State} (hc : c.request = none) (hunmade : ¬ (c = .selectionAttempt ∧ AttemptMade s)) :
    Accounts c s s := by
  have hroll : ¬ RollTaken c s s := by
    rintro ⟨code, fields, status, out, hcode, -⟩
    rw [hc] at hcode
    cases hcode
  have hstands (α : Type) (x : Option α) : ¬ (x.isSome = true ∧ x = none) := by cases x <;> simp
  have hremade : ¬ Remade s s := not_remade_of_kept (itemsKept_of_same rfl)
  have henlarged : ¬ Enlarged s s := not_enlarged_of_kept (ordersKept_of_moves (.refl s))
  unfold Accounts BroughtAbout
  simp only [ne_eq, not_true_eq_false, exists_false, hremade, henlarged, hroll, hunmade, not_false_iff, and_true, false_or]
  refine ⟨.inr, ?_⟩
  rintro ((⟨hsome, hnone, -⟩ | ⟨-, hsome, hnone⟩) | h)
  · exact absurd ⟨hsome, hnone⟩ (hstands _ _)
  · exact absurd ⟨hsome, hnone⟩ (hstands _ _)
  · exact h

/-- R35: every command but power-on and a byte on a link accounts for the attempt it leaves called for. -/
theorem exec_accounts {c : Instr} {s t : State} (hpower : c ≠ .powerOnReset)
    (hbyte : ∀ link byte, c ≠ .linkByteComplete link byte) (hlists : ListsAgree s) (hpool : PoolAndGross s)
    (hcounted : CopiesCounted s) (hexec : exec c s = .next t) : ∃ u, t = s.noteCauses u ∧ Accounts c s u := by
  have hsame : s = s.noteCauses s := (noteCauses_of_same rfl rfl rfl).symm
  by_cases hstrobe : c = .lineStrobe
  · subst hstrobe
    cases hexec
    exact ⟨_, rfl, accounts_strobe s⟩
  by_cases hline : c = .lineProduced
  · subst hline
    cases hexec
    split
    · next hproducible => exact ⟨_, rfl, accounts_lineProduced hproducible⟩
    · exact ⟨s, hsame, accounts_idle rfl (by simp)⟩
  by_cases hattempt : c = .selectionAttempt
  · subst hattempt
    by_cases hmade : AttemptMade s
    · obtain ⟨-, -, ⟨-, ⟨active, hactive, -⟩, -⟩, -⟩ := id hmade
      rw [exec_attempt hactive hmade] at hexec
      cases hexec
      exact ⟨_, rfl, accounts_attempt active hmade⟩
    · rw [exec_attempt_notMade hmade] at hexec
      cases hexec
      exact ⟨s, hsame, accounts_idle rfl fun h => hmade h.2⟩
  match hc : c.request with
  | some (link, code, fields) => exact exec_request_accounts hc hlists hpool hcounted hexec
  | none =>
    obtain ⟨u, ht, hfair⟩ :=
      exec_other_fair hc hpower hbyte hstrobe hline hattempt hlists hpool hcounted hexec
    refine ⟨u, ht, accounts_of_fair hstrobe hline hattempt ?_ hfair⟩
    rintro ⟨code, fields, status, out, hcode, -⟩
    rw [hc] at hcode
    cases hcode

/-- Settles O38. -/
theorem selectionAttemptRequestsOrMarks : Obligations.SelectionAttemptRequestsOrMarks := by
  refine ⟨fun s active hactive hmade hno => ⟨fun c slot n i e hpassed hnone hleads hfits =>
    attempt_requests hactive hmade hno hpassed hnone hleads hfits, attempt_passes hactive hmade hno⟩,
    fun c s t hpower hbyte hlists hpool hcounted hexec => ?_⟩
  obtain ⟨u, rfl, haccounts⟩ := exec_accounts hpower hbyte hlists hpool hcounted hexec
  exact noted_of_accounts haccounts

end Sys2Proof.Causes
